-- ==== Sys2Proof/Word.lean ====
section
/-!
DEFINITION. The word and byte types of the machine (R30).
-/

namespace Sys2Proof

/-- A 32-bit word: a register, an address while it is computed, an instruction (R30). -/
abbrev Word := BitVec 32

/-- The unit of memory (R30, R120). -/
abbrev Byte := BitVec 8

end Sys2Proof
end

