-- ==== Sys2Proof/Config.lean ====
section
/-!
DEFINITION. What an implementation fixes (R14), the record a TLB slot holds (R80), and the free values: constants
without a body, so that nothing can be proved about the value they give.
-/

namespace Sys2Proof

/-- Which external abort the memory system answers a data access with, outside `physMem` (R14
`EXTERNAL_ABORTS`, R742). -/
inductive DataExternalAbort where
  | none | precise | imprecise
  deriving DecidableEq, Repr

/-- A range of physical addresses: `base` to `base + size - 1`. -/
structure Region where
  base : Nat
  size : Nat
  deriving DecidableEq, Repr

/-- The implementation parameters of R14, fixed for a machine. The booleans `extFetch`, `extWalk`, `extImprecise`
and the value `extData` are the set `EXTERNAL_ABORTS`; `parityBad` refines `PARITY`
(entries 9, 10). `HAS_VE` and `HAS_FI` are false in every machine of this model (R771, R820), and
`WALK_READS_L1` has no effect without a cache, so none of the three is a field (entry 5). -/
structure Params where
  tlbUnified : Bool
  tlbEntries : Nat
  dlockN : Nat
  ilockN : Nat
  lockBaseFixedZero : Bool
  supersections : Bool
  paExtraBits : Nat
  hasIfar : Bool
  hasWBit : Bool
  extFetch : Bool
  extWalk : Bool
  extData : DataExternalAbort
  extImprecise : Bool
  parity : Bool
  parityBad : List Region
  imprecisePendMax : Nat
  pcStoreOffset12 : Bool
  hivecsAtReset : Bool
  eeAtReset : Bool
  coprocessors : List Nat
  physMem : List Region
  deriving DecidableEq, Repr

/-- The column "default used by the worked examples" of R14; `physMem` is the whole 32-bit physical space. -/
def Params.default : Params where
  tlbUnified := true
  tlbEntries := 8
  dlockN := 0
  ilockN := 0
  lockBaseFixedZero := false
  supersections := false
  paExtraBits := 0
  hasIfar := false
  hasWBit := false
  extFetch := false
  extWalk := false
  extData := .none
  extImprecise := false
  parity := false
  parityBad := []
  imprecisePendMax := 1
  pcStoreOffset12 := false
  hivecsAtReset := false
  eeAtReset := false
  coprocessors := [15]
  physMem := [⟨0, 0x100000000⟩]

/-- The four block sizes of R186. -/
inductive BlockSize where
  | smallPage | largePage | section1MB | supersection16MB
  deriving DecidableEq, Repr

/-- Which level of descriptor an entry came from: it picks the fault status code (R80, R229). -/
inductive TableLevel where
  | firstLevel | secondLevel
  deriving DecidableEq, Repr

/-- A TLB entry (R80). `pa` is the physical base address of the block, up to 40 bits. -/
structure TlbEntry where
  mva : Word
  size : BlockSize
  pa : BitVec 40
  global : Bool
  asid : BitVec 8
  domain : BitVec 4
  apx : Bool
  ap : BitVec 2
  sBit : Bool
  rBit : Bool
  xn : Bool
  tex : BitVec 3
  c : Bool
  b : Bool
  shared : Bool
  level : TableLevel
  locked : Bool
  deriving DecidableEq, Repr

/-- The `n`-th free word: the value an `ANY` of the spec takes (R17, R19). Uninterpreted (entry 6). -/
opaque Config.anyWord : Nat → Word

/-- The TLB contents a Reset in the middle of a run leaves (R802). Uninterpreted (entry 2). -/
opaque Config.anyTlb : Nat → List (Option TlbEntry)

end Sys2Proof
end

