-- ==== Sys2Proof/Machine/State.lean ====
section
/-!
DEFINITION. The state of the machine as plain data (10_state.md), the reasons a step can stop, and the state
right after reset (R88, R800).
-/

namespace Sys2Proof.Machine

open Sys2Proof

/-- The seven processor modes of R31. -/
inductive Mode where
  | usr | fiq | irq | svc | abt | und | sys
  deriving DecidableEq, Repr

/-- The thirty physical general-purpose registers other than the program counter (R34, R35). -/
inductive PhysReg where
  | r0 | r1 | r2 | r3 | r4 | r5 | r6 | r7
  | r8usr | r9usr | r10usr | r11usr | r12usr
  | r8fiq | r9fiq | r10fiq | r11fiq | r12fiq
  | r13usr | r13svc | r13abt | r13und | r13irq | r13fiq
  | r14usr | r14svc | r14abt | r14und | r14irq | r14fiq
  deriving DecidableEq, Repr

/-- The contents of the physical registers of `PhysReg` (R34). -/
structure Regs where
  r0 : Word
  r1 : Word
  r2 : Word
  r3 : Word
  r4 : Word
  r5 : Word
  r6 : Word
  r7 : Word
  r8usr : Word
  r9usr : Word
  r10usr : Word
  r11usr : Word
  r12usr : Word
  r8fiq : Word
  r9fiq : Word
  r10fiq : Word
  r11fiq : Word
  r12fiq : Word
  r13usr : Word
  r13svc : Word
  r13abt : Word
  r13und : Word
  r13irq : Word
  r13fiq : Word
  r14usr : Word
  r14svc : Word
  r14abt : Word
  r14und : Word
  r14irq : Word
  r14fiq : Word
  deriving DecidableEq, Repr

/-- A program status register (R46), by its named fields. The reserved bits 26:25, 23:20 and 15:10 read as zero
and ignore writes (R47, R58), so they have no storage (entry 7); `Psr.toWord` and `Psr.ofWord` give the 32-bit form. -/
structure Psr where
  n : Bool
  z : Bool
  c : Bool
  v : Bool
  q : Bool
  j : Bool
  ge : BitVec 4
  e : Bool
  a : Bool
  i : Bool
  f : Bool
  t : Bool
  m : BitVec 5
  deriving DecidableEq, Repr

/-- The saved program status registers of the five exception modes (R46). -/
structure Spsrs where
  fiq : Psr
  irq : Psr
  svc : Psr
  abt : Psr
  und : Psr
  deriving DecidableEq, Repr

/-- A CP15 register that is subject to the synchronisation window (R85, R812): the last value written, and the
values it has held since the last synchronisation point. -/
structure Synced where
  current : Word
  window : List Word
  deriving DecidableEq, Repr

/-- One write of TTBR0 by MCR: the value written, and the values of N that writes of the TTBCR have given since then
(R337). -/
structure Ttbr0Write where
  value : Word
  laterN : List Nat
  deriving DecidableEq, Repr

/-- A TLB with its lockdown register (R76, R80, R246). `lockSlots` are the dedicated lockable entries of the
form whose base field is fixed at zero, and empty in the other form (R248). -/
structure Tlb where
  slots : List (Option TlbEntry)
  lockSlots : List (Option TlbEntry)
  base : Nat
  victim : Nat
  p : Bool
  deriving DecidableEq, Repr

/-- What the replacement mechanism does about one TLB lookup (R182 item 2, R246): the slots whose entry it forgets
before the lookup, and the next victim it chooses if the lookup misses (entry 13). -/
structure Replacement where
  forget : List Nat
  next : Option Nat
  deriving DecidableEq, Repr

/-- What the world outside signals at one instruction boundary (R83, R842): the three input pins, and whether the
memory system raises an imprecise abort (entry 12). -/
structure Boundary where
  reset : Bool
  irq : Bool
  fiq : Bool
  imprecise : Bool
  deriving DecidableEq, Repr

/-- How the external memory system answers one access to an address with memory behind it (R742, R842): it serves the
access, or it signals an external error, or a parity error reported precisely or late: late as an imprecise abort, where
the implementation provides those (R82). -/
inductive MemoryResponse where
  | served | error | parity | lateParity
  deriving DecidableEq, Repr

/-- Physical memory (R86): address and byte pairs, addresses strictly rising, no byte zero; an address that is not
listed reads as zero (entry 4). -/
abbrev Memory := List Host.Cell

/-- The state of the machine. `cfg`, `inputs`, `responses`, `replacements`, `picks` and `draws` are the model's own
fields. -/
structure State where
  /-- The implementation parameters (R14); no step changes them. -/
  cfg : Params
  /-- The banked general-purpose registers (R34). -/
  regs : Regs
  /-- The address of the next instruction to execute (R41). -/
  pc : Word
  /-- The current program status register (R46). -/
  cpsr : Psr
  /-- The saved program status registers (R46). -/
  spsr : Spsrs
  /-- CP15 register 1, the control register (R62). -/
  sctlr : Synced
  /-- CP15 register 2, opcode_2 0 (R63). -/
  ttbr0 : Synced
  /-- The writes of TTBR0 whose values it may still take, the last one first: what the corner case of R337 needs to
  know of the past (entry 28). A Reset is no write. -/
  ttbr0Writes : List Ttbr0Write
  /-- CP15 register 2, opcode_2 1 (R64). -/
  ttbr1 : Synced
  /-- CP15 register 2, opcode_2 2; only N, bits[2:0], is ever non-zero (R65). -/
  ttbcr : Synced
  /-- CP15 register 3 (R67). -/
  dacr : Synced
  /-- CP15 register 13, opcode_2 1 (R78). -/
  contextId : Synced
  /-- CP15 register 5, opcode_2 0 (R69). -/
  dfsr : Word
  /-- CP15 register 5, opcode_2 1 (R70). -/
  ifsr : Word
  /-- CP15 register 6, opcode_2 0 (R72). -/
  far : Word
  /-- CP15 register 6, opcode_2 1 (R73). -/
  wfar : Word
  /-- CP15 register 6, opcode_2 2, there when `cfg.hasIfar` (R74). -/
  ifar : Word
  /-- The unified or data TLB (R80, R183). -/
  tlbD : Tlb
  /-- The instruction TLB, used when `cfg.tlbUnified` is false (R183). -/
  tlbI : Tlb
  /-- The exclusive monitor: the tagged physical word address, if any (R84, R650). -/
  excl : Option Nat
  /-- Pending imprecise aborts (R82). -/
  pendingImprecise : Nat
  /-- How many of the pending imprecise aborts are parity errors (R82, R737, R742). -/
  pendingParity : Nat
  /-- Physical memory (R86). -/
  mem : Memory
  /-- What the outside signals at the coming instruction boundaries (R83). -/
  inputs : List Boundary
  /-- How the external memory system answers the coming accesses to memory (R742, R842, entry 12). -/
  responses : List MemoryResponse
  /-- What the replacement mechanism does at the coming TLB lookups (R182, R246). -/
  replacements : List Replacement
  /-- Which value each coming use of a register with an open window takes (R812). -/
  picks : List Nat
  /-- How many free values have been drawn (R17 `ANY`). -/
  draws : Nat
  deriving DecidableEq, Repr

/-- Why a step stops the machine with a fault. Both are safe: the spec refuses here and the machine it describes
goes on in a way no source states, so no claim about a next state can be proved. -/
inductive Fault where
  /-- An access to a physical address with no memory behind it, where no external abort is provided (R86, R124).
  Raised by data accesses, fetches and table walks. Safe. -/
  | noMemory (pa : Nat)
  /-- An access that runs past the end of the 2^32-byte address space (R126). Raised by data accesses and multiple
  transfers. Safe. -/
  | addressWrap
  deriving DecidableEq, Repr

/-- Why the machine refuses a step. Every reason is safe: the spec calls the behaviour UNPREDICTABLE or leaves it
outside the model (R19), so nothing is claimed about it. -/
inductive Refusal where
  /-- An arm of `exec` that has no meaning yet. Raised by `exec` alone. Safe. -/
  | notModelled (mnemonic : String)
  /-- A word whose encoding is UNPREDICTABLE (R269, R270). Raised by `execUnpredictableWord`. Safe. -/
  | unpredictableEncoding
  /-- A combination of operands the spec calls UNPREDICTABLE. Raised by the meanings that say so. Safe. -/
  | unpredictableOperands
  /-- The next instruction address would pass 0xFFFFFFFF (R42), or a branch target would pass either end of the address
  space (R400). Raised by `State.advance`, B and BL. Safe. -/
  | pcWrap
  /-- Entry to Thumb state (R9, R57). Raised by BX, BLX, loads of the PC and exception returns. Safe. -/
  | thumbState
  /-- Entry to Jazelle state (R9, R57). Raised by BXJ and exception returns. Safe. -/
  | jazelleState
  /-- An illegal value for the mode bits (R56). Raised by MSR, CPS, SRS and exception returns. Safe. -/
  | illegalMode
  /-- A use of the SPSR in User or System mode (R49). Raised by MRS, MSR, SRS and exception returns. Safe. -/
  | noSpsr
  /-- A privileged-only instruction whose use in User mode (or in System mode) is UNPREDICTABLE (R775). Safe. -/
  | unpredictableInMode
  /-- A write of ones to the execution state bits of the CPSR (R48). Raised by MSR. Safe. -/
  | executionStateBits
  /-- A misaligned access whose result the missing alignment table decides (R133). Raised by data accesses. Safe. -/
  | misaligned
  /-- Translation with XP = 0 (R239), or a single-entry TLB invalidate with XP = 0 (R359). Safe. -/
  | subpagesEnabled
  /-- Two or more TLB entries match (R184). Raised by a TLB lookup. Safe. -/
  | multipleTlbMatch
  /-- A table base register with a reserved RGN or with IMP set (R66). Raised by a table walk. Safe. -/
  | tableBaseReserved
  /-- A TTBR0 with bits set that a TTBCR write after the write of TTBR0 made insignificant (R337). Raised by a table
  walk. Safe. -/
  | tableBaseInsignificant
  /-- A descriptor with IMP set or a should-be-zero bit set (R195, R196). Raised by a table walk. Safe. -/
  | descriptorReserved
  /-- A supersection the implementation does not support (R203). Raised by a table walk. Safe. -/
  | supersectionUnsupported
  /-- A domain whose access field is the reserved value 10 (R212). Raised by the access check. Safe. -/
  | reservedDomainAccess
  /-- A reserved combination of S, R, APX and AP (R215). Raised by the access check. Safe. -/
  | reservedPermission
  /-- Reserved or IMPLEMENTATION DEFINED memory attributes (R154). Raised when a mapping is used. Safe. -/
  | reservedAttributes
  /-- A CP15 access that no source describes (R360, R370). Raised by MCR and MRC. Safe. -/
  | cp15Undescribed
  /-- A CP15 access the sources call UNPREDICTABLE (R344, R360). Raised by MCR and MRC. Safe. -/
  | cp15Unpredictable
  /-- A non-zero value written to a should-be-zero field of CP15 (R18), IMP of a TTBR among them (D35). Raised by MCR.
  Safe. -/
  | cp15ShouldBeZero
  /-- A control register write that sets VE, bit 22 or FI (R335). Raised by MCR. Safe. -/
  | controlBitOutsideModel
  /-- A lockdown register access outside R362 to R364, or a base or victim at or beyond the lockable count (D34). Raised
  by MCR and MRC. Safe. -/
  | lockdown
  /-- A non-zero FCSE PID (R365). Raised by MCR. Safe. -/
  | fcsePid
  /-- A coprocessor instruction for a coprocessor that is there and that no source describes (R9, R370). Safe. -/
  | coprocessorUndescribed
  deriving DecidableEq, Repr

/-- All registers zero. -/
def Regs.zero : Regs :=
  ⟨0, 0, 0, 0, 0, 0, 0, 0, 0, 0, 0, 0, 0, 0, 0, 0, 0, 0, 0, 0, 0, 0, 0, 0, 0, 0, 0, 0, 0, 0⟩

/-- A program status register with every field zero. -/
def Psr.zero : Psr :=
  ⟨false, false, false, false, false, false, 0, false, false, false, false, false, 0⟩

/-- An empty TLB with the slots the parameters give it. -/
def Tlb.empty (entries lockable : Nat) : Tlb :=
  ⟨List.replicate entries none, List.replicate lockable none, 0, 0, false⟩

/-- The machine right after reset (R88, R800) with the default parameters of R14: Supervisor mode with A, I and F
set, the MMU off, N = 0, bit 3 of the control register one because there is no W bit. Everything the spec gives no
value for is zero or empty (entries 1, 3, 4). -/
def State.reset : State where
  cfg := Params.default
  regs := Regs.zero
  pc := 0
  cpsr := { Psr.zero with a := true, i := true, f := true, m := 0b10011#5 }
  spsr := ⟨Psr.zero, Psr.zero, Psr.zero, Psr.zero, Psr.zero⟩
  sctlr := ⟨0x00000008, []⟩
  ttbr0 := ⟨0, []⟩
  ttbr0Writes := []
  ttbr1 := ⟨0, []⟩
  ttbcr := ⟨0, []⟩
  dacr := ⟨0, []⟩
  contextId := ⟨0, []⟩
  dfsr := 0
  ifsr := 0
  far := 0
  wfar := 0
  ifar := 0
  tlbD := Tlb.empty 8 0
  tlbI := Tlb.empty 8 0
  excl := none
  pendingImprecise := 0
  pendingParity := 0
  mem := []
  inputs := []
  responses := []
  replacements := []
  picks := []
  draws := 0

end Sys2Proof.Machine
end

