-- ==== Sys2Proof/Syntax.lean ====
section
/-!
DEFINITION. The abstract syntax of the ARM instructions in scope: one constructor of `Instr` for each
instruction row of the opcode table, and one each for its UNDEFINED and UNPREDICTABLE rows.
-/

namespace Sys2Proof

/-- The fifteen conditions of R262; bits 1111 are no condition (R265). -/
inductive Cond where
  | eq | ne | cs | cc | mi | pl | vs | vc | hi | ls | ge | lt | gt | le | al
  deriving DecidableEq, Repr

/-- A register number 0 to 15 as an instruction names it (R34). -/
abbrev Reg := BitVec 4

/-- The four shifts the two-bit `shift` field selects (R273). -/
inductive ShiftType where
  | lsl | lsr | asr | ror
  deriving DecidableEq, Repr

/-- A register shifted by an immediate amount: bits[11:0] of a data-processing or a scaled register offset
word (R273, R282). -/
structure ImmShift where
  amount : BitVec 5
  ty : ShiftType
  rm : Reg
  deriving DecidableEq, Repr

/-- A register shifted by a register (R273). -/
structure RegShift where
  rs : Reg
  ty : ShiftType
  rm : Reg
  deriving DecidableEq, Repr

/-- An eight-bit immediate rotated right by twice `rot` (R273, R310). -/
structure RotImm where
  rot : BitVec 4
  imm : BitVec 8
  deriving DecidableEq, Repr

/-- What the P and W bits of addressing modes 2 and 3 select (R282, R286): offset addressing, pre-indexed,
post-indexed. -/
inductive IndexMode where
  | offset | pre | post
  deriving DecidableEq, Repr

/-- What the P and U bits of addressing mode 4 select (R288): decrement or increment, after or before. -/
inductive AddrMode4 where
  | da | ia | db | ib
  deriving DecidableEq, Repr

/-- An instruction. Fields carry the names of the opcode table; `wb` is its W bit, `u` its U bit, `s` its S bit,
`cp` the coprocessor number, `list` a register list. -/
inductive Instr where
  /-- `CPS` (unconditional), R594. -/
  | cps (imod : BitVec 2) (mmod a i f : Bool) (mode : BitVec 5)
  /-- `SETEND` (unconditional), R596. -/
  | setend (e : Bool)
  /-- `PLD` (unconditional, addressing mode 2 immediate offset), R640. -/
  | pldImm (u : Bool) (rn : Reg) (imm : BitVec 12)
  /-- `PLD` (unconditional, addressing mode 2 (scaled) register offset), R640. -/
  | pldReg (u : Bool) (rn : Reg) (op : ImmShift)
  /-- `SRS` (unconditional, addressing mode 4), R666. -/
  | srs (am : AddrMode4) (wb : Bool) (mode : BitVec 5)
  /-- `RFE` (unconditional, addressing mode 4), R667. -/
  | rfe (am : AddrMode4) (wb : Bool) (rn : Reg)
  /-- `BLX__1` (unconditional branch), R403. -/
  | blx1 (h : Bool) (imm : BitVec 24)
  /-- `MCRR2` (unconditional coprocessor), R705. -/
  | mcrr2 (rn rd : Reg) (cp op crm : BitVec 4)
  /-- `MRRC2` (unconditional coprocessor), R706. -/
  | mrrc2 (rn rd : Reg) (cp op crm : BitVec 4)
  /-- `STC2` (unconditional coprocessor, addressing mode 5), R704. -/
  | stc2 (p u n wb : Bool) (rn : Reg) (crd cp : BitVec 4) (off : BitVec 8)
  /-- `LDC2` (unconditional coprocessor, addressing mode 5), R703. -/
  | ldc2 (p u n wb : Bool) (rn : Reg) (crd cp : BitVec 4) (off : BitVec 8)
  /-- `CDP2` (unconditional coprocessor), R700. -/
  | cdp2 (op1 crn crd cp : BitVec 4) (op2 : BitVec 3) (crm : BitVec 4)
  /-- `MCR2` (unconditional coprocessor), R701. -/
  | mcr2 (op1 : BitVec 3) (crn : BitVec 4) (rd : Reg) (cp : BitVec 4) (op2 : BitVec 3) (crm : BitVec 4)
  /-- `MRC2` (unconditional coprocessor), R702. -/
  | mrc2 (op1 : BitVec 3) (crn : BitVec 4) (rd : Reg) (cp : BitVec 4) (op2 : BitVec 3) (crm : BitVec 4)
  /-- `MUL` (multiply), R453. -/
  | mul (c : Cond) (s : Bool) (rd rs rm : Reg)
  /-- `MLA` (multiply), R454. -/
  | mla (c : Cond) (s : Bool) (rd rn rs rm : Reg)
  /-- `UMAAL` (multiply), R459. -/
  | umaal (c : Cond) (rdHi rdLo rs rm : Reg)
  /-- `UMULL` (multiply long), R455. -/
  | umull (c : Cond) (s : Bool) (rdHi rdLo rs rm : Reg)
  /-- `UMLAL` (multiply long), R456. -/
  | umlal (c : Cond) (s : Bool) (rdHi rdLo rs rm : Reg)
  /-- `SMULL` (multiply long), R457. -/
  | smull (c : Cond) (s : Bool) (rdHi rdLo rs rm : Reg)
  /-- `SMLAL` (multiply long), R458. -/
  | smlal (c : Cond) (s : Bool) (rdHi rdLo rs rm : Reg)
  /-- `SWP` (extra load/store), R670. -/
  | swp (c : Cond) (rn rd rm : Reg)
  /-- `SWPB` (extra load/store), R671. -/
  | swpb (c : Cond) (rn rd rm : Reg)
  /-- `STREX` (extra load/store), R652. -/
  | strex (c : Cond) (rn rd rm : Reg)
  /-- `LDREX` (extra load/store), R651. -/
  | ldrex (c : Cond) (rn rd : Reg)
  /-- `STRH` (addressing mode 3, register offset), R628. -/
  | strhReg (c : Cond) (idx : IndexMode) (u : Bool) (rn rd rm : Reg)
  /-- `STRH` (addressing mode 3, immediate offset), R628. -/
  | strhImm (c : Cond) (idx : IndexMode) (u : Bool) (rn rd : Reg) (off : BitVec 8)
  /-- `LDRH` (addressing mode 3, register offset), R625. -/
  | ldrhReg (c : Cond) (idx : IndexMode) (u : Bool) (rn rd rm : Reg)
  /-- `LDRH` (addressing mode 3, immediate offset), R625. -/
  | ldrhImm (c : Cond) (idx : IndexMode) (u : Bool) (rn rd : Reg) (off : BitVec 8)
  /-- `LDRD` (addressing mode 3, register offset), R629. -/
  | ldrdReg (c : Cond) (idx : IndexMode) (u : Bool) (rn rd rm : Reg)
  /-- `LDRD` (addressing mode 3, immediate offset), R629. -/
  | ldrdImm (c : Cond) (idx : IndexMode) (u : Bool) (rn rd : Reg) (off : BitVec 8)
  /-- `LDRSB` (addressing mode 3, register offset), R626. -/
  | ldrsbReg (c : Cond) (idx : IndexMode) (u : Bool) (rn rd rm : Reg)
  /-- `LDRSB` (addressing mode 3, immediate offset), R626. -/
  | ldrsbImm (c : Cond) (idx : IndexMode) (u : Bool) (rn rd : Reg) (off : BitVec 8)
  /-- `STRD` (addressing mode 3, register offset), R630. -/
  | strdReg (c : Cond) (idx : IndexMode) (u : Bool) (rn rd rm : Reg)
  /-- `STRD` (addressing mode 3, immediate offset), R630. -/
  | strdImm (c : Cond) (idx : IndexMode) (u : Bool) (rn rd : Reg) (off : BitVec 8)
  /-- `LDRSH` (addressing mode 3, register offset), R627. -/
  | ldrshReg (c : Cond) (idx : IndexMode) (u : Bool) (rn rd rm : Reg)
  /-- `LDRSH` (addressing mode 3, immediate offset), R627. -/
  | ldrshImm (c : Cond) (idx : IndexMode) (u : Bool) (rn rd : Reg) (off : BitVec 8)
  /-- `MRS` (miscellaneous), R591. -/
  | mrs (c : Cond) (r : Bool) (rd : Reg)
  /-- `MSR` (miscellaneous, register operand), R592. -/
  | msrReg (c : Cond) (r : Bool) (mask : BitVec 4) (rm : Reg)
  /-- `BX` (miscellaneous), R404. -/
  | bx (c : Cond) (rm : Reg)
  /-- `CLZ` (miscellaneous), R553. -/
  | clz (c : Cond) (rd rm : Reg)
  /-- `BXJ` (miscellaneous), R406. -/
  | bxj (c : Cond) (rm : Reg)
  /-- `BLX__2` (miscellaneous), R405. -/
  | blx2 (c : Cond) (rm : Reg)
  /-- `QADD` (miscellaneous), R567. -/
  | qadd (c : Cond) (rn rd rm : Reg)
  /-- `QSUB` (miscellaneous), R568. -/
  | qsub (c : Cond) (rn rd rm : Reg)
  /-- `QDADD` (miscellaneous), R569. -/
  | qdadd (c : Cond) (rn rd rm : Reg)
  /-- `QDSUB` (miscellaneous), R571. -/
  | qdsub (c : Cond) (rn rd rm : Reg)
  /-- `BKPT` (miscellaneous), R691. -/
  | bkpt (imm : BitVec 16)
  /-- `SMLA<x><y>` (signed multiply (type 2)), R461. -/
  | smlaxy (c : Cond) (rd rn rs : Reg) (y x : Bool) (rm : Reg)
  /-- `SMLAW<y>` (signed multiply (type 2)), R464. -/
  | smlawy (c : Cond) (rd rn rs : Reg) (y : Bool) (rm : Reg)
  /-- `SMULW<y>` (signed multiply (type 2)), R463. -/
  | smulwy (c : Cond) (rd rs : Reg) (y : Bool) (rm : Reg)
  /-- `SMLAL<x><y>` (signed multiply (type 2)), R462. -/
  | smlalxy (c : Cond) (rdHi rdLo rs : Reg) (y x : Bool) (rm : Reg)
  /-- `SMUL<x><y>` (signed multiply (type 2)), R460. -/
  | smulxy (c : Cond) (rd rs : Reg) (y x : Bool) (rm : Reg)
  /-- `AND` (data-processing, immediate shift), R426. -/
  | andShiftImm (c : Cond) (s : Bool) (rn rd : Reg) (op : ImmShift)
  /-- `EOR` (data-processing, immediate shift), R427. -/
  | eorShiftImm (c : Cond) (s : Bool) (rn rd : Reg) (op : ImmShift)
  /-- `SUB` (data-processing, immediate shift), R428. -/
  | subShiftImm (c : Cond) (s : Bool) (rn rd : Reg) (op : ImmShift)
  /-- `RSB` (data-processing, immediate shift), R429. -/
  | rsbShiftImm (c : Cond) (s : Bool) (rn rd : Reg) (op : ImmShift)
  /-- `ADD` (data-processing, immediate shift), R430. -/
  | addShiftImm (c : Cond) (s : Bool) (rn rd : Reg) (op : ImmShift)
  /-- `ADC` (data-processing, immediate shift), R431. -/
  | adcShiftImm (c : Cond) (s : Bool) (rn rd : Reg) (op : ImmShift)
  /-- `SBC` (data-processing, immediate shift), R432. -/
  | sbcShiftImm (c : Cond) (s : Bool) (rn rd : Reg) (op : ImmShift)
  /-- `RSC` (data-processing, immediate shift), R433. -/
  | rscShiftImm (c : Cond) (s : Bool) (rn rd : Reg) (op : ImmShift)
  /-- `TST` (data-processing, immediate shift), R434. -/
  | tstShiftImm (c : Cond) (rn : Reg) (op : ImmShift)
  /-- `TEQ` (data-processing, immediate shift), R435. -/
  | teqShiftImm (c : Cond) (rn : Reg) (op : ImmShift)
  /-- `CMP` (data-processing, immediate shift), R436. -/
  | cmpShiftImm (c : Cond) (rn : Reg) (op : ImmShift)
  /-- `CMN` (data-processing, immediate shift), R437. -/
  | cmnShiftImm (c : Cond) (rn : Reg) (op : ImmShift)
  /-- `ORR` (data-processing, immediate shift), R438. -/
  | orrShiftImm (c : Cond) (s : Bool) (rn rd : Reg) (op : ImmShift)
  /-- `MOV` (data-processing, immediate shift), R439. -/
  | movShiftImm (c : Cond) (s : Bool) (rd : Reg) (op : ImmShift)
  /-- `BIC` (data-processing, immediate shift), R440. -/
  | bicShiftImm (c : Cond) (s : Bool) (rn rd : Reg) (op : ImmShift)
  /-- `MVN` (data-processing, immediate shift), R441. -/
  | mvnShiftImm (c : Cond) (s : Bool) (rd : Reg) (op : ImmShift)
  /-- `AND` (data-processing, register shift), R426. -/
  | andShiftReg (c : Cond) (s : Bool) (rn rd : Reg) (op : RegShift)
  /-- `EOR` (data-processing, register shift), R427. -/
  | eorShiftReg (c : Cond) (s : Bool) (rn rd : Reg) (op : RegShift)
  /-- `SUB` (data-processing, register shift), R428. -/
  | subShiftReg (c : Cond) (s : Bool) (rn rd : Reg) (op : RegShift)
  /-- `RSB` (data-processing, register shift), R429. -/
  | rsbShiftReg (c : Cond) (s : Bool) (rn rd : Reg) (op : RegShift)
  /-- `ADD` (data-processing, register shift), R430. -/
  | addShiftReg (c : Cond) (s : Bool) (rn rd : Reg) (op : RegShift)
  /-- `ADC` (data-processing, register shift), R431. -/
  | adcShiftReg (c : Cond) (s : Bool) (rn rd : Reg) (op : RegShift)
  /-- `SBC` (data-processing, register shift), R432. -/
  | sbcShiftReg (c : Cond) (s : Bool) (rn rd : Reg) (op : RegShift)
  /-- `RSC` (data-processing, register shift), R433. -/
  | rscShiftReg (c : Cond) (s : Bool) (rn rd : Reg) (op : RegShift)
  /-- `TST` (data-processing, register shift), R434. -/
  | tstShiftReg (c : Cond) (rn : Reg) (op : RegShift)
  /-- `TEQ` (data-processing, register shift), R435. -/
  | teqShiftReg (c : Cond) (rn : Reg) (op : RegShift)
  /-- `CMP` (data-processing, register shift), R436. -/
  | cmpShiftReg (c : Cond) (rn : Reg) (op : RegShift)
  /-- `CMN` (data-processing, register shift), R437. -/
  | cmnShiftReg (c : Cond) (rn : Reg) (op : RegShift)
  /-- `ORR` (data-processing, register shift), R438. -/
  | orrShiftReg (c : Cond) (s : Bool) (rn rd : Reg) (op : RegShift)
  /-- `MOV` (data-processing, register shift), R439. -/
  | movShiftReg (c : Cond) (s : Bool) (rd : Reg) (op : RegShift)
  /-- `BIC` (data-processing, register shift), R440. -/
  | bicShiftReg (c : Cond) (s : Bool) (rn rd : Reg) (op : RegShift)
  /-- `MVN` (data-processing, register shift), R441. -/
  | mvnShiftReg (c : Cond) (s : Bool) (rd : Reg) (op : RegShift)
  /-- `MSR` (move immediate to status register), R592. -/
  | msrImm (c : Cond) (r : Bool) (mask : BitVec 4) (op : RotImm)
  /-- `AND` (data-processing, immediate), R426. -/
  | andImm (c : Cond) (s : Bool) (rn rd : Reg) (op : RotImm)
  /-- `EOR` (data-processing, immediate), R427. -/
  | eorImm (c : Cond) (s : Bool) (rn rd : Reg) (op : RotImm)
  /-- `SUB` (data-processing, immediate), R428. -/
  | subImm (c : Cond) (s : Bool) (rn rd : Reg) (op : RotImm)
  /-- `RSB` (data-processing, immediate), R429. -/
  | rsbImm (c : Cond) (s : Bool) (rn rd : Reg) (op : RotImm)
  /-- `ADD` (data-processing, immediate), R430. -/
  | addImm (c : Cond) (s : Bool) (rn rd : Reg) (op : RotImm)
  /-- `ADC` (data-processing, immediate), R431. -/
  | adcImm (c : Cond) (s : Bool) (rn rd : Reg) (op : RotImm)
  /-- `SBC` (data-processing, immediate), R432. -/
  | sbcImm (c : Cond) (s : Bool) (rn rd : Reg) (op : RotImm)
  /-- `RSC` (data-processing, immediate), R433. -/
  | rscImm (c : Cond) (s : Bool) (rn rd : Reg) (op : RotImm)
  /-- `TST` (data-processing, immediate), R434. -/
  | tstImm (c : Cond) (rn : Reg) (op : RotImm)
  /-- `TEQ` (data-processing, immediate), R435. -/
  | teqImm (c : Cond) (rn : Reg) (op : RotImm)
  /-- `CMP` (data-processing, immediate), R436. -/
  | cmpImm (c : Cond) (rn : Reg) (op : RotImm)
  /-- `CMN` (data-processing, immediate), R437. -/
  | cmnImm (c : Cond) (rn : Reg) (op : RotImm)
  /-- `ORR` (data-processing, immediate), R438. -/
  | orrImm (c : Cond) (s : Bool) (rn rd : Reg) (op : RotImm)
  /-- `MOV` (data-processing, immediate), R439. -/
  | movImm (c : Cond) (s : Bool) (rd : Reg) (op : RotImm)
  /-- `BIC` (data-processing, immediate), R440. -/
  | bicImm (c : Cond) (s : Bool) (rn rd : Reg) (op : RotImm)
  /-- `MVN` (data-processing, immediate), R441. -/
  | mvnImm (c : Cond) (s : Bool) (rd : Reg) (op : RotImm)
  /-- `STRT` (addressing mode 2, immediate offset, post-indexed), R618. -/
  | strtImm (c : Cond) (u : Bool) (rn rd : Reg) (imm : BitVec 12)
  /-- `LDRT` (addressing mode 2, immediate offset, post-indexed), R616. -/
  | ldrtImm (c : Cond) (u : Bool) (rn rd : Reg) (imm : BitVec 12)
  /-- `STRBT` (addressing mode 2, immediate offset, post-indexed), R619. -/
  | strbtImm (c : Cond) (u : Bool) (rn rd : Reg) (imm : BitVec 12)
  /-- `LDRBT` (addressing mode 2, immediate offset, post-indexed), R617. -/
  | ldrbtImm (c : Cond) (u : Bool) (rn rd : Reg) (imm : BitVec 12)
  /-- `STR` (addressing mode 2, immediate offset), R614. -/
  | strImm (c : Cond) (idx : IndexMode) (u : Bool) (rn rd : Reg) (imm : BitVec 12)
  /-- `LDR` (addressing mode 2, immediate offset), R611. -/
  | ldrImm (c : Cond) (idx : IndexMode) (u : Bool) (rn rd : Reg) (imm : BitVec 12)
  /-- `STRB` (addressing mode 2, immediate offset), R615. -/
  | strbImm (c : Cond) (idx : IndexMode) (u : Bool) (rn rd : Reg) (imm : BitVec 12)
  /-- `LDRB` (addressing mode 2, immediate offset), R613. -/
  | ldrbImm (c : Cond) (idx : IndexMode) (u : Bool) (rn rd : Reg) (imm : BitVec 12)
  /-- `STRT` (addressing mode 2, (scaled) register offset, post-indexed), R618. -/
  | strtReg (c : Cond) (u : Bool) (rn rd : Reg) (op : ImmShift)
  /-- `LDRT` (addressing mode 2, (scaled) register offset, post-indexed), R616. -/
  | ldrtReg (c : Cond) (u : Bool) (rn rd : Reg) (op : ImmShift)
  /-- `STRBT` (addressing mode 2, (scaled) register offset, post-indexed), R619. -/
  | strbtReg (c : Cond) (u : Bool) (rn rd : Reg) (op : ImmShift)
  /-- `LDRBT` (addressing mode 2, (scaled) register offset, post-indexed), R617. -/
  | ldrbtReg (c : Cond) (u : Bool) (rn rd : Reg) (op : ImmShift)
  /-- `STR` (addressing mode 2, (scaled) register offset), R614. -/
  | strReg (c : Cond) (idx : IndexMode) (u : Bool) (rn rd : Reg) (op : ImmShift)
  /-- `LDR` (addressing mode 2, (scaled) register offset), R611. -/
  | ldrReg (c : Cond) (idx : IndexMode) (u : Bool) (rn rd : Reg) (op : ImmShift)
  /-- `STRB` (addressing mode 2, (scaled) register offset), R615. -/
  | strbReg (c : Cond) (idx : IndexMode) (u : Bool) (rn rd : Reg) (op : ImmShift)
  /-- `LDRB` (addressing mode 2, (scaled) register offset), R613. -/
  | ldrbReg (c : Cond) (idx : IndexMode) (u : Bool) (rn rd : Reg) (op : ImmShift)
  /-- `SADD16` (media, parallel add/subtract), R494. -/
  | sadd16 (c : Cond) (rn rd rm : Reg)
  /-- `SADDSUBX` (media, parallel add/subtract), R495. -/
  | saddsubx (c : Cond) (rn rd rm : Reg)
  /-- `SSUBADDX` (media, parallel add/subtract), R496. -/
  | ssubaddx (c : Cond) (rn rd rm : Reg)
  /-- `SSUB16` (media, parallel add/subtract), R497. -/
  | ssub16 (c : Cond) (rn rd rm : Reg)
  /-- `SADD8` (media, parallel add/subtract), R498. -/
  | sadd8 (c : Cond) (rn rd rm : Reg)
  /-- `SSUB8` (media, parallel add/subtract), R499. -/
  | ssub8 (c : Cond) (rn rd rm : Reg)
  /-- `QADD16` (media, parallel add/subtract), R500. -/
  | qadd16 (c : Cond) (rn rd rm : Reg)
  /-- `QADDSUBX` (media, parallel add/subtract), R501. -/
  | qaddsubx (c : Cond) (rn rd rm : Reg)
  /-- `QSUBADDX` (media, parallel add/subtract), R502. -/
  | qsubaddx (c : Cond) (rn rd rm : Reg)
  /-- `QSUB16` (media, parallel add/subtract), R503. -/
  | qsub16 (c : Cond) (rn rd rm : Reg)
  /-- `QADD8` (media, parallel add/subtract), R504. -/
  | qadd8 (c : Cond) (rn rd rm : Reg)
  /-- `QSUB8` (media, parallel add/subtract), R505. -/
  | qsub8 (c : Cond) (rn rd rm : Reg)
  /-- `SHADD16` (media, parallel add/subtract), R506. -/
  | shadd16 (c : Cond) (rn rd rm : Reg)
  /-- `SHADDSUBX` (media, parallel add/subtract), R507. -/
  | shaddsubx (c : Cond) (rn rd rm : Reg)
  /-- `SHSUBADDX` (media, parallel add/subtract), R508. -/
  | shsubaddx (c : Cond) (rn rd rm : Reg)
  /-- `SHSUB16` (media, parallel add/subtract), R509. -/
  | shsub16 (c : Cond) (rn rd rm : Reg)
  /-- `SHADD8` (media, parallel add/subtract), R510. -/
  | shadd8 (c : Cond) (rn rd rm : Reg)
  /-- `SHSUB8` (media, parallel add/subtract), R511. -/
  | shsub8 (c : Cond) (rn rd rm : Reg)
  /-- `UADD16` (media, parallel add/subtract), R512. -/
  | uadd16 (c : Cond) (rn rd rm : Reg)
  /-- `UADDSUBX` (media, parallel add/subtract), R513. -/
  | uaddsubx (c : Cond) (rn rd rm : Reg)
  /-- `USUBADDX` (media, parallel add/subtract), R514. -/
  | usubaddx (c : Cond) (rn rd rm : Reg)
  /-- `USUB16` (media, parallel add/subtract), R515. -/
  | usub16 (c : Cond) (rn rd rm : Reg)
  /-- `UADD8` (media, parallel add/subtract), R516. -/
  | uadd8 (c : Cond) (rn rd rm : Reg)
  /-- `USUB8` (media, parallel add/subtract), R517. -/
  | usub8 (c : Cond) (rn rd rm : Reg)
  /-- `UQADD16` (media, parallel add/subtract), R518. -/
  | uqadd16 (c : Cond) (rn rd rm : Reg)
  /-- `UQADDSUBX` (media, parallel add/subtract), R519. -/
  | uqaddsubx (c : Cond) (rn rd rm : Reg)
  /-- `UQSUBADDX` (media, parallel add/subtract), R520. -/
  | uqsubaddx (c : Cond) (rn rd rm : Reg)
  /-- `UQSUB16` (media, parallel add/subtract), R521. -/
  | uqsub16 (c : Cond) (rn rd rm : Reg)
  /-- `UQADD8` (media, parallel add/subtract), R522. -/
  | uqadd8 (c : Cond) (rn rd rm : Reg)
  /-- `UQSUB8` (media, parallel add/subtract), R523. -/
  | uqsub8 (c : Cond) (rn rd rm : Reg)
  /-- `UHADD16` (media, parallel add/subtract), R524. -/
  | uhadd16 (c : Cond) (rn rd rm : Reg)
  /-- `UHADDSUBX` (media, parallel add/subtract), R525. -/
  | uhaddsubx (c : Cond) (rn rd rm : Reg)
  /-- `UHSUBADDX` (media, parallel add/subtract), R526. -/
  | uhsubaddx (c : Cond) (rn rd rm : Reg)
  /-- `UHSUB16` (media, parallel add/subtract), R527. -/
  | uhsub16 (c : Cond) (rn rd rm : Reg)
  /-- `UHADD8` (media, parallel add/subtract), R528. -/
  | uhadd8 (c : Cond) (rn rd rm : Reg)
  /-- `UHSUB8` (media, parallel add/subtract), R529. -/
  | uhsub8 (c : Cond) (rn rd rm : Reg)
  /-- `PKHBT` (media, halfword pack), R559. -/
  | pkhbt (c : Cond) (rn rd : Reg) (imm : BitVec 5) (rm : Reg)
  /-- `PKHTB` (media, halfword pack), R560. -/
  | pkhtb (c : Cond) (rn rd : Reg) (imm : BitVec 5) (rm : Reg)
  /-- `SSAT` (media, word saturate), R563. -/
  | ssat (c : Cond) (sat : BitVec 5) (rd : Reg) (imm : BitVec 5) (sh : Bool) (rm : Reg)
  /-- `USAT` (media, word saturate), R565. -/
  | usat (c : Cond) (sat : BitVec 5) (rd : Reg) (imm : BitVec 5) (sh : Bool) (rm : Reg)
  /-- `SSAT16` (media, parallel halfword saturate), R564. -/
  | ssat16 (c : Cond) (sat : BitVec 4) (rd rm : Reg)
  /-- `USAT16` (media, parallel halfword saturate), R566. -/
  | usat16 (c : Cond) (sat : BitVec 4) (rd rm : Reg)
  /-- `REV` (media, byte reverse), R555. -/
  | rev (c : Cond) (rd rm : Reg)
  /-- `REV16` (media, byte reverse), R556. -/
  | rev16 (c : Cond) (rd rm : Reg)
  /-- `REVSH` (media, byte reverse), R557. -/
  | revsh (c : Cond) (rd rm : Reg)
  /-- `SEL` (media, select bytes), R562. -/
  | sel (c : Cond) (rn rd rm : Reg)
  /-- `SXTB16` (media, sign/zero extend), R544. -/
  | sxtb16 (c : Cond) (rd : Reg) (rot : BitVec 2) (rm : Reg)
  /-- `SXTAB16` (media, sign/zero extend and add), R541. -/
  | sxtab16 (c : Cond) (rn rd : Reg) (rot : BitVec 2) (rm : Reg)
  /-- `SXTB` (media, sign/zero extend), R545. -/
  | sxtb (c : Cond) (rd : Reg) (rot : BitVec 2) (rm : Reg)
  /-- `SXTAB` (media, sign/zero extend and add), R542. -/
  | sxtab (c : Cond) (rn rd : Reg) (rot : BitVec 2) (rm : Reg)
  /-- `SXTH` (media, sign/zero extend), R546. -/
  | sxth (c : Cond) (rd : Reg) (rot : BitVec 2) (rm : Reg)
  /-- `SXTAH` (media, sign/zero extend and add), R543. -/
  | sxtah (c : Cond) (rn rd : Reg) (rot : BitVec 2) (rm : Reg)
  /-- `UXTB16` (media, sign/zero extend), R550. -/
  | uxtb16 (c : Cond) (rd : Reg) (rot : BitVec 2) (rm : Reg)
  /-- `UXTAB16` (media, sign/zero extend and add), R547. -/
  | uxtab16 (c : Cond) (rn rd : Reg) (rot : BitVec 2) (rm : Reg)
  /-- `UXTB` (media, sign/zero extend), R551. -/
  | uxtb (c : Cond) (rd : Reg) (rot : BitVec 2) (rm : Reg)
  /-- `UXTAB` (media, sign/zero extend and add), R548. -/
  | uxtab (c : Cond) (rn rd : Reg) (rot : BitVec 2) (rm : Reg)
  /-- `UXTH` (media, sign/zero extend), R552. -/
  | uxth (c : Cond) (rd : Reg) (rot : BitVec 2) (rm : Reg)
  /-- `UXTAH` (media, sign/zero extend and add), R549. -/
  | uxtah (c : Cond) (rn rd : Reg) (rot : BitVec 2) (rm : Reg)
  /-- `SMUAD` (media, multiply (type 3)), R468. -/
  | smuad (c : Cond) (rd rs : Reg) (x : Bool) (rm : Reg)
  /-- `SMLAD` (media, multiply (type 3)), R470. -/
  | smlad (c : Cond) (rd rn rs : Reg) (x : Bool) (rm : Reg)
  /-- `SMUSD` (media, multiply (type 3)), R469. -/
  | smusd (c : Cond) (rd rs : Reg) (x : Bool) (rm : Reg)
  /-- `SMLSD` (media, multiply (type 3)), R471. -/
  | smlsd (c : Cond) (rd rn rs : Reg) (x : Bool) (rm : Reg)
  /-- `SMLALD` (media, multiply (type 3)), R472. -/
  | smlald (c : Cond) (rdHi rdLo rs : Reg) (x : Bool) (rm : Reg)
  /-- `SMLSLD` (media, multiply (type 3)), R473. -/
  | smlsld (c : Cond) (rdHi rdLo rs : Reg) (x : Bool) (rm : Reg)
  /-- `SMMUL` (media, multiply (type 3)), R465. -/
  | smmul (c : Cond) (rd rs : Reg) (r : Bool) (rm : Reg)
  /-- `SMMLA` (media, multiply (type 3)), R466. -/
  | smmla (c : Cond) (rd rn rs : Reg) (r : Bool) (rm : Reg)
  /-- `SMMLS` (media, multiply (type 3)), R467. -/
  | smmls (c : Cond) (rd rn rs : Reg) (r : Bool) (rm : Reg)
  /-- `USAD8` (media, sum of absolute differences), R554. -/
  | usad8 (c : Cond) (rd rs rm : Reg)
  /-- `USADA8` (media, sum of absolute differences), R558. -/
  | usada8 (c : Cond) (rd rn rs rm : Reg)
  /-- `LDM__1` (addressing mode 4), R661. -/
  | ldm1 (c : Cond) (am : AddrMode4) (wb : Bool) (rn : Reg) (list : BitVec 16)
  /-- `LDM__3` (addressing mode 4), R663. -/
  | ldm3 (c : Cond) (am : AddrMode4) (wb : Bool) (rn : Reg) (list : BitVec 15)
  /-- `LDM__2` (addressing mode 4), R662. -/
  | ldm2 (c : Cond) (am : AddrMode4) (wb : Bool) (rn : Reg) (list : BitVec 15)
  /-- `STM__1` (addressing mode 4), R664. -/
  | stm1 (c : Cond) (am : AddrMode4) (wb : Bool) (rn : Reg) (list : BitVec 16)
  /-- `STM__2` (addressing mode 4), R665. -/
  | stm2 (c : Cond) (am : AddrMode4) (wb : Bool) (rn : Reg) (list : BitVec 16)
  /-- `B` (branch), R401. -/
  | b (c : Cond) (imm : BitVec 24)
  /-- `BL` (branch), R402. -/
  | bl (c : Cond) (imm : BitVec 24)
  /-- `MCRR` (coprocessor), R698. -/
  | mcrr (c : Cond) (rn rd : Reg) (cp op crm : BitVec 4)
  /-- `MRRC` (coprocessor), R699. -/
  | mrrc (c : Cond) (rn rd : Reg) (cp op crm : BitVec 4)
  /-- `STC` (coprocessor, addressing mode 5), R697. -/
  | stc (c : Cond) (p u n wb : Bool) (rn : Reg) (crd cp : BitVec 4) (off : BitVec 8)
  /-- `LDC` (coprocessor, addressing mode 5), R696. -/
  | ldc (c : Cond) (p u n wb : Bool) (rn : Reg) (crd cp : BitVec 4) (off : BitVec 8)
  /-- `CDP` (coprocessor), R693. -/
  | cdp (c : Cond) (op1 crn crd cp : BitVec 4) (op2 : BitVec 3) (crm : BitVec 4)
  /-- `MCR` (coprocessor), R694. -/
  | mcr (c : Cond) (op1 : BitVec 3) (crn : BitVec 4) (rd : Reg) (cp : BitVec 4) (op2 : BitVec 3) (crm : BitVec 4)
  /-- `MRC` (coprocessor), R695. -/
  | mrc (c : Cond) (op1 : BitVec 3) (crn : BitVec 4) (rd : Reg) (cp : BitVec 4) (op2 : BitVec 3) (crm : BitVec 4)
  /-- `SWI` (software interrupt), R690. -/
  | swi (c : Cond) (imm : BitVec 24)
  /-- The rows `UNDEFINED` of the opcode table: a word no instruction is allocated to (R269, R708). -/
  | undefinedWord (w : Word)
  /-- The rows `UNPREDICTABLE`, and every word whose should-be-zero or should-be-one bits are wrong (R269, R270). -/
  | unpredictableWord (w : Word)
  deriving DecidableEq, Repr

end Sys2Proof
end

