-- ==== Sys2Proof/Machine/Ops.lean ====
section
/-!
DEFINITION. The named operations over registers, status registers, synchronised CP15 registers, memory and free
values; taking an exception and returning from one.
-/

namespace Sys2Proof.Machine

open Sys2Proof

/-- What one instruction or step answers. -/
abbrev Out := Host.Outcome State Fault Refusal

/-! ### Modes and banks -/

/-- The mode number of R31. -/
def Mode.bits : Mode → BitVec 5
  | .usr => 0b10000#5 | .fiq => 0b10001#5 | .irq => 0b10010#5 | .svc => 0b10011#5
  | .abt => 0b10111#5 | .und => 0b11011#5 | .sys => 0b11111#5

/-- R31; `none` for the 25 values that are no mode (R56). -/
def Mode.ofBits (b : BitVec 5) : Option Mode :=
  match b.toNat with
  | 16 => some .usr | 17 => some .fiq | 18 => some .irq | 19 => some .svc
  | 23 => some .abt | 27 => some .und | 31 => some .sys
  | _ => none

/-- The current mode. An illegal value, which no run reaches (R56), counts as User mode (entry 7). -/
def State.mode (s : State) : Mode := (Mode.ofBits s.cpsr.m).getD .usr

/-- R32: every mode but User is privileged. -/
def State.privileged (s : State) : Bool := s.mode != .usr

/-- The physical register that `R[n]` names in a mode, for `n` from 0 to 14 (R35). R15 is not in a bank; it reads and
writes through `State.readReg` and `State.branch`. -/
def bankedReg (m : Mode) (n : Reg) : PhysReg :=
  match n.toNat with
  | 0 => .r0 | 1 => .r1 | 2 => .r2 | 3 => .r3 | 4 => .r4 | 5 => .r5 | 6 => .r6 | 7 => .r7
  | 8 => if m = .fiq then .r8fiq else .r8usr
  | 9 => if m = .fiq then .r9fiq else .r9usr
  | 10 => if m = .fiq then .r10fiq else .r10usr
  | 11 => if m = .fiq then .r11fiq else .r11usr
  | 12 => if m = .fiq then .r12fiq else .r12usr
  | 13 =>
    match m with
    | .usr | .sys => .r13usr
    | .svc => .r13svc | .abt => .r13abt | .und => .r13und | .irq => .r13irq | .fiq => .r13fiq
  | _ =>
    match m with
    | .usr | .sys => .r14usr
    | .svc => .r14svc | .abt => .r14abt | .und => .r14und | .irq => .r14irq | .fiq => .r14fiq

/-- The contents of a physical register. -/
def Regs.get (r : Regs) : PhysReg → Word
  | .r0 => r.r0 | .r1 => r.r1 | .r2 => r.r2 | .r3 => r.r3
  | .r4 => r.r4 | .r5 => r.r5 | .r6 => r.r6 | .r7 => r.r7
  | .r8usr => r.r8usr | .r9usr => r.r9usr | .r10usr => r.r10usr | .r11usr => r.r11usr | .r12usr => r.r12usr
  | .r8fiq => r.r8fiq | .r9fiq => r.r9fiq | .r10fiq => r.r10fiq | .r11fiq => r.r11fiq | .r12fiq => r.r12fiq
  | .r13usr => r.r13usr | .r13svc => r.r13svc | .r13abt => r.r13abt
  | .r13und => r.r13und | .r13irq => r.r13irq | .r13fiq => r.r13fiq
  | .r14usr => r.r14usr | .r14svc => r.r14svc | .r14abt => r.r14abt
  | .r14und => r.r14und | .r14irq => r.r14irq | .r14fiq => r.r14fiq

/-- Write one physical register. -/
def Regs.set (r : Regs) (p : PhysReg) (v : Word) : Regs :=
  match p with
  | .r0 => { r with r0 := v } | .r1 => { r with r1 := v } | .r2 => { r with r2 := v } | .r3 => { r with r3 := v }
  | .r4 => { r with r4 := v } | .r5 => { r with r5 := v } | .r6 => { r with r6 := v } | .r7 => { r with r7 := v }
  | .r8usr => { r with r8usr := v } | .r9usr => { r with r9usr := v } | .r10usr => { r with r10usr := v }
  | .r11usr => { r with r11usr := v } | .r12usr => { r with r12usr := v }
  | .r8fiq => { r with r8fiq := v } | .r9fiq => { r with r9fiq := v } | .r10fiq => { r with r10fiq := v }
  | .r11fiq => { r with r11fiq := v } | .r12fiq => { r with r12fiq := v }
  | .r13usr => { r with r13usr := v } | .r13svc => { r with r13svc := v } | .r13abt => { r with r13abt := v }
  | .r13und => { r with r13und := v } | .r13irq => { r with r13irq := v } | .r13fiq => { r with r13fiq := v }
  | .r14usr => { r with r14usr := v } | .r14svc => { r with r14svc := v } | .r14abt => { r with r14abt := v }
  | .r14und => { r with r14und := v } | .r14irq => { r with r14irq := v } | .r14fiq => { r with r14fiq := v }

/-- Read `R[n]` in a given mode's bank, for `n` from 0 to 14. -/
def State.readBank (s : State) (m : Mode) (n : Reg) : Word := s.regs.get (bankedReg m n)

/-- Write `R[n]` in a given mode's bank, for `n` from 0 to 14. -/
def State.writeBank (s : State) (m : Mode) (n : Reg) (v : Word) : State :=
  { s with regs := s.regs.set (bankedReg m n) v }

/-- `R[n]` as an instruction reads it (R17, R35): R15 reads the address of the instruction plus 8 (R41). -/
def State.readReg (s : State) (n : Reg) : Word :=
  if n = 15#4 then s.pc + 8 else s.readBank s.mode n

/-- `R[n] <- v` for `n` from 0 to 14, in the current mode's bank (R35). -/
def State.writeReg (s : State) (n : Reg) (v : Word) : State := s.writeBank s.mode n v

/-! ### Status registers -/

/-- The 32-bit form of a program status register (R46); reserved bits read as zero (R47). -/
def Psr.toWord (p : Psr) : Word :=
  BitVec.ofBool p.n ++ BitVec.ofBool p.z ++ BitVec.ofBool p.c ++ BitVec.ofBool p.v ++ BitVec.ofBool p.q ++ 0#2
    ++ BitVec.ofBool p.j ++ 0#4 ++ p.ge ++ 0#6 ++ BitVec.ofBool p.e ++ BitVec.ofBool p.a ++ BitVec.ofBool p.i
    ++ BitVec.ofBool p.f ++ BitVec.ofBool p.t ++ p.m

/-- What a program status register holds after a word is written to all of it (R46); writes to reserved bits are
ignored (R47). -/
def Psr.ofWord (w : Word) : Psr where
  n := w.getLsbD 31
  z := w.getLsbD 30
  c := w.getLsbD 29
  v := w.getLsbD 28
  q := w.getLsbD 27
  j := w.getLsbD 24
  ge := w.extractLsb' 16 4
  e := w.getLsbD 9
  a := w.getLsbD 8
  i := w.getLsbD 7
  f := w.getLsbD 6
  t := w.getLsbD 5
  m := w.extractLsb' 0 5

/-- The SPSR of a mode; `none` in User and System mode, which have none (R49). -/
def Spsrs.get (p : Spsrs) : Mode → Option Psr
  | .usr => none | .sys => none
  | .fiq => some p.fiq | .irq => some p.irq | .svc => some p.svc | .abt => some p.abt | .und => some p.und

/-- Write the SPSR of a mode; User and System mode have none (R49). -/
def Spsrs.set (p : Spsrs) (m : Mode) (v : Psr) : Spsrs :=
  match m with
  | .usr => p | .sys => p
  | .fiq => { p with fiq := v } | .irq => { p with irq := v } | .svc => { p with svc := v }
  | .abt => { p with abt := v } | .und => { p with und := v }

/-! ### Free values -/

/-- `ANY(32)` (R17): a free value, a new one at each use (entry 6). -/
def State.draw (s : State) : Word × State := (Config.anyWord s.draws, { s with draws := s.draws + 1 })

/-! ### Synchronised CP15 registers -/

/-- The value one use of a synchronised register takes (R812): the current value when the window is empty, else any
member of the window or the current value, as `picks` says (entry 14). -/
def State.useSynced (s : State) (r : Synced) : Word × State :=
  match r.window with
  | [] => (r.current, s)
  | _ :: _ =>
    match s.picks with
    | [] => (r.current, s)
    | k :: ks => ((r.current :: r.window).getD k r.current, { s with picks := ks })

/-- The effect of MCR on a synchronised register (R812). -/
def Synced.write (r : Synced) (v : Word) : Synced := ⟨v, r.current :: r.window⟩

/-- A synchronisation point for one register (R812). -/
def Synced.close (r : Synced) : Synced := ⟨r.current, []⟩

/-- A synchronisation point (R812): only the current values remain, and of the writes of TTBR0 the last. -/
def State.closeWindows (s : State) : State :=
  { s with
    sctlr := s.sctlr.close, ttbr0 := s.ttbr0.close, ttbr0Writes := s.ttbr0Writes.take 1, ttbr1 := s.ttbr1.close, ttbcr := s.ttbcr.close,
    dacr := s.dacr.close, contextId := s.contextId.close }

/-- Control register bit 0, M: the MMU is on (R62). -/
def ctlM (v : Word) : Bool := v.getLsbD 0
/-- Control register bit 1, A: alignment checking (R62). -/
def ctlA (v : Word) : Bool := v.getLsbD 1
/-- Control register bit 8, S: system protection (R62). -/
def ctlS (v : Word) : Bool := v.getLsbD 8
/-- Control register bit 9, R: ROM protection (R62). -/
def ctlR (v : Word) : Bool := v.getLsbD 9
/-- Control register bit 13, V: high vectors (R62). -/
def ctlV (v : Word) : Bool := v.getLsbD 13
/-- Control register bit 23, XP: subpages disabled (R62). -/
def ctlXP (v : Word) : Bool := v.getLsbD 23
/-- Control register bit 25, EE: endianness on exception entry and of table walks (R62). -/
def ctlEE (v : Word) : Bool := v.getLsbD 25

/-! ### Physical memory -/

/-- The byte at a physical address; an unlisted address reads as zero (entry 4). -/
def Memory.read : Memory → Nat → Byte
  | [], _ => 0
  | (k, v) :: rest, a => if k = a then v else Memory.read rest a

/-- Write one byte, keeping the canonical form of `Memory.wf`. -/
def Memory.write : Memory → Nat → Byte → Memory
  | [], a, b => if b = 0 then [] else [(a, b)]
  | (k, v) :: rest, a, b =>
    if a < k then (if b = 0 then (k, v) :: rest else (a, b) :: (k, v) :: rest)
    else if a = k then (if b = 0 then rest else (a, b) :: rest)
    else (k, v) :: Memory.write rest a b

/-- The canonical form: addresses strictly rising, no byte equal to what an unlisted address reads as. -/
def Memory.wf : Memory → Bool
  | [] => true
  | [(_, v)] => v != 0
  | (a, v) :: (b, w) :: rest => v != 0 && decide (a < b) && Memory.wf ((b, w) :: rest)

/-- How many bytes one access moves (R30, R132). -/
inductive AccessSize where
  | byte | half | word
  deriving DecidableEq, Repr

/-- The size in bytes. -/
def AccessSize.bytes : AccessSize → Nat
  | .byte => 1 | .half => 2 | .word => 4

/-- `n` bytes from physical address `a` upwards. -/
def Memory.readBytes (m : Memory) (a : Nat) : Nat → List Byte
  | 0 => []
  | n + 1 => m.read a :: Memory.readBytes m (a + 1) n

/-- Store bytes from physical address `a` upwards. -/
def Memory.writeBytes (m : Memory) (a : Nat) : List Byte → Memory
  | [] => m
  | b :: bs => Memory.writeBytes (m.write a b) (a + 1) bs

/-- The value whose bytes are given, least significant first, zero-extended to a word. -/
def bytesToWord : List Byte → Word
  | [] => 0
  | b :: bs => (bytesToWord bs <<< 8) ||| b.setWidth 32

/-- The `n` low bytes of a word, least significant first. -/
def wordToBytes (v : Word) : Nat → List Byte
  | 0 => []
  | n + 1 => v.setWidth 8 :: wordToBytes (v >>> 8) n

/-- Assemble the bytes of an access, lowest address first, in the given byte order (R127, R129). -/
def assemble (big : Bool) (bs : List Byte) : Word := bytesToWord (if big then bs.reverse else bs)

/-- The bytes of an access, lowest address first, in the given byte order (R127). -/
def split (big : Bool) (size : AccessSize) (v : Word) : List Byte :=
  if big then (wordToBytes v size.bytes).reverse else wordToBytes v size.bytes

/-- Whether physical addresses `pa` to `pa + n - 1` all have memory behind them (R86, R124). -/
def backed (c : Params) (pa n : Nat) : Bool :=
  (List.range n).all fun i => c.physMem.any fun r => r.base ≤ pa + i && pa + i < r.base + r.size

/-- Whether a read of `pa` to `pa + n - 1` meets a parity error (R742, entry 10). -/
def parityError (c : Params) (pa n : Nat) : Bool :=
  c.parity && (List.range n).any fun i => c.parityBad.any fun r => r.base ≤ pa + i && pa + i < r.base + r.size

/-- Whether the implementation provides imprecise aborts (R14 `EXTERNAL_ABORTS`). Where it does not, none is ever
pending (R82, R733). -/
def impreciseAborts (c : Params) : Bool := c.extImprecise || c.extData == .imprecise

/-! ### The result of an access -/

/-- What an aborted access tells the core (R180, R229, R738): the five fault status bits, the domain where it is
valid (R736), the modified virtual address, whether it was a write, and whether it is a valid FAR (R735). -/
structure AbortInfo where
  fs : BitVec 5
  domain : Option (BitVec 4)
  mva : Word
  write : Bool
  farValid : Bool
  deriving DecidableEq, Repr

/-- The result of an operation that may be abandoned: a value and the state after it, an abort with the state the
abandoned operation leaves (the TLB may have been filled), a fault or a refusal. -/
inductive Res (α : Type) where
  | ok (a : α) (s : State)
  | abort (i : AbortInfo) (s : State)
  | fault (f : Fault)
  | refused (r : Refusal)

/-- Sequencing: go on with the value and the state, or stop as the first operation stopped. -/
def Res.bind {α β : Type} (x : Res α) (f : α → State → Res β) : Res β :=
  match x with
  | .ok a s => f a s
  | .abort i s => .abort i s
  | .fault e => .fault e
  | .refused r => .refused r

/-- End an instruction: `done` builds the outcome of a completed operation, `onAbort` that of an aborted one. -/
def Res.finish {α : Type} (x : Res α) (done : α → State → Out) (onAbort : AbortInfo → State → Out) : Out :=
  match x with
  | .ok a s => done a s
  | .abort i s => onAbort i s
  | .fault e => .fault e
  | .refused r => .refused r

/-! ### The program counter -/

/-- The instruction wrote no PC and raised no exception: the next one is at the address plus 4; past 0xFFFFFFFC the
model refuses (R42). -/
def State.advance (s : State) : Out :=
  if s.pc = 0xFFFFFFFC#32 then .refused .pcWrap else .next { s with pc := s.pc + 4 }

/-- `R[15] <- v`: a branch to the word-aligned address (R43, R407, R425). The row U22 of 93_implementation_defined.md
would refuse a value with bits[1:0] non-zero; the numbered rules are followed (DEDUCED, entry 24). -/
def State.branch (s : State) (v : Word) : Out := .next { s with pc := v &&& 0xFFFFFFFC#32 }

/-- A branch that selects the instruction set by bit[0], as BX, LDR and LDM (1) make it (R404, R612). -/
def State.branchExchange (s : State) (v : Word) : Out :=
  if v.getLsbD 0 then .refused .thumbState
  else if v.getLsbD 1 then .refused .unpredictableOperands
  else .next { s with pc := v }

/-- The restriction most instructions put on R15 (R45): naming it as one of these registers is UNPREDICTABLE. -/
def withoutPC (regs : List Reg) (body : Out) : Out :=
  if regs.contains 15#4 then .refused .unpredictableOperands else body

/-- The end of an instruction that writes one register, not R15, and the status register. -/
def State.finish (s : State) (n : Reg) (v : Word) (p : Psr) : Out := ({ s.writeReg n v with cpsr := p }).advance

/-- The end of an instruction that writes a 64-bit result to a register pair (R450), and the status register. -/
def State.finishPair (s : State) (hi lo : Reg) (v : BitVec 64) (p : Psr) : Out :=
  ({ (s.writeReg hi (v.extractLsb' 32 32)).writeReg lo (v.extractLsb' 0 32) with cpsr := p }).advance

/-! ### Exceptions -/

/-- The exceptions other than Reset (R720); the two kinds of Data Abort share their entry (R723). -/
inductive ExceptionKind where
  | undefined | swi | prefetchAbort | dataAbort | irq | fiq
  deriving DecidableEq, Repr

/-- R721. -/
def ExceptionKind.mode : ExceptionKind → Mode
  | .undefined => .und | .swi => .svc | .prefetchAbort => .abt | .dataAbort => .abt | .irq => .irq | .fiq => .fiq

/-- R722. -/
def ExceptionKind.offset : ExceptionKind → Word
  | .undefined => 0x04 | .swi => 0x08 | .prefetchAbort => 0x0C | .dataAbort => 0x10 | .irq => 0x18 | .fiq => 0x1C

/-- Whether entry sets the A bit (R723): all but Undefined Instruction and Software Interrupt. -/
def ExceptionKind.masksAborts : ExceptionKind → Bool
  | .undefined => false | .swi => false | _ => true

/-- Whether entry sets the F bit (R723): FIQ, and Reset, which has its own operation. -/
def ExceptionKind.masksFiq : ExceptionKind → Bool
  | .fiq => true | _ => false

/-- R722: the vector base that bit V of the control register selects. -/
def vectorBase (ctl : Word) : Word := if ctlV ctl then 0xFFFF0000#32 else 0

/-- Taking an exception (R723). It is a synchronisation point, closed first, so the V and EE bits used are the
current ones (R812). -/
def State.takeException (s : State) (k : ExceptionKind) (link : Word) : State :=
  let t := s.closeWindows
  let ctl := s.sctlr.current
  { t with
    regs := s.regs.set (bankedReg k.mode 14#4) link
    spsr := s.spsr.set k.mode s.cpsr
    cpsr := { s.cpsr with
      m := k.mode.bits
      t := false
      f := s.cpsr.f || k.masksFiq
      i := true
      a := s.cpsr.a || k.masksAborts
      e := ctlEE ctl }
    pc := vectorBase ctl + k.offset }

/-- The Undefined Instruction exception of the current instruction (R724). -/
def State.undefinedInstruction (s : State) : Out := .next (s.takeException .undefined (s.pc + 4))

/-- The DFSR a precise abort records (R738): a free domain where the domain is invalid (R736). -/
def dfsrValue (write : Bool) (fs : BitVec 5) (domain : BitVec 4) : Word :=
  0#20 ++ BitVec.ofBool write ++ fs.extractLsb' 4 1 ++ 0#2 ++ domain ++ fs.extractLsb' 0 4

/-- The IFSR a Prefetch Abort records (R727). -/
def ifsrValue (fs : BitVec 5) : Word :=
  0#21 ++ fs.extractLsb' 4 1 ++ 0#6 ++ fs.extractLsb' 0 4

/-- A precise Data Abort of the current instruction (R728, R738): record it and enter. The FAR is a
free value where the table of R735 leaves it open, which is a parity error (entry 10). -/
def State.dataAbort (s : State) (i : AbortInfo) : State :=
  let (domain, s) := match i.domain with
    | some d => (d, s)
    | none => ((s.draw.1).setWidth 4, s.draw.2)
  let s := { s with dfsr := dfsrValue i.write i.fs domain }
  let s := if i.farValid then { s with far := i.mva } else { s.draw.2 with far := s.draw.1 }
  s.takeException .dataAbort (s.pc + 8)

/-- A Prefetch Abort of the instruction at the pc (R727): record it and enter. -/
def State.prefetchAbort (s : State) (i : AbortInfo) : State :=
  let s := { s with ifsr := ifsrValue i.fs, ifar := if s.cfg.hasIfar then i.mva else s.ifar }
  s.takeException .prefetchAbort (s.pc + 4)

/-- The Prefetch Abort that BKPT raises (R691, R727): the debug event status; the IFAR, if there is one, becomes a
free value (R737). -/
def State.breakpoint (s : State) : State :=
  let s := { s with ifsr := ifsrValue 0b00010#5 }
  let s := if s.cfg.hasIfar then { s.draw.2 with ifar := s.draw.1 } else s
  s.takeException .prefetchAbort (s.pc + 4)

/-- One more imprecise abort becomes pending, a parity error if `parity` is set (R82, R733, R742); one too many is lost
(entry 11). -/
def State.pend (s : State) (parity : Bool) : State :=
  { s with
    pendingImprecise := min (s.pendingImprecise + 1) s.cfg.imprecisePendMax
    pendingParity :=
      if parity && s.pendingImprecise < s.cfg.imprecisePendMax then s.pendingParity + 1 else s.pendingParity }

/-- A pending imprecise abort is taken (R733): domain and WR are free values; the FAR is not updated. External errors come
before parity errors, as the table of R735 ranks them (entry 10). -/
def State.impreciseAbort (s : State) : State :=
  let w := s.draw.1
  let parity := decide (s.pendingImprecise ≤ s.pendingParity)
  let s := { s.draw.2 with
    pendingImprecise := s.pendingImprecise - 1
    pendingParity := if parity then s.pendingParity - 1 else s.pendingParity
    dfsr := dfsrValue (w.getLsbD 4) (if parity then 0b11000#5 else 0b10110#5) (w.setWidth 4) }
  s.takeException .dataAbort (s.pc + 8)

/-- Loading a whole CPSR and a PC on return from an exception (R413, R663, R667): illegal modes and the states
outside the model are refused; a return is a synchronisation point. -/
def State.restore (s : State) (p : Psr) (target : Word) : Out :=
  match Mode.ofBits p.m with
  | none => .refused .illegalMode
  | some _ =>
    if p.j then .refused .jazelleState
    else if p.t then .refused .thumbState
    else .next { s.closeWindows with cpsr := p, pc := target &&& 0xFFFFFFFC#32 }

/-- The exception return that moves the SPSR to the CPSR (R413, R732). -/
def State.exceptionReturn (s : State) (target : Word) : Out :=
  match s.spsr.get s.mode with
  | none => .refused .noSpsr
  | some p => s.restore p target

/-! ### Reset -/

/-- The registers after a Reset in the middle of a run: every one a free value (R800, R801). -/
def anyRegs (n : Nat) : Regs :=
  let f := fun k => Config.anyWord (n + k)
  ⟨f 0, f 1, f 2, f 3, f 4, f 5, f 6, f 7, f 8, f 9, f 10, f 11, f 12, f 13, f 14, f 15, f 16, f 17, f 18, f 19,
    f 20, f 21, f 22, f 23, f 24, f 25, f 26, f 27, f 28, f 29⟩

/-- A free program status register. -/
def anyPsr (n : Nat) : Psr := Psr.ofWord (Config.anyWord n)

/-- Whether two entries could match the same access: the blocks meet and both are visible to one ASID (R181, R184). -/
def entriesOverlap (x y : TlbEntry) : Bool :=
  let log := fun e : TlbEntry => match e.size with
    | .smallPage => 12 | .largePage => 16 | .section1MB => 20 | .supersection16MB => 24
  let n := max (log x) (log y)
  (x.mva >>> n == y.mva >>> n) && (x.global || y.global || x.asid == y.asid)

/-- The lockable entries of a TLB (R61, R76). -/
def lockable (c : Params) (instruction : Bool) : Nat := if instruction then c.ilockN else c.dlockN

/-- W of R76: the base-2 logarithm of the number of TLB entries, rounded up. -/
def lockWidth (entries : Nat) : Nat := if entries ≤ 1 then 0 else (entries - 1).log2 + 1

/-- The dedicated lockable slots that a victim field of W bits can name (R76, R248). -/
def dedicatedSlots (c : Params) (lockable : Nat) : Nat := min lockable (2 ^ lockWidth c.tlbEntries)

/-- A physical address of the implementation: 32 + `paExtraBits` bits (R80). -/
def physicalWidth (c : Params) (pa : BitVec 40) : BitVec 40 := BitVec.ofNat 40 (pa.toNat % 2 ^ (32 + c.paExtraBits))

/-- The arbitrary TLB of R802: no entry locked, no two of them overlapping, in `tlbEntries` slots. -/
def anyTlbSlots (c : Params) (n : Nat) : List (Option TlbEntry) :=
  let entries := c.tlbEntries
  let raw := (Config.anyTlb n).take entries
  let keep := raw.foldl (fun acc x => match x with
    | none => acc ++ [none]
    | some e =>
      acc ++ [if acc.any (fun y => match y with | some e' => entriesOverlap e e' | none => false) then none
        else some { e with locked := false, pa := physicalWidth c e.pa }]) []
  keep ++ List.replicate (entries - keep.length) none

/-- The control register after Reset (R800): a free word with M, FI, bit 22 and VE clear, V and EE from the
parameters, and W set without a W bit. -/
def resetControl (c : Params) (w : Word) : Word :=
  let v := w &&& 0xFC9FDFF6#32
  let v := if c.hasWBit then v ||| (w &&& 8) else v ||| 8
  let v := if c.hivecsAtReset then v ||| 0x2000 else v
  if c.eeAtReset then v ||| 0x02000000 else v

/-- A TLB after a Reset in the middle of a run (R800, R802): arbitrary entries and an arbitrary lockdown register. A TLB
without lockable entries has no such register, so base and P stay zero (R81, R244); where the base is fixed at zero it is
zero, and while P is set the victim names one of the dedicated slots (DESIGN CHOICE, R248, entry 19). The dedicated
lockable slots of that form are empty: R88 and R802 leave them as arbitrary as the rest, with no entry locked (DESIGN
CHOICE, entry 2). -/
def anyTlb (c : Params) (lockable slots register : Nat) : Tlb :=
  let f := fun k => Config.anyWord (register + k)
  let p := (f 2).getLsbD 0 && lockable != 0
  { slots := anyTlbSlots c slots
    lockSlots := if c.lockBaseFixedZero then List.replicate lockable none else []
    base := if c.lockBaseFixedZero || lockable == 0 then 0 else (f 0).toNat % c.tlbEntries
    victim := (f 1).toNat % (if c.lockBaseFixedZero && p then dedicatedSlots c lockable else c.tlbEntries)
    p := p }

/-- The Reset input taken in the middle of a run (R800, R801): one action; memory is unchanged; whatever the spec
gives no value for is a free value (entry 2). -/
def State.resetInput (s : State) : State :=
  let f := fun k => Config.anyWord (s.draws + k)
  let ctl := resetControl s.cfg (f 36)
  let flags := Psr.ofWord (f 35)
  { s with
    regs := anyRegs s.draws
    spsr := ⟨anyPsr (s.draws + 30), anyPsr (s.draws + 31), anyPsr (s.draws + 32), anyPsr (s.draws + 33),
      anyPsr (s.draws + 34)⟩
    cpsr := { flags with
      m := Mode.svc.bits, t := false, j := false, f := true, i := true, a := true, e := ctlEE ctl }
    pc := vectorBase ctl
    sctlr := ⟨ctl, []⟩
    ttbr0 := ⟨f 37, []⟩
    ttbr0Writes := []
    ttbr1 := ⟨f 38, []⟩
    ttbcr := ⟨0, []⟩
    dacr := ⟨f 39, []⟩
    contextId := ⟨f 40, []⟩
    dfsr := f 41
    ifsr := f 42
    far := f 43
    wfar := f 44
    ifar := f 45
    tlbD := anyTlb s.cfg s.cfg.dlockN s.draws (s.draws + 46)
    tlbI := anyTlb s.cfg s.cfg.ilockN (s.draws + 1) (s.draws + 49)
    excl := none
    pendingImprecise := 0
    pendingParity := 0
    draws := s.draws + 52 }

end Sys2Proof.Machine
end

