-- ==== Sys2Proof/Machine/Boundary.lean ====
section
/-!
DEFINITION. The instruction boundary: what the outside signals there, and the asynchronous exceptions (R11, R745,
R760).
-/

namespace Sys2Proof.Machine

open Sys2Proof

/-- What the outside signals at this boundary (R83, R842): nothing when no more is listed (entry 12). -/
def State.popInput (s : State) : Boundary × State :=
  match s.inputs with
  | [] => (⟨false, false, false, false⟩, s)
  | b :: bs => (b, { s with inputs := bs })

/-- An imprecise abort the memory system raises becomes pending, where the implementation has them (R82, R742);
one too many is lost (entry 11). -/
def State.raiseImprecise (s : State) (raised : Bool) : State :=
  if raised && s.cfg.extImprecise then s.pend false else s

/-- The asynchronous exception taken at this boundary, if any (R745, R760): FIQ before IRQ before a pending imprecise
abort, each unless its mask bit is set (R729, R730, R733). -/
def State.asynchronous (s : State) (b : Boundary) : Option State :=
  if b.fiq && !s.cpsr.f then some (s.takeException .fiq (s.pc + 4))
  else if b.irq && !s.cpsr.i then some (s.takeException .irq (s.pc + 4))
  else if 0 < s.pendingImprecise && !s.cpsr.a then some s.impreciseAbort
  else none

end Sys2Proof.Machine
end

