-- ==== Sys2Proof/Machine/Flags.lean ====
section
/-!
DEFINITION. The condition test and every flag computation: N, Z, C, V (R50, R412), Q (R52) and GE (R53).
-/

namespace Sys2Proof.Machine

open Sys2Proof

/-- `ConditionPassed` (R262). -/
def condPassed (c : Cond) (p : Psr) : Bool :=
  match c with
  | .eq => p.z
  | .ne => !p.z
  | .cs => p.c
  | .cc => !p.c
  | .mi => p.n
  | .pl => !p.n
  | .vs => p.v
  | .vc => !p.v
  | .hi => p.c && !p.z
  | .ls => !p.c || p.z
  | .ge => p.n == p.v
  | .lt => p.n != p.v
  | .gt => !p.z && p.n == p.v
  | .le => p.z || p.n != p.v
  | .al => true

/-- A conditional instruction: when its condition fails it only advances the PC (R263, R264). -/
def whenCond (c : Cond) (s : State) (body : Out) : Out :=
  if condPassed c s.cpsr then body else s.advance

/-- A result with the C and V flags it produces (R412). -/
structure AluResult where
  result : Word
  c : Bool
  v : Bool
  deriving DecidableEq, Repr

/-- `AddWithCarry` (R412): the sums are exact, C is the carry out of the unsigned one, V says the signed one does not
fit. -/
def addWithCarry (x y : Word) (cin : Bool) : AluResult :=
  let usum := x.toNat + y.toNat + cin.toNat
  let ssum := x.toInt + y.toInt + (cin.toNat : Int)
  let result := BitVec.ofNat 32 usum
  ⟨result, decide (2 ^ 32 ≤ usum), decide (ssum ≠ result.toInt)⟩

/-- N, Z, C and V from a result (R50, R410). -/
def Psr.setNZCV (p : Psr) (r : AluResult) : Psr :=
  { p with n := r.result.getLsbD 31, z := r.result == 0, c := r.c, v := r.v }

/-- N and Z from a result, the other flags unchanged (R451). -/
def Psr.setNZ (p : Psr) (n z : Bool) : Psr := { p with n := n, z := z }

/-- The sticky Q flag (R52): set on overflow or saturation, never cleared. -/
def Psr.orQ (p : Psr) (sat : Bool) : Psr := { p with q := p.q || sat }

/-- The GE flags (R53). -/
def Psr.setGE (p : Psr) (ge : BitVec 4) : Psr := { p with ge := ge }

/-- Both halves' GE bits (R53): the top halfword sets GE[3:2] together, the bottom one GE[1:0]. -/
def geHalves (top bottom : Bool) : BitVec 4 :=
  BitVec.ofBool top ++ BitVec.ofBool top ++ BitVec.ofBool bottom ++ BitVec.ofBool bottom

/-- The GE bits of the four bytes, the top byte first (R53). -/
def geBytes (b3 b2 b1 b0 : Bool) : BitVec 4 :=
  BitVec.ofBool b3 ++ BitVec.ofBool b2 ++ BitVec.ofBool b1 ++ BitVec.ofBool b0

end Sys2Proof.Machine
end

