-- ==== Sys2Proof/Machine/Operands.lean ====
section
/-!
DEFINITION. Every operand form: the shifts (R411), the shifter operand with its carry-out (R414 to R424), and the
addressing modes 2, 3 and 4 (R606 to R610, R621 to R624, R660).
-/

namespace Sys2Proof.Machine

open Sys2Proof

/-! ### Shifts of R411 -/

/-- Logical shift left by any amount. -/
def shiftLsl (x : Word) (n : Nat) : Word := x <<< n

/-- Logical shift right by any amount. -/
def shiftLsr (x : Word) (n : Nat) : Word := x >>> n

/-- Arithmetic shift right by any amount. -/
def shiftAsr (x : Word) (n : Nat) : Word := x.sshiftRight n

/-- Rotate right by any amount. -/
def shiftRor (x : Word) (n : Nat) : Word := x.rotateRight (n % 32)

/-- Rotate right with extend, through a carry bit. -/
def shiftRrx (x : Word) (cin : Bool) : Word := BitVec.ofBool cin ++ x.extractLsb' 1 31

/-! ### The shifter operand -/

/-- A shifter operand and its carry-out (R414 to R424). -/
structure Shifted where
  value : Word
  carry : Bool
  deriving DecidableEq, Repr

/-- R414: an eight-bit immediate rotated right by twice `rot`. -/
def rotImmOperand (o : RotImm) (cin : Bool) : Shifted :=
  let v := shiftRor (o.imm.setWidth 32) (2 * o.rot.toNat)
  ⟨v, if o.rot = 0 then cin else v.getLsbD 31⟩

/-- R415, R416, R418, R420, R422, R424: a value shifted by an immediate amount. -/
def shiftByImm (ty : ShiftType) (amount : BitVec 5) (x : Word) (cin : Bool) : Shifted :=
  let n := amount.toNat
  match ty with
  | .lsl => if n = 0 then ⟨x, cin⟩ else ⟨shiftLsl x n, x.getLsbD (32 - n)⟩
  | .lsr => if n = 0 then ⟨0, x.getLsbD 31⟩ else ⟨shiftLsr x n, x.getLsbD (n - 1)⟩
  | .asr => if n = 0 then ⟨shiftAsr x 32, x.getLsbD 31⟩ else ⟨shiftAsr x n, x.getLsbD (n - 1)⟩
  | .ror => if n = 0 then ⟨shiftRrx x cin, x.getLsbD 0⟩ else ⟨shiftRor x n, x.getLsbD (n - 1)⟩

/-- R417, R419, R421, R423: a value shifted by the low byte of a register. -/
def shiftByReg (ty : ShiftType) (amount : BitVec 8) (x : Word) (cin : Bool) : Shifted :=
  let n := amount.toNat
  if n = 0 then ⟨x, cin⟩
  else
    match ty with
    | .lsl =>
      if n < 32 then ⟨shiftLsl x n, x.getLsbD (32 - n)⟩
      else if n = 32 then ⟨0, x.getLsbD 0⟩
      else ⟨0, false⟩
    | .lsr =>
      if n < 32 then ⟨shiftLsr x n, x.getLsbD (n - 1)⟩
      else if n = 32 then ⟨0, x.getLsbD 31⟩
      else ⟨0, false⟩
    | .asr =>
      if n < 32 then ⟨shiftAsr x n, x.getLsbD (n - 1)⟩
      else ⟨shiftAsr x 32, x.getLsbD 31⟩
    | .ror =>
      if n % 32 = 0 then ⟨x, x.getLsbD 31⟩
      else ⟨shiftRor x (n % 32), x.getLsbD (n % 32 - 1)⟩

/-- The shifter operand of an immediate-shift form, Rm = R15 reading the address plus 8 (R425). -/
def immShiftOperand (s : State) (o : ImmShift) : Shifted :=
  shiftByImm o.ty o.amount (s.readReg o.rm) s.cpsr.c

/-- The shifter operand of a register-shift form. -/
def regShiftOperand (s : State) (o : RegShift) : Shifted :=
  shiftByReg o.ty ((s.readReg o.rs).setWidth 8) (s.readReg o.rm) s.cpsr.c

/-! ### Addressing modes 2 and 3 -/

/-- Base plus or minus offset, by the U bit, modulo 2^32 (R606, R621). -/
def applyOffset (u : Bool) (base offset : Word) : Word := if u then base + offset else base - offset

/-- The offset of a scaled register form (R607, R608): the shifts of R411 without a carry-out. -/
def scaledOffset (s : State) (o : ImmShift) : Word := (immShiftOperand s o).value

/-- The address an access uses: the base alone when post-indexed (R606, R609, R610). -/
def indexAddress (idx : IndexMode) (u : Bool) (base offset : Word) : Word :=
  match idx with
  | .post => base
  | .offset => applyOffset u base offset
  | .pre => applyOffset u base offset

/-- Whether a form writes its base register back (R609, R610). -/
def indexWritesBack : IndexMode → Bool
  | .offset => false
  | .pre => true
  | .post => true

/-- The register restrictions of a writeback form, for the registers it transfers (R605 item 7, R629): the base is not
R15 and is not one of them. -/
def writebackAllowed (idx : IndexMode) (rn : Reg) (transferred : List Reg) : Bool :=
  !indexWritesBack idx || (rn != 15#4 && !transferred.contains rn)

/-- The restrictions on an offset register (R605 item 7): not R15, and not the base in a writeback form. -/
def offsetRegAllowed (idx : IndexMode) (rn rm : Reg) : Bool :=
  rm != 15#4 && (!indexWritesBack idx || rm != rn)

/-! ### Addressing mode 4 -/

/-- The start address of a transfer of `n` words (R660). -/
def multipleStart (am : AddrMode4) (base : Word) (n : Nat) : Word :=
  match am with
  | .ia => base
  | .ib => base + 4
  | .da => base - BitVec.ofNat 32 (4 * n) + 4
  | .db => base - BitVec.ofNat 32 (4 * n)

/-- The value a writeback gives the base register after a transfer of `n` words (R660). -/
def multipleWriteback (am : AddrMode4) (base : Word) (n : Nat) : Word :=
  match am with
  | .ia => base + BitVec.ofNat 32 (4 * n)
  | .ib => base + BitVec.ofNat 32 (4 * n)
  | .da => base - BitVec.ofNat 32 (4 * n)
  | .db => base - BitVec.ofNat 32 (4 * n)

/-- The registers of a list, lowest number first (R288). -/
def listRegs (list : BitVec 16) : List Reg :=
  ((List.range 16).filter fun i => list.getLsbD i).map fun i => BitVec.ofNat 4 i

end Sys2Proof.Machine
end

