-- ==== Sys2Proof/Machine/Branch.lean ====
section
/-!
DEFINITION. The branch instructions (41_branch.md).
-/

namespace Sys2Proof.Machine

open Sys2Proof

/-- `BranchTarget` in unbounded integers (R400). -/
def branchSum (pc : Word) (imm : BitVec 24) : Int := (pc.toNat : Int) + 8 + 4 * imm.toInt

/-- Whether a branch target computation stays inside the address space (R400). -/
def branchInRange (pc : Word) (imm : BitVec 24) : Bool :=
  decide (0 ≤ branchSum pc imm) && decide (branchSum pc imm < 2 ^ 32)

/-- `BranchTarget` (R400). -/
def branchTarget (pc : Word) (imm : BitVec 24) : Word := BitVec.ofInt 32 (branchSum pc imm)

/-- `ReturnAddress` (R400): the address of the instruction after the branch, modulo 2^32 (entry 8). -/
def State.returnAddress (s : State) : Word := s.pc + 4

/-- R401. A target computation that wraps is UNPREDICTABLE (R400). -/
def execB (c : Cond) (imm : BitVec 24) (s : State) : Out :=
  whenCond c s
    (if branchInRange s.pc imm then .next { s with pc := branchTarget s.pc imm } else .refused .pcWrap)

/-- R402: the link is R14 of the current mode. -/
def execBl (c : Cond) (imm : BitVec 24) (s : State) : Out :=
  whenCond c s
    (if branchInRange s.pc imm then
      .next { s.writeReg 14#4 s.returnAddress with pc := branchTarget s.pc imm }
    else .refused .pcWrap)

/-- R403: it always enters Thumb state, so it is refused. -/
def execBlx1 (_h : Bool) (_imm : BitVec 24) (_s : State) : Out := .refused .thumbState

/-- R404. -/
def execBx (c : Cond) (rm : Reg) (s : State) : Out := whenCond c s (s.branchExchange (s.readReg rm))

/-- R405: Rm is read before R14 is written. -/
def execBlx2 (c : Cond) (rm : Reg) (s : State) : Out :=
  whenCond c s (withoutPC [rm] ((s.writeReg 14#4 s.returnAddress).branchExchange (s.readReg rm)))

/-- R406: with no Jazelle hardware it is BX, and J stays 0. -/
def execBxj (c : Cond) (rm : Reg) (s : State) : Out := whenCond c s (s.branchExchange (s.readReg rm))

end Sys2Proof.Machine
end

