-- ==== Sys2Proof/WellFormed.lean ====
section
/-!
DEFINITION. Which instruction terms an encoding exists for: the operand restrictions that the types of
`Instr` do not already express.
-/

namespace Sys2Proof

/-- The terms that some word encodes. Three restrictions are left to check.

* The accumulating forms need Rn != R15; with 1111 in that field the word is the form without addition
  (R292, R294).
* A coprocessor load or store with P = U = W = 0 lies in the coprocessor extension space (R298).
* `undefinedWord` and `unpredictableWord` stand for words, not for operands: every word is admitted here, and
  `decode` alone says which words give them. -/
def Instr.wellFormed : Instr → Bool
  | .cps _ _ _ _ _ _ => true
  | .setend _ => true
  | .pldImm _ _ _ => true
  | .pldReg _ _ _ => true
  | .srs _ _ _ => true
  | .rfe _ _ _ => true
  | .blx1 _ _ => true
  | .mcrr2 _ _ _ _ _ => true
  | .mrrc2 _ _ _ _ _ => true
  | .stc2 p u _ wb _ _ _ _ => p || u || wb
  | .ldc2 p u _ wb _ _ _ _ => p || u || wb
  | .cdp2 _ _ _ _ _ _ => true
  | .mcr2 _ _ _ _ _ _ => true
  | .mrc2 _ _ _ _ _ _ => true
  | .mul _ _ _ _ _ => true
  | .mla _ _ _ _ _ _ => true
  | .umaal _ _ _ _ _ => true
  | .umull _ _ _ _ _ _ => true
  | .umlal _ _ _ _ _ _ => true
  | .smull _ _ _ _ _ _ => true
  | .smlal _ _ _ _ _ _ => true
  | .swp _ _ _ _ => true
  | .swpb _ _ _ _ => true
  | .strex _ _ _ _ => true
  | .ldrex _ _ _ => true
  | .strhReg _ _ _ _ _ _ => true
  | .strhImm _ _ _ _ _ _ => true
  | .ldrhReg _ _ _ _ _ _ => true
  | .ldrhImm _ _ _ _ _ _ => true
  | .ldrdReg _ _ _ _ _ _ => true
  | .ldrdImm _ _ _ _ _ _ => true
  | .ldrsbReg _ _ _ _ _ _ => true
  | .ldrsbImm _ _ _ _ _ _ => true
  | .strdReg _ _ _ _ _ _ => true
  | .strdImm _ _ _ _ _ _ => true
  | .ldrshReg _ _ _ _ _ _ => true
  | .ldrshImm _ _ _ _ _ _ => true
  | .mrs _ _ _ => true
  | .msrReg _ _ _ _ => true
  | .bx _ _ => true
  | .clz _ _ _ => true
  | .bxj _ _ => true
  | .blx2 _ _ => true
  | .qadd _ _ _ _ => true
  | .qsub _ _ _ _ => true
  | .qdadd _ _ _ _ => true
  | .qdsub _ _ _ _ => true
  | .bkpt _ => true
  | .smlaxy _ _ _ _ _ _ _ => true
  | .smlawy _ _ _ _ _ _ => true
  | .smulwy _ _ _ _ _ => true
  | .smlalxy _ _ _ _ _ _ _ => true
  | .smulxy _ _ _ _ _ _ => true
  | .andShiftImm _ _ _ _ _ => true
  | .eorShiftImm _ _ _ _ _ => true
  | .subShiftImm _ _ _ _ _ => true
  | .rsbShiftImm _ _ _ _ _ => true
  | .addShiftImm _ _ _ _ _ => true
  | .adcShiftImm _ _ _ _ _ => true
  | .sbcShiftImm _ _ _ _ _ => true
  | .rscShiftImm _ _ _ _ _ => true
  | .tstShiftImm _ _ _ => true
  | .teqShiftImm _ _ _ => true
  | .cmpShiftImm _ _ _ => true
  | .cmnShiftImm _ _ _ => true
  | .orrShiftImm _ _ _ _ _ => true
  | .movShiftImm _ _ _ _ => true
  | .bicShiftImm _ _ _ _ _ => true
  | .mvnShiftImm _ _ _ _ => true
  | .andShiftReg _ _ _ _ _ => true
  | .eorShiftReg _ _ _ _ _ => true
  | .subShiftReg _ _ _ _ _ => true
  | .rsbShiftReg _ _ _ _ _ => true
  | .addShiftReg _ _ _ _ _ => true
  | .adcShiftReg _ _ _ _ _ => true
  | .sbcShiftReg _ _ _ _ _ => true
  | .rscShiftReg _ _ _ _ _ => true
  | .tstShiftReg _ _ _ => true
  | .teqShiftReg _ _ _ => true
  | .cmpShiftReg _ _ _ => true
  | .cmnShiftReg _ _ _ => true
  | .orrShiftReg _ _ _ _ _ => true
  | .movShiftReg _ _ _ _ => true
  | .bicShiftReg _ _ _ _ _ => true
  | .mvnShiftReg _ _ _ _ => true
  | .msrImm _ _ _ _ => true
  | .andImm _ _ _ _ _ => true
  | .eorImm _ _ _ _ _ => true
  | .subImm _ _ _ _ _ => true
  | .rsbImm _ _ _ _ _ => true
  | .addImm _ _ _ _ _ => true
  | .adcImm _ _ _ _ _ => true
  | .sbcImm _ _ _ _ _ => true
  | .rscImm _ _ _ _ _ => true
  | .tstImm _ _ _ => true
  | .teqImm _ _ _ => true
  | .cmpImm _ _ _ => true
  | .cmnImm _ _ _ => true
  | .orrImm _ _ _ _ _ => true
  | .movImm _ _ _ _ => true
  | .bicImm _ _ _ _ _ => true
  | .mvnImm _ _ _ _ => true
  | .strtImm _ _ _ _ _ => true
  | .ldrtImm _ _ _ _ _ => true
  | .strbtImm _ _ _ _ _ => true
  | .ldrbtImm _ _ _ _ _ => true
  | .strImm _ _ _ _ _ _ => true
  | .ldrImm _ _ _ _ _ _ => true
  | .strbImm _ _ _ _ _ _ => true
  | .ldrbImm _ _ _ _ _ _ => true
  | .strtReg _ _ _ _ _ => true
  | .ldrtReg _ _ _ _ _ => true
  | .strbtReg _ _ _ _ _ => true
  | .ldrbtReg _ _ _ _ _ => true
  | .strReg _ _ _ _ _ _ => true
  | .ldrReg _ _ _ _ _ _ => true
  | .strbReg _ _ _ _ _ _ => true
  | .ldrbReg _ _ _ _ _ _ => true
  | .sadd16 _ _ _ _ => true
  | .saddsubx _ _ _ _ => true
  | .ssubaddx _ _ _ _ => true
  | .ssub16 _ _ _ _ => true
  | .sadd8 _ _ _ _ => true
  | .ssub8 _ _ _ _ => true
  | .qadd16 _ _ _ _ => true
  | .qaddsubx _ _ _ _ => true
  | .qsubaddx _ _ _ _ => true
  | .qsub16 _ _ _ _ => true
  | .qadd8 _ _ _ _ => true
  | .qsub8 _ _ _ _ => true
  | .shadd16 _ _ _ _ => true
  | .shaddsubx _ _ _ _ => true
  | .shsubaddx _ _ _ _ => true
  | .shsub16 _ _ _ _ => true
  | .shadd8 _ _ _ _ => true
  | .shsub8 _ _ _ _ => true
  | .uadd16 _ _ _ _ => true
  | .uaddsubx _ _ _ _ => true
  | .usubaddx _ _ _ _ => true
  | .usub16 _ _ _ _ => true
  | .uadd8 _ _ _ _ => true
  | .usub8 _ _ _ _ => true
  | .uqadd16 _ _ _ _ => true
  | .uqaddsubx _ _ _ _ => true
  | .uqsubaddx _ _ _ _ => true
  | .uqsub16 _ _ _ _ => true
  | .uqadd8 _ _ _ _ => true
  | .uqsub8 _ _ _ _ => true
  | .uhadd16 _ _ _ _ => true
  | .uhaddsubx _ _ _ _ => true
  | .uhsubaddx _ _ _ _ => true
  | .uhsub16 _ _ _ _ => true
  | .uhadd8 _ _ _ _ => true
  | .uhsub8 _ _ _ _ => true
  | .pkhbt _ _ _ _ _ => true
  | .pkhtb _ _ _ _ _ => true
  | .ssat _ _ _ _ _ _ => true
  | .usat _ _ _ _ _ _ => true
  | .ssat16 _ _ _ _ => true
  | .usat16 _ _ _ _ => true
  | .rev _ _ _ => true
  | .rev16 _ _ _ => true
  | .revsh _ _ _ => true
  | .sel _ _ _ _ => true
  | .sxtb16 _ _ _ _ => true
  | .sxtab16 _ rn _ _ _ => rn != 0xF#4
  | .sxtb _ _ _ _ => true
  | .sxtab _ rn _ _ _ => rn != 0xF#4
  | .sxth _ _ _ _ => true
  | .sxtah _ rn _ _ _ => rn != 0xF#4
  | .uxtb16 _ _ _ _ => true
  | .uxtab16 _ rn _ _ _ => rn != 0xF#4
  | .uxtb _ _ _ _ => true
  | .uxtab _ rn _ _ _ => rn != 0xF#4
  | .uxth _ _ _ _ => true
  | .uxtah _ rn _ _ _ => rn != 0xF#4
  | .smuad _ _ _ _ _ => true
  | .smlad _ _ rn _ _ _ => rn != 0xF#4
  | .smusd _ _ _ _ _ => true
  | .smlsd _ _ rn _ _ _ => rn != 0xF#4
  | .smlald _ _ _ _ _ _ => true
  | .smlsld _ _ _ _ _ _ => true
  | .smmul _ _ _ _ _ => true
  | .smmla _ _ rn _ _ _ => rn != 0xF#4
  | .smmls _ _ _ _ _ _ => true
  | .usad8 _ _ _ _ => true
  | .usada8 _ _ rn _ _ => rn != 0xF#4
  | .ldm1 _ _ _ _ _ => true
  | .ldm3 _ _ _ _ _ => true
  | .ldm2 _ _ _ _ _ => true
  | .stm1 _ _ _ _ _ => true
  | .stm2 _ _ _ _ _ => true
  | .b _ _ => true
  | .bl _ _ => true
  | .mcrr _ _ _ _ _ _ => true
  | .mrrc _ _ _ _ _ _ => true
  | .stc _ p u _ wb _ _ _ _ => p || u || wb
  | .ldc _ p u _ wb _ _ _ _ => p || u || wb
  | .cdp _ _ _ _ _ _ _ => true
  | .mcr _ _ _ _ _ _ _ => true
  | .mrc _ _ _ _ _ _ _ => true
  | .swi _ _ => true
  | .undefinedWord _ => true
  | .unpredictableWord _ => true

end Sys2Proof
end

