-- ==== Sys2Proof/Decode.lean ====
section
/-!
DEFINITION. The decoder, total on words (R268), and the encoder, both written from the encoding tables of
30_encoding.md. A word is read as its eight nibbles, `n7` (the condition field) down to `n0`.
-/

namespace Sys2Proof

/-! ### Fields -/

/-- Nibble `k` of a word: bits `4k+3 : 4k`. -/
def nibble (w : Word) (k : Nat) : BitVec 4 := w.extractLsb' (4 * k) 4

/-- The word whose nibbles are given, most significant first. -/
def joinNibbles (n7 n6 n5 n4 n3 n2 n1 n0 : BitVec 4) : Word :=
  n7 ++ n6 ++ n5 ++ n4 ++ n3 ++ n2 ++ n1 ++ n0

/-- The condition field of R262. -/
def Cond.bits : Cond → BitVec 4
  | .eq => 0x0#4 | .ne => 0x1#4 | .cs => 0x2#4 | .cc => 0x3#4
  | .mi => 0x4#4 | .pl => 0x5#4 | .vs => 0x6#4 | .vc => 0x7#4
  | .hi => 0x8#4 | .ls => 0x9#4 | .ge => 0xA#4 | .lt => 0xB#4
  | .gt => 0xC#4 | .le => 0xD#4 | .al => 0xE#4

/-- R262; `none` is the field 1111, which is not a condition (R265). -/
def Cond.ofBits (b : BitVec 4) : Option Cond :=
  match b.toNat with
  | 0 => some .eq | 1 => some .ne | 2 => some .cs | 3 => some .cc
  | 4 => some .mi | 5 => some .pl | 6 => some .vs | 7 => some .vc
  | 8 => some .hi | 9 => some .ls | 10 => some .ge | 11 => some .lt
  | 12 => some .gt | 13 => some .le | 14 => some .al
  | _ => none

/-- The two-bit shift field of R273. -/
def ShiftType.bits : ShiftType → BitVec 2
  | .lsl => 0#2 | .lsr => 1#2 | .asr => 2#2 | .ror => 3#2

/-- R273. -/
def ShiftType.ofBits (b : BitVec 2) : ShiftType :=
  match b.toNat with
  | 0 => .lsl | 1 => .lsr | 2 => .asr | _ => .ror

/-- The P bit of an indexing mode (R282). -/
def IndexMode.p : IndexMode → Bool
  | .offset => true | .pre => true | .post => false

/-- The W bit of an indexing mode (R282). -/
def IndexMode.w : IndexMode → Bool
  | .offset => false | .pre => true | .post => false

/-- R282. P = 0 with W = 1 never reaches here: those words are the T forms (addressing mode 2) or are
UNPREDICTABLE (addressing mode 3, R286). -/
def IndexMode.ofBits (p w : Bool) : IndexMode :=
  match p, w with
  | true, false => .offset | true, true => .pre | false, _ => .post

/-- The P bit of addressing mode 4 (R288). -/
def AddrMode4.p : AddrMode4 → Bool
  | .da => false | .ia => false | .db => true | .ib => true

/-- The U bit of addressing mode 4 (R288). -/
def AddrMode4.u : AddrMode4 → Bool
  | .da => false | .ia => true | .db => false | .ib => true

/-- R288. -/
def AddrMode4.ofBits (p u : Bool) : AddrMode4 :=
  match p, u with
  | false, false => .da | false, true => .ia | true, false => .db | true, true => .ib

/-! ### The decoder -/

/-- R276: bits[27:24] = 0000, bits[7:4] = 1001. -/
def decodeMultiply (w : Word) (c : Cond) (n5 n4 n3 n2 n0 : BitVec 4) : Instr :=
  match n5.toNat with
  | 0 | 1 => if n3 = 0x0#4 then .mul c (n5.getLsbD 0) n4 n2 n0 else .unpredictableWord w
  | 2 | 3 => .mla c (n5.getLsbD 0) n4 n3 n2 n0
  | 4 => .umaal c n4 n3 n2 n0
  | 8 | 9 => .umull c (n5.getLsbD 0) n4 n3 n2 n0
  | 10 | 11 => .umlal c (n5.getLsbD 0) n4 n3 n2 n0
  | 12 | 13 => .smull c (n5.getLsbD 0) n4 n3 n2 n0
  | 14 | 15 => .smlal c (n5.getLsbD 0) n4 n3 n2 n0
  | _ => .undefinedWord w

/-- R286, the rows with bits[7:4] = 1001 and bit[24] = 1. -/
def decodeSwapExclusive (w : Word) (c : Cond) (n5 n4 n3 n2 n0 : BitVec 4) : Instr :=
  match n5.toNat with
  | 0 => if n2 = 0x0#4 then .swp c n4 n3 n0 else .unpredictableWord w
  | 4 => if n2 = 0x0#4 then .swpb c n4 n3 n0 else .unpredictableWord w
  | 8 => if n2 = 0xF#4 then .strex c n4 n3 n0 else .unpredictableWord w
  | 9 => if n2 = 0xF#4 ∧ n0 = 0xF#4 then .ldrex c n4 n3 else .unpredictableWord w
  | _ => .undefinedWord w

/-- R286, the halfword, signed and doubleword rows: bit[22] = 1 is the immediate offset form. -/
def decodeMode3 (w : Word) (c : Cond) (n6 n5 n4 n3 n2 n1 n0 : BitVec 4) : Instr :=
  match n1.toNat, n5.getLsbD 0, n5.getLsbD 2 with
  | 11, false, false => if n2 = 0x0#4 ∧ (n6.getLsbD 0 = true ∨ n5.getLsbD 1 = false) then .strhReg c (.ofBits (n6.getLsbD 0) (n5.getLsbD 1)) (n5.getLsbD 3) n4 n3 n0 else .unpredictableWord w
  | 11, false, true => if (n6.getLsbD 0 = true ∨ n5.getLsbD 1 = false) then .strhImm c (.ofBits (n6.getLsbD 0) (n5.getLsbD 1)) (n5.getLsbD 3) n4 n3 (n2 ++ n0) else .unpredictableWord w
  | 11, true, false => if n2 = 0x0#4 ∧ (n6.getLsbD 0 = true ∨ n5.getLsbD 1 = false) then .ldrhReg c (.ofBits (n6.getLsbD 0) (n5.getLsbD 1)) (n5.getLsbD 3) n4 n3 n0 else .unpredictableWord w
  | 11, true, true => if (n6.getLsbD 0 = true ∨ n5.getLsbD 1 = false) then .ldrhImm c (.ofBits (n6.getLsbD 0) (n5.getLsbD 1)) (n5.getLsbD 3) n4 n3 (n2 ++ n0) else .unpredictableWord w
  | 13, false, false => if n2 = 0x0#4 ∧ (n6.getLsbD 0 = true ∨ n5.getLsbD 1 = false) then .ldrdReg c (.ofBits (n6.getLsbD 0) (n5.getLsbD 1)) (n5.getLsbD 3) n4 n3 n0 else .unpredictableWord w
  | 13, false, true => if (n6.getLsbD 0 = true ∨ n5.getLsbD 1 = false) then .ldrdImm c (.ofBits (n6.getLsbD 0) (n5.getLsbD 1)) (n5.getLsbD 3) n4 n3 (n2 ++ n0) else .unpredictableWord w
  | 13, true, false => if n2 = 0x0#4 ∧ (n6.getLsbD 0 = true ∨ n5.getLsbD 1 = false) then .ldrsbReg c (.ofBits (n6.getLsbD 0) (n5.getLsbD 1)) (n5.getLsbD 3) n4 n3 n0 else .unpredictableWord w
  | 13, true, true => if (n6.getLsbD 0 = true ∨ n5.getLsbD 1 = false) then .ldrsbImm c (.ofBits (n6.getLsbD 0) (n5.getLsbD 1)) (n5.getLsbD 3) n4 n3 (n2 ++ n0) else .unpredictableWord w
  | _, false, false => if n2 = 0x0#4 ∧ (n6.getLsbD 0 = true ∨ n5.getLsbD 1 = false) then .strdReg c (.ofBits (n6.getLsbD 0) (n5.getLsbD 1)) (n5.getLsbD 3) n4 n3 n0 else .unpredictableWord w
  | _, false, true => if (n6.getLsbD 0 = true ∨ n5.getLsbD 1 = false) then .strdImm c (.ofBits (n6.getLsbD 0) (n5.getLsbD 1)) (n5.getLsbD 3) n4 n3 (n2 ++ n0) else .unpredictableWord w
  | _, true, false => if n2 = 0x0#4 ∧ (n6.getLsbD 0 = true ∨ n5.getLsbD 1 = false) then .ldrshReg c (.ofBits (n6.getLsbD 0) (n5.getLsbD 1)) (n5.getLsbD 3) n4 n3 n0 else .unpredictableWord w
  | _, true, true => if (n6.getLsbD 0 = true ∨ n5.getLsbD 1 = false) then .ldrshImm c (.ofBits (n6.getLsbD 0) (n5.getLsbD 1)) (n5.getLsbD 3) n4 n3 (n2 ++ n0) else .unpredictableWord w

/-- R280: bits[27:23] = 00010, bit[20] = 0, not both bit[7] and bit[4] set; by bits[7:4] and bits[22:21]. -/
def decodeMisc (w : Word) (c : Cond) (n5 n4 n3 n2 n1 n0 : BitVec 4) : Instr :=
  match n1.toNat, (n5.extractLsb' 1 2).toNat with
  | 0, 0 | 0, 2 => if n2 = 0x0#4 ∧ n0 = 0x0#4 ∧ n4 = 0xF#4 then .mrs c (n5.getLsbD 2) n3 else .unpredictableWord w
  | 0, 1 | 0, 3 => if n2 = 0x0#4 ∧ n3 = 0xF#4 then .msrReg c (n5.getLsbD 2) n4 n0 else .unpredictableWord w
  | 1, 1 => if n4 = 0xF#4 ∧ n3 = 0xF#4 ∧ n2 = 0xF#4 then .bx c n0 else .unpredictableWord w
  | 1, 3 => if n4 = 0xF#4 ∧ n2 = 0xF#4 then .clz c n3 n0 else .unpredictableWord w
  | 2, 1 => if n4 = 0xF#4 ∧ n3 = 0xF#4 ∧ n2 = 0xF#4 then .bxj c n0 else .unpredictableWord w
  | 3, 1 => if n4 = 0xF#4 ∧ n3 = 0xF#4 ∧ n2 = 0xF#4 then .blx2 c n0 else .unpredictableWord w
  | 5, 0 => if n2 = 0x0#4 then .qadd c n4 n3 n0 else .unpredictableWord w
  | 5, 1 => if n2 = 0x0#4 then .qsub c n4 n3 n0 else .unpredictableWord w
  | 5, 2 => if n2 = 0x0#4 then .qdadd c n4 n3 n0 else .unpredictableWord w
  | 5, 3 => if n2 = 0x0#4 then .qdsub c n4 n3 n0 else .unpredictableWord w
  | 7, 1 => if c = .al then .bkpt (n4 ++ n3 ++ n2 ++ n0) else .unpredictableWord w
  | 8, 0 | 10, 0 | 12, 0 | 14, 0 => .smlaxy c n4 n3 n2 (n1.getLsbD 2) (n1.getLsbD 1) n0
  | 8, 1 | 12, 1 => .smlawy c n4 n3 n2 (n1.getLsbD 2) n0
  | 10, 1 | 14, 1 => if n3 = 0x0#4 then .smulwy c n4 n2 (n1.getLsbD 2) n0 else .unpredictableWord w
  | 8, 2 | 10, 2 | 12, 2 | 14, 2 => .smlalxy c n4 n3 n2 (n1.getLsbD 2) (n1.getLsbD 1) n0
  | 8, 3 | 10, 3 | 12, 3 | 14, 3 => if n3 = 0x0#4 then .smulxy c n4 n2 (n1.getLsbD 2) (n1.getLsbD 1) n0 else .unpredictableWord w
  | _, _ => .undefinedWord w

/-- R272, R273: the data-processing instructions with an operand shifted by an immediate, by opcode. -/
def decodeShiftImm (w : Word) (c : Cond) (n6 n5 n4 n3 n2 n1 n0 : BitVec 4) : Instr :=
  match (n6.extractLsb' 0 1 ++ n5.extractLsb' 1 3).toNat with
  | 0 => .andShiftImm c (n5.getLsbD 0) n4 n3 ⟨n2 ++ n1.extractLsb' 3 1, .ofBits (n1.extractLsb' 1 2), n0⟩
  | 1 => .eorShiftImm c (n5.getLsbD 0) n4 n3 ⟨n2 ++ n1.extractLsb' 3 1, .ofBits (n1.extractLsb' 1 2), n0⟩
  | 2 => .subShiftImm c (n5.getLsbD 0) n4 n3 ⟨n2 ++ n1.extractLsb' 3 1, .ofBits (n1.extractLsb' 1 2), n0⟩
  | 3 => .rsbShiftImm c (n5.getLsbD 0) n4 n3 ⟨n2 ++ n1.extractLsb' 3 1, .ofBits (n1.extractLsb' 1 2), n0⟩
  | 4 => .addShiftImm c (n5.getLsbD 0) n4 n3 ⟨n2 ++ n1.extractLsb' 3 1, .ofBits (n1.extractLsb' 1 2), n0⟩
  | 5 => .adcShiftImm c (n5.getLsbD 0) n4 n3 ⟨n2 ++ n1.extractLsb' 3 1, .ofBits (n1.extractLsb' 1 2), n0⟩
  | 6 => .sbcShiftImm c (n5.getLsbD 0) n4 n3 ⟨n2 ++ n1.extractLsb' 3 1, .ofBits (n1.extractLsb' 1 2), n0⟩
  | 7 => .rscShiftImm c (n5.getLsbD 0) n4 n3 ⟨n2 ++ n1.extractLsb' 3 1, .ofBits (n1.extractLsb' 1 2), n0⟩
  | 8 => if n3 = 0x0#4 then .tstShiftImm c n4 ⟨n2 ++ n1.extractLsb' 3 1, .ofBits (n1.extractLsb' 1 2), n0⟩ else .unpredictableWord w
  | 9 => if n3 = 0x0#4 then .teqShiftImm c n4 ⟨n2 ++ n1.extractLsb' 3 1, .ofBits (n1.extractLsb' 1 2), n0⟩ else .unpredictableWord w
  | 10 => if n3 = 0x0#4 then .cmpShiftImm c n4 ⟨n2 ++ n1.extractLsb' 3 1, .ofBits (n1.extractLsb' 1 2), n0⟩ else .unpredictableWord w
  | 11 => if n3 = 0x0#4 then .cmnShiftImm c n4 ⟨n2 ++ n1.extractLsb' 3 1, .ofBits (n1.extractLsb' 1 2), n0⟩ else .unpredictableWord w
  | 12 => .orrShiftImm c (n5.getLsbD 0) n4 n3 ⟨n2 ++ n1.extractLsb' 3 1, .ofBits (n1.extractLsb' 1 2), n0⟩
  | 13 => if n4 = 0x0#4 then .movShiftImm c (n5.getLsbD 0) n3 ⟨n2 ++ n1.extractLsb' 3 1, .ofBits (n1.extractLsb' 1 2), n0⟩ else .unpredictableWord w
  | 14 => .bicShiftImm c (n5.getLsbD 0) n4 n3 ⟨n2 ++ n1.extractLsb' 3 1, .ofBits (n1.extractLsb' 1 2), n0⟩
  | _ => if n4 = 0x0#4 then .mvnShiftImm c (n5.getLsbD 0) n3 ⟨n2 ++ n1.extractLsb' 3 1, .ofBits (n1.extractLsb' 1 2), n0⟩ else .unpredictableWord w

/-- R272, R273: the data-processing instructions with an operand shifted by a register, by opcode. -/
def decodeShiftReg (w : Word) (c : Cond) (n6 n5 n4 n3 n2 n1 n0 : BitVec 4) : Instr :=
  match (n6.extractLsb' 0 1 ++ n5.extractLsb' 1 3).toNat with
  | 0 => .andShiftReg c (n5.getLsbD 0) n4 n3 ⟨n2, .ofBits (n1.extractLsb' 1 2), n0⟩
  | 1 => .eorShiftReg c (n5.getLsbD 0) n4 n3 ⟨n2, .ofBits (n1.extractLsb' 1 2), n0⟩
  | 2 => .subShiftReg c (n5.getLsbD 0) n4 n3 ⟨n2, .ofBits (n1.extractLsb' 1 2), n0⟩
  | 3 => .rsbShiftReg c (n5.getLsbD 0) n4 n3 ⟨n2, .ofBits (n1.extractLsb' 1 2), n0⟩
  | 4 => .addShiftReg c (n5.getLsbD 0) n4 n3 ⟨n2, .ofBits (n1.extractLsb' 1 2), n0⟩
  | 5 => .adcShiftReg c (n5.getLsbD 0) n4 n3 ⟨n2, .ofBits (n1.extractLsb' 1 2), n0⟩
  | 6 => .sbcShiftReg c (n5.getLsbD 0) n4 n3 ⟨n2, .ofBits (n1.extractLsb' 1 2), n0⟩
  | 7 => .rscShiftReg c (n5.getLsbD 0) n4 n3 ⟨n2, .ofBits (n1.extractLsb' 1 2), n0⟩
  | 8 => if n3 = 0x0#4 then .tstShiftReg c n4 ⟨n2, .ofBits (n1.extractLsb' 1 2), n0⟩ else .unpredictableWord w
  | 9 => if n3 = 0x0#4 then .teqShiftReg c n4 ⟨n2, .ofBits (n1.extractLsb' 1 2), n0⟩ else .unpredictableWord w
  | 10 => if n3 = 0x0#4 then .cmpShiftReg c n4 ⟨n2, .ofBits (n1.extractLsb' 1 2), n0⟩ else .unpredictableWord w
  | 11 => if n3 = 0x0#4 then .cmnShiftReg c n4 ⟨n2, .ofBits (n1.extractLsb' 1 2), n0⟩ else .unpredictableWord w
  | 12 => .orrShiftReg c (n5.getLsbD 0) n4 n3 ⟨n2, .ofBits (n1.extractLsb' 1 2), n0⟩
  | 13 => if n4 = 0x0#4 then .movShiftReg c (n5.getLsbD 0) n3 ⟨n2, .ofBits (n1.extractLsb' 1 2), n0⟩ else .unpredictableWord w
  | 14 => .bicShiftReg c (n5.getLsbD 0) n4 n3 ⟨n2, .ofBits (n1.extractLsb' 1 2), n0⟩
  | _ => if n4 = 0x0#4 then .mvnShiftReg c (n5.getLsbD 0) n3 ⟨n2, .ofBits (n1.extractLsb' 1 2), n0⟩ else .unpredictableWord w

/-- R272, R273: the data-processing instructions with an immediate operand, by opcode. -/
def decodeImm (w : Word) (c : Cond) (n6 n5 n4 n3 n2 n1 n0 : BitVec 4) : Instr :=
  match (n6.extractLsb' 0 1 ++ n5.extractLsb' 1 3).toNat with
  | 0 => .andImm c (n5.getLsbD 0) n4 n3 ⟨n2, n1 ++ n0⟩
  | 1 => .eorImm c (n5.getLsbD 0) n4 n3 ⟨n2, n1 ++ n0⟩
  | 2 => .subImm c (n5.getLsbD 0) n4 n3 ⟨n2, n1 ++ n0⟩
  | 3 => .rsbImm c (n5.getLsbD 0) n4 n3 ⟨n2, n1 ++ n0⟩
  | 4 => .addImm c (n5.getLsbD 0) n4 n3 ⟨n2, n1 ++ n0⟩
  | 5 => .adcImm c (n5.getLsbD 0) n4 n3 ⟨n2, n1 ++ n0⟩
  | 6 => .sbcImm c (n5.getLsbD 0) n4 n3 ⟨n2, n1 ++ n0⟩
  | 7 => .rscImm c (n5.getLsbD 0) n4 n3 ⟨n2, n1 ++ n0⟩
  | 8 => if n3 = 0x0#4 then .tstImm c n4 ⟨n2, n1 ++ n0⟩ else .unpredictableWord w
  | 9 => if n3 = 0x0#4 then .teqImm c n4 ⟨n2, n1 ++ n0⟩ else .unpredictableWord w
  | 10 => if n3 = 0x0#4 then .cmpImm c n4 ⟨n2, n1 ++ n0⟩ else .unpredictableWord w
  | 11 => if n3 = 0x0#4 then .cmnImm c n4 ⟨n2, n1 ++ n0⟩ else .unpredictableWord w
  | 12 => .orrImm c (n5.getLsbD 0) n4 n3 ⟨n2, n1 ++ n0⟩
  | 13 => if n4 = 0x0#4 then .movImm c (n5.getLsbD 0) n3 ⟨n2, n1 ++ n0⟩ else .unpredictableWord w
  | 14 => .bicImm c (n5.getLsbD 0) n4 n3 ⟨n2, n1 ++ n0⟩
  | _ => if n4 = 0x0#4 then .mvnImm c (n5.getLsbD 0) n3 ⟨n2, n1 ++ n0⟩ else .unpredictableWord w

/-- bits[24:23] = 10 and bit[20] = 0: note 2 of R267. -/
def isControlSpace (n6 n5 : BitVec 4) : Bool :=
  n6.getLsbD 0 && !n5.getLsbD 3 && !n5.getLsbD 0

/-- R268, bits[27:25] = 000. -/
def decodeGroup0 (w : Word) (c : Cond) (n6 n5 n4 n3 n2 n1 n0 : BitVec 4) : Instr :=
  bif n1.getLsbD 3 && n1.getLsbD 0 then
    bif n1 == 0x9#4 then
      bif n6.getLsbD 0 then decodeSwapExclusive w c n5 n4 n3 n2 n0
      else decodeMultiply w c n5 n4 n3 n2 n0
    else decodeMode3 w c n6 n5 n4 n3 n2 n1 n0
  else bif isControlSpace n6 n5 then decodeMisc w c n5 n4 n3 n2 n1 n0
  else bif n1.getLsbD 0 then decodeShiftReg w c n6 n5 n4 n3 n2 n1 n0
  else decodeShiftImm w c n6 n5 n4 n3 n2 n1 n0

/-- R268, bits[27:25] = 001. -/
def decodeGroup1 (w : Word) (c : Cond) (n6 n5 n4 n3 n2 n1 n0 : BitVec 4) : Instr :=
  bif isControlSpace n6 n5 then
    bif n5.getLsbD 1 then if n3 = 0xF#4 then .msrImm c (n5.getLsbD 2) n4 ⟨n2, n1 ++ n0⟩ else .unpredictableWord w
    else .undefinedWord w
  else decodeImm w c n6 n5 n4 n3 n2 n1 n0

/-- R282: bits[27:25] = 010. P = 0 with W = 1 selects the T forms. -/
def decodeMode2Imm (c : Cond) (n6 n5 n4 n3 n2 n1 n0 : BitVec 4) : Instr :=
  match n5.getLsbD 0, n5.getLsbD 2, !n6.getLsbD 0 && n5.getLsbD 1 with
  | true, false, false => .ldrImm c (.ofBits (n6.getLsbD 0) (n5.getLsbD 1)) (n5.getLsbD 3) n4 n3 (n2 ++ n1 ++ n0)
  | true, false, true => .ldrtImm c (n5.getLsbD 3) n4 n3 (n2 ++ n1 ++ n0)
  | true, true, false => .ldrbImm c (.ofBits (n6.getLsbD 0) (n5.getLsbD 1)) (n5.getLsbD 3) n4 n3 (n2 ++ n1 ++ n0)
  | true, true, true => .ldrbtImm c (n5.getLsbD 3) n4 n3 (n2 ++ n1 ++ n0)
  | false, false, false => .strImm c (.ofBits (n6.getLsbD 0) (n5.getLsbD 1)) (n5.getLsbD 3) n4 n3 (n2 ++ n1 ++ n0)
  | false, false, true => .strtImm c (n5.getLsbD 3) n4 n3 (n2 ++ n1 ++ n0)
  | false, true, false => .strbImm c (.ofBits (n6.getLsbD 0) (n5.getLsbD 1)) (n5.getLsbD 3) n4 n3 (n2 ++ n1 ++ n0)
  | false, true, true => .strbtImm c (n5.getLsbD 3) n4 n3 (n2 ++ n1 ++ n0)

/-- R282: bits[27:25] = 011, bit[4] = 0. -/
def decodeMode2Reg (c : Cond) (n6 n5 n4 n3 n2 n1 n0 : BitVec 4) : Instr :=
  match n5.getLsbD 0, n5.getLsbD 2, !n6.getLsbD 0 && n5.getLsbD 1 with
  | true, false, false => .ldrReg c (.ofBits (n6.getLsbD 0) (n5.getLsbD 1)) (n5.getLsbD 3) n4 n3 ⟨n2 ++ n1.extractLsb' 3 1, .ofBits (n1.extractLsb' 1 2), n0⟩
  | true, false, true => .ldrtReg c (n5.getLsbD 3) n4 n3 ⟨n2 ++ n1.extractLsb' 3 1, .ofBits (n1.extractLsb' 1 2), n0⟩
  | true, true, false => .ldrbReg c (.ofBits (n6.getLsbD 0) (n5.getLsbD 1)) (n5.getLsbD 3) n4 n3 ⟨n2 ++ n1.extractLsb' 3 1, .ofBits (n1.extractLsb' 1 2), n0⟩
  | true, true, true => .ldrbtReg c (n5.getLsbD 3) n4 n3 ⟨n2 ++ n1.extractLsb' 3 1, .ofBits (n1.extractLsb' 1 2), n0⟩
  | false, false, false => .strReg c (.ofBits (n6.getLsbD 0) (n5.getLsbD 1)) (n5.getLsbD 3) n4 n3 ⟨n2 ++ n1.extractLsb' 3 1, .ofBits (n1.extractLsb' 1 2), n0⟩
  | false, false, true => .strtReg c (n5.getLsbD 3) n4 n3 ⟨n2 ++ n1.extractLsb' 3 1, .ofBits (n1.extractLsb' 1 2), n0⟩
  | false, true, false => .strbReg c (.ofBits (n6.getLsbD 0) (n5.getLsbD 1)) (n5.getLsbD 3) n4 n3 ⟨n2 ++ n1.extractLsb' 3 1, .ofBits (n1.extractLsb' 1 2), n0⟩
  | false, true, true => .strbtReg c (n5.getLsbD 3) n4 n3 ⟨n2 ++ n1.extractLsb' 3 1, .ofBits (n1.extractLsb' 1 2), n0⟩

/-- The parallel additions and subtractions of R293, by opc1 (bits[22:20]) and bits[7:4]. -/
def decodeParallel (w : Word) (c : Cond) (n5 n4 n3 n2 n1 n0 : BitVec 4) : Instr :=
  match n5.toNat, n1.toNat with
  | 1, 1 => if n2 = 0xF#4 then .sadd16 c n4 n3 n0 else .unpredictableWord w
  | 1, 3 => if n2 = 0xF#4 then .saddsubx c n4 n3 n0 else .unpredictableWord w
  | 1, 5 => if n2 = 0xF#4 then .ssubaddx c n4 n3 n0 else .unpredictableWord w
  | 1, 7 => if n2 = 0xF#4 then .ssub16 c n4 n3 n0 else .unpredictableWord w
  | 1, 9 => if n2 = 0xF#4 then .sadd8 c n4 n3 n0 else .unpredictableWord w
  | 1, 15 => if n2 = 0xF#4 then .ssub8 c n4 n3 n0 else .unpredictableWord w
  | 2, 1 => if n2 = 0xF#4 then .qadd16 c n4 n3 n0 else .unpredictableWord w
  | 2, 3 => if n2 = 0xF#4 then .qaddsubx c n4 n3 n0 else .unpredictableWord w
  | 2, 5 => if n2 = 0xF#4 then .qsubaddx c n4 n3 n0 else .unpredictableWord w
  | 2, 7 => if n2 = 0xF#4 then .qsub16 c n4 n3 n0 else .unpredictableWord w
  | 2, 9 => if n2 = 0xF#4 then .qadd8 c n4 n3 n0 else .unpredictableWord w
  | 2, 15 => if n2 = 0xF#4 then .qsub8 c n4 n3 n0 else .unpredictableWord w
  | 3, 1 => if n2 = 0xF#4 then .shadd16 c n4 n3 n0 else .unpredictableWord w
  | 3, 3 => if n2 = 0xF#4 then .shaddsubx c n4 n3 n0 else .unpredictableWord w
  | 3, 5 => if n2 = 0xF#4 then .shsubaddx c n4 n3 n0 else .unpredictableWord w
  | 3, 7 => if n2 = 0xF#4 then .shsub16 c n4 n3 n0 else .unpredictableWord w
  | 3, 9 => if n2 = 0xF#4 then .shadd8 c n4 n3 n0 else .unpredictableWord w
  | 3, 15 => if n2 = 0xF#4 then .shsub8 c n4 n3 n0 else .unpredictableWord w
  | 5, 1 => if n2 = 0xF#4 then .uadd16 c n4 n3 n0 else .unpredictableWord w
  | 5, 3 => if n2 = 0xF#4 then .uaddsubx c n4 n3 n0 else .unpredictableWord w
  | 5, 5 => if n2 = 0xF#4 then .usubaddx c n4 n3 n0 else .unpredictableWord w
  | 5, 7 => if n2 = 0xF#4 then .usub16 c n4 n3 n0 else .unpredictableWord w
  | 5, 9 => if n2 = 0xF#4 then .uadd8 c n4 n3 n0 else .unpredictableWord w
  | 5, 15 => if n2 = 0xF#4 then .usub8 c n4 n3 n0 else .unpredictableWord w
  | 6, 1 => if n2 = 0xF#4 then .uqadd16 c n4 n3 n0 else .unpredictableWord w
  | 6, 3 => if n2 = 0xF#4 then .uqaddsubx c n4 n3 n0 else .unpredictableWord w
  | 6, 5 => if n2 = 0xF#4 then .uqsubaddx c n4 n3 n0 else .unpredictableWord w
  | 6, 7 => if n2 = 0xF#4 then .uqsub16 c n4 n3 n0 else .unpredictableWord w
  | 6, 9 => if n2 = 0xF#4 then .uqadd8 c n4 n3 n0 else .unpredictableWord w
  | 6, 15 => if n2 = 0xF#4 then .uqsub8 c n4 n3 n0 else .unpredictableWord w
  | 7, 1 => if n2 = 0xF#4 then .uhadd16 c n4 n3 n0 else .unpredictableWord w
  | 7, 3 => if n2 = 0xF#4 then .uhaddsubx c n4 n3 n0 else .unpredictableWord w
  | 7, 5 => if n2 = 0xF#4 then .uhsubaddx c n4 n3 n0 else .unpredictableWord w
  | 7, 7 => if n2 = 0xF#4 then .uhsub16 c n4 n3 n0 else .unpredictableWord w
  | 7, 9 => if n2 = 0xF#4 then .uhadd8 c n4 n3 n0 else .unpredictableWord w
  | 7, 15 => if n2 = 0xF#4 then .uhsub8 c n4 n3 n0 else .unpredictableWord w
  | _, _ => .undefinedWord w

/-- Halfword pack and word saturate (R292, bits[5:4] = 01). -/
def decodePackSaturate (w : Word) (c : Cond) (n5 n4 n3 n2 n1 n0 : BitVec 4) : Instr :=
  match n5.toNat with
  | 8 => bif n1.getLsbD 2 then .pkhtb c n4 n3 (n2 ++ n1.extractLsb' 3 1) n0
    else .pkhbt c n4 n3 (n2 ++ n1.extractLsb' 3 1) n0
  | 10 | 11 => .ssat c (n5.extractLsb' 0 1 ++ n4) n3 (n2 ++ n1.extractLsb' 3 1) (n1.getLsbD 2) n0
  | 14 | 15 => .usat c (n5.extractLsb' 0 1 ++ n4) n3 (n2 ++ n1.extractLsb' 3 1) (n1.getLsbD 2) n0
  | _ => .undefinedWord w

/-- The rows of R292 with bits[27:23] = 01101 and bits[5:4] = 11, by bits[22:20] and bits[7:4]. -/
def decodeMediaMisc (w : Word) (c : Cond) (n5 n4 n3 n2 n1 n0 : BitVec 4) : Instr :=
  match n5.toNat, n1.toNat with
  | 10, 3 => if n2 = 0xF#4 then .ssat16 c n4 n3 n0 else .unpredictableWord w
  | 14, 3 => if n2 = 0xF#4 then .usat16 c n4 n3 n0 else .unpredictableWord w
  | 11, 3 => if n4 = 0xF#4 ∧ n2 = 0xF#4 then .rev c n3 n0 else .unpredictableWord w
  | 11, 11 => if n4 = 0xF#4 ∧ n2 = 0xF#4 then .rev16 c n3 n0 else .unpredictableWord w
  | 15, 11 => if n4 = 0xF#4 ∧ n2 = 0xF#4 then .revsh c n3 n0 else .unpredictableWord w
  | 8, 11 => if n2 = 0xF#4 then .sel c n4 n3 n0 else .unpredictableWord w
  | 8, 7 => bif n4 == 0xF#4 then (if n2.extractLsb' 0 2 = 0#2 then .sxtb16 c n3 (n2.extractLsb' 2 2) n0 else .unpredictableWord w)
    else if n2.extractLsb' 0 2 = 0#2 then .sxtab16 c n4 n3 (n2.extractLsb' 2 2) n0 else .unpredictableWord w
  | 10, 7 => bif n4 == 0xF#4 then (if n2.extractLsb' 0 2 = 0#2 then .sxtb c n3 (n2.extractLsb' 2 2) n0 else .unpredictableWord w)
    else if n2.extractLsb' 0 2 = 0#2 then .sxtab c n4 n3 (n2.extractLsb' 2 2) n0 else .unpredictableWord w
  | 11, 7 => bif n4 == 0xF#4 then (if n2.extractLsb' 0 2 = 0#2 then .sxth c n3 (n2.extractLsb' 2 2) n0 else .unpredictableWord w)
    else if n2.extractLsb' 0 2 = 0#2 then .sxtah c n4 n3 (n2.extractLsb' 2 2) n0 else .unpredictableWord w
  | 12, 7 => bif n4 == 0xF#4 then (if n2.extractLsb' 0 2 = 0#2 then .uxtb16 c n3 (n2.extractLsb' 2 2) n0 else .unpredictableWord w)
    else if n2.extractLsb' 0 2 = 0#2 then .uxtab16 c n4 n3 (n2.extractLsb' 2 2) n0 else .unpredictableWord w
  | 14, 7 => bif n4 == 0xF#4 then (if n2.extractLsb' 0 2 = 0#2 then .uxtb c n3 (n2.extractLsb' 2 2) n0 else .unpredictableWord w)
    else if n2.extractLsb' 0 2 = 0#2 then .uxtab c n4 n3 (n2.extractLsb' 2 2) n0 else .unpredictableWord w
  | 15, 7 => bif n4 == 0xF#4 then (if n2.extractLsb' 0 2 = 0#2 then .uxth c n3 (n2.extractLsb' 2 2) n0 else .unpredictableWord w)
    else if n2.extractLsb' 0 2 = 0#2 then .uxtah c n4 n3 (n2.extractLsb' 2 2) n0 else .unpredictableWord w
  | _, _ => .undefinedWord w

/-- Multiplies (type 3) and the sums of absolute differences (R292, R293): bits[27:24] = 0111. -/
def decodeMultiply3 (w : Word) (c : Cond) (n5 n4 n3 n2 n1 n0 : BitVec 4) : Instr :=
  match n5.toNat, n1.toNat with
  | 0, 1 | 0, 3 => bif n3 == 0xF#4 then .smuad c n4 n2 (n1.getLsbD 1) n0
    else .smlad c n4 n3 n2 (n1.getLsbD 1) n0
  | 0, 5 | 0, 7 => bif n3 == 0xF#4 then .smusd c n4 n2 (n1.getLsbD 1) n0
    else .smlsd c n4 n3 n2 (n1.getLsbD 1) n0
  | 4, 1 | 4, 3 => .smlald c n4 n3 n2 (n1.getLsbD 1) n0
  | 4, 5 | 4, 7 => .smlsld c n4 n3 n2 (n1.getLsbD 1) n0
  | 5, 1 | 5, 3 => bif n3 == 0xF#4 then .smmul c n4 n2 (n1.getLsbD 1) n0
    else .smmla c n4 n3 n2 (n1.getLsbD 1) n0
  | 5, 13 | 5, 15 => .smmls c n4 n3 n2 (n1.getLsbD 1) n0
  | 8, 1 => bif n3 == 0xF#4 then .usad8 c n4 n2 n0
    else .usada8 c n4 n3 n2 n0
  | _, _ => .undefinedWord w

/-- R294. The architecturally undefined pattern of R296 is one of the words no row covers. -/
def decodeMedia (w : Word) (c : Cond) (n6 n5 n4 n3 n2 n1 n0 : BitVec 4) : Instr :=
  bif n6.getLsbD 0 then decodeMultiply3 w c n5 n4 n3 n2 n1 n0
  else bif !n5.getLsbD 3 then decodeParallel w c n5 n4 n3 n2 n1 n0
  else bif n1.getLsbD 1 then decodeMediaMisc w c n5 n4 n3 n2 n1 n0
  else decodePackSaturate w c n5 n4 n3 n2 n1 n0

/-- R288: bits[27:25] = 100. -/
def decodeMultiple (c : Cond) (n6 n5 n4 n3 n2 n1 n0 : BitVec 4) : Instr :=
  match n5.getLsbD 0, n5.getLsbD 2 with
  | true, false => .ldm1 c (.ofBits (n6.getLsbD 0) (n5.getLsbD 3)) (n5.getLsbD 1) n4 (n3 ++ n2 ++ n1 ++ n0)
  | true, true => bif n3.getLsbD 3 then .ldm3 c (.ofBits (n6.getLsbD 0) (n5.getLsbD 3)) (n5.getLsbD 1) n4 (n3.extractLsb' 0 3 ++ n2 ++ n1 ++ n0)
    else .ldm2 c (.ofBits (n6.getLsbD 0) (n5.getLsbD 3)) (n5.getLsbD 1) n4 (n3.extractLsb' 0 3 ++ n2 ++ n1 ++ n0)
  | false, false => .stm1 c (.ofBits (n6.getLsbD 0) (n5.getLsbD 3)) (n5.getLsbD 1) n4 (n3 ++ n2 ++ n1 ++ n0)
  | false, true => .stm2 c (.ofBits (n6.getLsbD 0) (n5.getLsbD 3)) (n5.getLsbD 1) n4 (n3 ++ n2 ++ n1 ++ n0)

/-- R297, R298: bits[27:25] = 110. -/
def decodeCoprocLoadStore (w : Word) (c : Cond) (n6 n5 n4 n3 n2 n1 n0 : BitVec 4) : Instr :=
  bif !n6.getLsbD 0 && !n5.getLsbD 3 && !n5.getLsbD 1 then
    bif n5.getLsbD 2 then
      bif n5.getLsbD 0 then .mrrc c n4 n3 n2 n1 n0
      else .mcrr c n4 n3 n2 n1 n0
    else .undefinedWord w
  else bif n5.getLsbD 0 then .ldc c (n6.getLsbD 0) (n5.getLsbD 3) (n5.getLsbD 2) (n5.getLsbD 1) n4 n3 n2 (n1 ++ n0)
  else .stc c (n6.getLsbD 0) (n5.getLsbD 3) (n5.getLsbD 2) (n5.getLsbD 1) n4 n3 n2 (n1 ++ n0)

/-- R297: bits[27:24] = 1110. -/
def decodeCoproc (c : Cond) (n5 n4 n3 n2 n1 n0 : BitVec 4) : Instr :=
  bif !n1.getLsbD 0 then .cdp c n5 n4 n3 n2 (n1.extractLsb' 1 3) n0
  else bif n5.getLsbD 0 then .mrc c (n5.extractLsb' 1 3) n4 n3 n2 (n1.extractLsb' 1 3) n0
  else .mcr c (n5.extractLsb' 1 3) n4 n3 n2 (n1.extractLsb' 1 3) n0

/-- R268, the words whose condition field is not 1111. -/
def decodeConditional (w : Word) (c : Cond) (n6 n5 n4 n3 n2 n1 n0 : BitVec 4) : Instr :=
  match n6.toNat with
  | 0 | 1 => decodeGroup0 w c n6 n5 n4 n3 n2 n1 n0
  | 2 | 3 => decodeGroup1 w c n6 n5 n4 n3 n2 n1 n0
  | 4 | 5 => decodeMode2Imm c n6 n5 n4 n3 n2 n1 n0
  | 6 | 7 =>
    bif n1.getLsbD 0 then decodeMedia w c n6 n5 n4 n3 n2 n1 n0
    else decodeMode2Reg c n6 n5 n4 n3 n2 n1 n0
  | 8 | 9 => decodeMultiple c n6 n5 n4 n3 n2 n1 n0
  | 10 => .b c (n5 ++ n4 ++ n3 ++ n2 ++ n1 ++ n0)
  | 11 => .bl c (n5 ++ n4 ++ n3 ++ n2 ++ n1 ++ n0)
  | 12 | 13 => decodeCoprocLoadStore w c n6 n5 n4 n3 n2 n1 n0
  | 14 => decodeCoproc c n5 n4 n3 n2 n1 n0
  | _ => .swi c (n5 ++ n4 ++ n3 ++ n2 ++ n1 ++ n0)

/-- R302, bits[27:25] = 000 and 001. -/
def decodeCpsSetend (w : Word) (n6 n5 n4 n3 n2 n1 n0 : BitVec 4) : Instr :=
  bif n6 == 0x1#4 && n5 == 0x0#4 && !n1.getLsbD 1 then
    bif !n4.getLsbD 0 then if n3 = 0x0#4 ∧ n2.extractLsb' 1 3 = 0#3 then .cps (n4.extractLsb' 2 2) (n4.getLsbD 1) (n2.getLsbD 0) (n1.getLsbD 3) (n1.getLsbD 2) (n1.extractLsb' 0 1 ++ n0) else .unpredictableWord w
    else bif n4 == 0x1#4 && n1 == 0x0#4 then if n3 = 0x0#4 ∧ n2.extractLsb' 2 2 = 0#2 ∧ n2.extractLsb' 0 1 = 0#1 ∧ n0 = 0x0#4 then .setend (n2.getLsbD 1) else .unpredictableWord w
    else .unpredictableWord w
  else .undefinedWord w

/-- R302, bits[27:25] = 010 and 011. -/
def decodePld (w : Word) (n6 n5 n4 n3 n2 n1 n0 : BitVec 4) : Instr :=
  bif n6.getLsbD 0 && n5.extractLsb' 0 3 == 5#3 then
    bif !n6.getLsbD 1 then
      bif n3 == 0xF#4 then .pldImm (n5.getLsbD 3) n4 (n2 ++ n1 ++ n0)
      else .unpredictableWord w
    else bif n1.getLsbD 0 then .undefinedWord w
    else bif n3 == 0xF#4 then .pldReg (n5.getLsbD 3) n4 ⟨n2 ++ n1.extractLsb' 3 1, .ofBits (n1.extractLsb' 1 2), n0⟩
    else .unpredictableWord w
  else .undefinedWord w

/-- R302, bits[27:25] = 100. -/
def decodeSrsRfe (w : Word) (n6 n5 n4 n3 n2 n1 n0 : BitVec 4) : Instr :=
  bif n5.getLsbD 2 && !n5.getLsbD 0 then
    bif n4 == 0xD#4 && n2 == 0x5#4 then if n3 = 0x0#4 ∧ n1.extractLsb' 1 3 = 0#3 then .srs (.ofBits (n6.getLsbD 0) (n5.getLsbD 3)) (n5.getLsbD 1) (n1.extractLsb' 0 1 ++ n0) else .unpredictableWord w
    else .unpredictableWord w
  else bif !n5.getLsbD 2 && n5.getLsbD 0 then
    bif n2 == 0xA#4 then if n3 = 0x0#4 ∧ n1 = 0x0#4 ∧ n0 = 0x0#4 then .rfe (.ofBits (n6.getLsbD 0) (n5.getLsbD 3)) (n5.getLsbD 1) n4 else .unpredictableWord w
    else .unpredictableWord w
  else .undefinedWord w

/-- R302, bits[27:25] = 110. -/
def decodeCoproc2LoadStore (w : Word) (n6 n5 n4 n3 n2 n1 n0 : BitVec 4) : Instr :=
  bif !n6.getLsbD 0 && !n5.getLsbD 3 && !n5.getLsbD 1 then
    bif n5.getLsbD 2 then
      bif n5.getLsbD 0 then .mrrc2 n4 n3 n2 n1 n0
      else .mcrr2 n4 n3 n2 n1 n0
    else .undefinedWord w
  else bif n5.getLsbD 0 then .ldc2 (n6.getLsbD 0) (n5.getLsbD 3) (n5.getLsbD 2) (n5.getLsbD 1) n4 n3 n2 (n1 ++ n0)
  else .stc2 (n6.getLsbD 0) (n5.getLsbD 3) (n5.getLsbD 2) (n5.getLsbD 1) n4 n3 n2 (n1 ++ n0)

/-- R302: bits[31:28] = 1111. -/
def decodeUnconditional (w : Word) (n6 n5 n4 n3 n2 n1 n0 : BitVec 4) : Instr :=
  match n6.toNat with
  | 0 | 1 | 2 | 3 => decodeCpsSetend w n6 n5 n4 n3 n2 n1 n0
  | 4 | 5 | 6 | 7 => decodePld w n6 n5 n4 n3 n2 n1 n0
  | 8 | 9 => decodeSrsRfe w n6 n5 n4 n3 n2 n1 n0
  | 10 | 11 => .blx1 (n6.getLsbD 0) (n5 ++ n4 ++ n3 ++ n2 ++ n1 ++ n0)
  | 12 | 13 => decodeCoproc2LoadStore w n6 n5 n4 n3 n2 n1 n0
  | 14 =>
    bif !n1.getLsbD 0 then .cdp2 n5 n4 n3 n2 (n1.extractLsb' 1 3) n0
    else bif n5.getLsbD 0 then .mrc2 (n5.extractLsb' 1 3) n4 n3 n2 (n1.extractLsb' 1 3) n0
    else .mcr2 (n5.extractLsb' 1 3) n4 n3 n2 (n1.extractLsb' 1 3) n0
  | _ => .undefinedWord w

/-- R268 on the nibbles of `w`. -/
def decodeNibbles (w : Word) (n7 n6 n5 n4 n3 n2 n1 n0 : BitVec 4) : Instr :=
  match Cond.ofBits n7 with
  | none => decodeUnconditional w n6 n5 n4 n3 n2 n1 n0
  | some c => decodeConditional w c n6 n5 n4 n3 n2 n1 n0

/-- R268: every word reaches exactly one leaf. -/
def decode (w : Word) : Instr :=
  decodeNibbles w (nibble w 7) (nibble w 6) (nibble w 5) (nibble w 4) (nibble w 3) (nibble w 2) (nibble w 1) (nibble w 0)

/-- Why bytes give no instruction. -/
inductive DecodeError where
  /-- Fewer than the four bytes of an instruction (R260). -/
  | truncated
  deriving DecidableEq, Repr

/-- The little-endian word of four bytes, the lowest address first (R128). -/
def wordOfBytes (b0 b1 b2 b3 : Byte) : Word := b3 ++ b2 ++ b1 ++ b0

/-- The instruction at the front of a list of bytes, lowest address first, and the bytes after it (R128, R260). -/
def decodeBytes : List Byte → Except DecodeError (Instr × List Byte)
  | b0 :: b1 :: b2 :: b3 :: rest => .ok (decode (wordOfBytes b0 b1 b2 b3), rest)
  | _ => .error .truncated

/-- The four bytes of a word as an instruction is stored, lowest address first (R128). -/
def bytesOfWord (w : Word) : List Byte :=
  [w.extractLsb' 0 8, w.extractLsb' 8 8, w.extractLsb' 16 8, w.extractLsb' 24 8]

/-- What the decoder reads from the instruction whose bits are `w`, bits above `nbits` being zero, laid out as
the hardware stores it; `none` where the bytes are not one instruction of the machine. -/
def decodeTableWord (nbits w : Nat) : Option Instr :=
  match decodeBytes (bytesOfWord (BitVec.ofNat 32 (w % 2 ^ nbits))) with
  | .ok (i, []) => some i
  | _ => none

/-! ### The encoder -/

/-- The word that encodes an instruction, with every should-be-zero and should-be-one bit as it should be. -/
def encode : Instr → Word
  | .cps imod mmod a i f mode =>
    joinNibbles 0xF#4 0x1#4 0x0#4 (imod ++ BitVec.ofBool mmod ++ 0#1) 0x0#4 (0#3 ++ BitVec.ofBool a) (BitVec.ofBool i ++ BitVec.ofBool f ++ 0#1 ++ mode.extractLsb' 4 1) (mode.extractLsb' 0 4)
  | .setend e =>
    joinNibbles 0xF#4 0x1#4 0x0#4 0x1#4 0x0#4 (0#2 ++ BitVec.ofBool e ++ 0#1) 0x0#4 0x0#4
  | .pldImm u rn imm =>
    joinNibbles 0xF#4 0x5#4 (BitVec.ofBool u ++ 5#3) rn 0xF#4 (imm.extractLsb' 8 4) (imm.extractLsb' 4 4) (imm.extractLsb' 0 4)
  | .pldReg u rn op =>
    joinNibbles 0xF#4 0x7#4 (BitVec.ofBool u ++ 5#3) rn 0xF#4 (op.amount.extractLsb' 1 4) (op.amount.extractLsb' 0 1 ++ op.ty.bits ++ 0#1) op.rm
  | .srs am wb mode =>
    joinNibbles 0xF#4 (4#3 ++ BitVec.ofBool am.p) (BitVec.ofBool am.u ++ 1#1 ++ BitVec.ofBool wb ++ 0#1) 0xD#4 0x0#4 0x5#4 (0#3 ++ mode.extractLsb' 4 1) (mode.extractLsb' 0 4)
  | .rfe am wb rn =>
    joinNibbles 0xF#4 (4#3 ++ BitVec.ofBool am.p) (BitVec.ofBool am.u ++ 0#1 ++ BitVec.ofBool wb ++ 1#1) rn 0x0#4 0xA#4 0x0#4 0x0#4
  | .blx1 h imm =>
    joinNibbles 0xF#4 (5#3 ++ BitVec.ofBool h) (imm.extractLsb' 20 4) (imm.extractLsb' 16 4) (imm.extractLsb' 12 4) (imm.extractLsb' 8 4) (imm.extractLsb' 4 4) (imm.extractLsb' 0 4)
  | .mcrr2 rn rd cp op crm =>
    joinNibbles 0xF#4 0xC#4 0x4#4 rn rd cp op crm
  | .mrrc2 rn rd cp op crm =>
    joinNibbles 0xF#4 0xC#4 0x5#4 rn rd cp op crm
  | .stc2 p u n wb rn crd cp off =>
    joinNibbles 0xF#4 (6#3 ++ BitVec.ofBool p) (BitVec.ofBool u ++ BitVec.ofBool n ++ BitVec.ofBool wb ++ 0#1) rn crd cp (off.extractLsb' 4 4) (off.extractLsb' 0 4)
  | .ldc2 p u n wb rn crd cp off =>
    joinNibbles 0xF#4 (6#3 ++ BitVec.ofBool p) (BitVec.ofBool u ++ BitVec.ofBool n ++ BitVec.ofBool wb ++ 1#1) rn crd cp (off.extractLsb' 4 4) (off.extractLsb' 0 4)
  | .cdp2 op1 crn crd cp op2 crm =>
    joinNibbles 0xF#4 0xE#4 op1 crn crd cp (op2 ++ 0#1) crm
  | .mcr2 op1 crn rd cp op2 crm =>
    joinNibbles 0xF#4 0xE#4 (op1 ++ 0#1) crn rd cp (op2 ++ 1#1) crm
  | .mrc2 op1 crn rd cp op2 crm =>
    joinNibbles 0xF#4 0xE#4 (op1 ++ 1#1) crn rd cp (op2 ++ 1#1) crm
  | .mul c s rd rs rm =>
    joinNibbles c.bits 0x0#4 (0#3 ++ BitVec.ofBool s) rd 0x0#4 rs 0x9#4 rm
  | .mla c s rd rn rs rm =>
    joinNibbles c.bits 0x0#4 (1#3 ++ BitVec.ofBool s) rd rn rs 0x9#4 rm
  | .umaal c rdHi rdLo rs rm =>
    joinNibbles c.bits 0x0#4 0x4#4 rdHi rdLo rs 0x9#4 rm
  | .umull c s rdHi rdLo rs rm =>
    joinNibbles c.bits 0x0#4 (4#3 ++ BitVec.ofBool s) rdHi rdLo rs 0x9#4 rm
  | .umlal c s rdHi rdLo rs rm =>
    joinNibbles c.bits 0x0#4 (5#3 ++ BitVec.ofBool s) rdHi rdLo rs 0x9#4 rm
  | .smull c s rdHi rdLo rs rm =>
    joinNibbles c.bits 0x0#4 (6#3 ++ BitVec.ofBool s) rdHi rdLo rs 0x9#4 rm
  | .smlal c s rdHi rdLo rs rm =>
    joinNibbles c.bits 0x0#4 (7#3 ++ BitVec.ofBool s) rdHi rdLo rs 0x9#4 rm
  | .swp c rn rd rm =>
    joinNibbles c.bits 0x1#4 0x0#4 rn rd 0x0#4 0x9#4 rm
  | .swpb c rn rd rm =>
    joinNibbles c.bits 0x1#4 0x4#4 rn rd 0x0#4 0x9#4 rm
  | .strex c rn rd rm =>
    joinNibbles c.bits 0x1#4 0x8#4 rn rd 0xF#4 0x9#4 rm
  | .ldrex c rn rd =>
    joinNibbles c.bits 0x1#4 0x9#4 rn rd 0xF#4 0x9#4 0xF#4
  | .strhReg c idx u rn rd rm =>
    joinNibbles c.bits (0#3 ++ BitVec.ofBool idx.p) (BitVec.ofBool u ++ 0#1 ++ BitVec.ofBool idx.w ++ 0#1) rn rd 0x0#4 0xB#4 rm
  | .strhImm c idx u rn rd off =>
    joinNibbles c.bits (0#3 ++ BitVec.ofBool idx.p) (BitVec.ofBool u ++ 1#1 ++ BitVec.ofBool idx.w ++ 0#1) rn rd (off.extractLsb' 4 4) 0xB#4 (off.extractLsb' 0 4)
  | .ldrhReg c idx u rn rd rm =>
    joinNibbles c.bits (0#3 ++ BitVec.ofBool idx.p) (BitVec.ofBool u ++ 0#1 ++ BitVec.ofBool idx.w ++ 1#1) rn rd 0x0#4 0xB#4 rm
  | .ldrhImm c idx u rn rd off =>
    joinNibbles c.bits (0#3 ++ BitVec.ofBool idx.p) (BitVec.ofBool u ++ 1#1 ++ BitVec.ofBool idx.w ++ 1#1) rn rd (off.extractLsb' 4 4) 0xB#4 (off.extractLsb' 0 4)
  | .ldrdReg c idx u rn rd rm =>
    joinNibbles c.bits (0#3 ++ BitVec.ofBool idx.p) (BitVec.ofBool u ++ 0#1 ++ BitVec.ofBool idx.w ++ 0#1) rn rd 0x0#4 0xD#4 rm
  | .ldrdImm c idx u rn rd off =>
    joinNibbles c.bits (0#3 ++ BitVec.ofBool idx.p) (BitVec.ofBool u ++ 1#1 ++ BitVec.ofBool idx.w ++ 0#1) rn rd (off.extractLsb' 4 4) 0xD#4 (off.extractLsb' 0 4)
  | .ldrsbReg c idx u rn rd rm =>
    joinNibbles c.bits (0#3 ++ BitVec.ofBool idx.p) (BitVec.ofBool u ++ 0#1 ++ BitVec.ofBool idx.w ++ 1#1) rn rd 0x0#4 0xD#4 rm
  | .ldrsbImm c idx u rn rd off =>
    joinNibbles c.bits (0#3 ++ BitVec.ofBool idx.p) (BitVec.ofBool u ++ 1#1 ++ BitVec.ofBool idx.w ++ 1#1) rn rd (off.extractLsb' 4 4) 0xD#4 (off.extractLsb' 0 4)
  | .strdReg c idx u rn rd rm =>
    joinNibbles c.bits (0#3 ++ BitVec.ofBool idx.p) (BitVec.ofBool u ++ 0#1 ++ BitVec.ofBool idx.w ++ 0#1) rn rd 0x0#4 0xF#4 rm
  | .strdImm c idx u rn rd off =>
    joinNibbles c.bits (0#3 ++ BitVec.ofBool idx.p) (BitVec.ofBool u ++ 1#1 ++ BitVec.ofBool idx.w ++ 0#1) rn rd (off.extractLsb' 4 4) 0xF#4 (off.extractLsb' 0 4)
  | .ldrshReg c idx u rn rd rm =>
    joinNibbles c.bits (0#3 ++ BitVec.ofBool idx.p) (BitVec.ofBool u ++ 0#1 ++ BitVec.ofBool idx.w ++ 1#1) rn rd 0x0#4 0xF#4 rm
  | .ldrshImm c idx u rn rd off =>
    joinNibbles c.bits (0#3 ++ BitVec.ofBool idx.p) (BitVec.ofBool u ++ 1#1 ++ BitVec.ofBool idx.w ++ 1#1) rn rd (off.extractLsb' 4 4) 0xF#4 (off.extractLsb' 0 4)
  | .mrs c r rd =>
    joinNibbles c.bits 0x1#4 (0#1 ++ BitVec.ofBool r ++ 0#2) 0xF#4 rd 0x0#4 0x0#4 0x0#4
  | .msrReg c r mask rm =>
    joinNibbles c.bits 0x1#4 (0#1 ++ BitVec.ofBool r ++ 2#2) mask 0xF#4 0x0#4 0x0#4 rm
  | .bx c rm =>
    joinNibbles c.bits 0x1#4 0x2#4 0xF#4 0xF#4 0xF#4 0x1#4 rm
  | .clz c rd rm =>
    joinNibbles c.bits 0x1#4 0x6#4 0xF#4 rd 0xF#4 0x1#4 rm
  | .bxj c rm =>
    joinNibbles c.bits 0x1#4 0x2#4 0xF#4 0xF#4 0xF#4 0x2#4 rm
  | .blx2 c rm =>
    joinNibbles c.bits 0x1#4 0x2#4 0xF#4 0xF#4 0xF#4 0x3#4 rm
  | .qadd c rn rd rm =>
    joinNibbles c.bits 0x1#4 0x0#4 rn rd 0x0#4 0x5#4 rm
  | .qsub c rn rd rm =>
    joinNibbles c.bits 0x1#4 0x2#4 rn rd 0x0#4 0x5#4 rm
  | .qdadd c rn rd rm =>
    joinNibbles c.bits 0x1#4 0x4#4 rn rd 0x0#4 0x5#4 rm
  | .qdsub c rn rd rm =>
    joinNibbles c.bits 0x1#4 0x6#4 rn rd 0x0#4 0x5#4 rm
  | .bkpt imm =>
    joinNibbles 0xE#4 0x1#4 0x2#4 (imm.extractLsb' 12 4) (imm.extractLsb' 8 4) (imm.extractLsb' 4 4) 0x7#4 (imm.extractLsb' 0 4)
  | .smlaxy c rd rn rs y x rm =>
    joinNibbles c.bits 0x1#4 0x0#4 rd rn rs (1#1 ++ BitVec.ofBool y ++ BitVec.ofBool x ++ 0#1) rm
  | .smlawy c rd rn rs y rm =>
    joinNibbles c.bits 0x1#4 0x2#4 rd rn rs (1#1 ++ BitVec.ofBool y ++ 0#2) rm
  | .smulwy c rd rs y rm =>
    joinNibbles c.bits 0x1#4 0x2#4 rd 0x0#4 rs (1#1 ++ BitVec.ofBool y ++ 2#2) rm
  | .smlalxy c rdHi rdLo rs y x rm =>
    joinNibbles c.bits 0x1#4 0x4#4 rdHi rdLo rs (1#1 ++ BitVec.ofBool y ++ BitVec.ofBool x ++ 0#1) rm
  | .smulxy c rd rs y x rm =>
    joinNibbles c.bits 0x1#4 0x6#4 rd 0x0#4 rs (1#1 ++ BitVec.ofBool y ++ BitVec.ofBool x ++ 0#1) rm
  | .andShiftImm c s rn rd op =>
    joinNibbles c.bits 0x0#4 (0#3 ++ BitVec.ofBool s) rn rd (op.amount.extractLsb' 1 4) (op.amount.extractLsb' 0 1 ++ op.ty.bits ++ 0#1) op.rm
  | .eorShiftImm c s rn rd op =>
    joinNibbles c.bits 0x0#4 (1#3 ++ BitVec.ofBool s) rn rd (op.amount.extractLsb' 1 4) (op.amount.extractLsb' 0 1 ++ op.ty.bits ++ 0#1) op.rm
  | .subShiftImm c s rn rd op =>
    joinNibbles c.bits 0x0#4 (2#3 ++ BitVec.ofBool s) rn rd (op.amount.extractLsb' 1 4) (op.amount.extractLsb' 0 1 ++ op.ty.bits ++ 0#1) op.rm
  | .rsbShiftImm c s rn rd op =>
    joinNibbles c.bits 0x0#4 (3#3 ++ BitVec.ofBool s) rn rd (op.amount.extractLsb' 1 4) (op.amount.extractLsb' 0 1 ++ op.ty.bits ++ 0#1) op.rm
  | .addShiftImm c s rn rd op =>
    joinNibbles c.bits 0x0#4 (4#3 ++ BitVec.ofBool s) rn rd (op.amount.extractLsb' 1 4) (op.amount.extractLsb' 0 1 ++ op.ty.bits ++ 0#1) op.rm
  | .adcShiftImm c s rn rd op =>
    joinNibbles c.bits 0x0#4 (5#3 ++ BitVec.ofBool s) rn rd (op.amount.extractLsb' 1 4) (op.amount.extractLsb' 0 1 ++ op.ty.bits ++ 0#1) op.rm
  | .sbcShiftImm c s rn rd op =>
    joinNibbles c.bits 0x0#4 (6#3 ++ BitVec.ofBool s) rn rd (op.amount.extractLsb' 1 4) (op.amount.extractLsb' 0 1 ++ op.ty.bits ++ 0#1) op.rm
  | .rscShiftImm c s rn rd op =>
    joinNibbles c.bits 0x0#4 (7#3 ++ BitVec.ofBool s) rn rd (op.amount.extractLsb' 1 4) (op.amount.extractLsb' 0 1 ++ op.ty.bits ++ 0#1) op.rm
  | .tstShiftImm c rn op =>
    joinNibbles c.bits 0x1#4 0x1#4 rn 0x0#4 (op.amount.extractLsb' 1 4) (op.amount.extractLsb' 0 1 ++ op.ty.bits ++ 0#1) op.rm
  | .teqShiftImm c rn op =>
    joinNibbles c.bits 0x1#4 0x3#4 rn 0x0#4 (op.amount.extractLsb' 1 4) (op.amount.extractLsb' 0 1 ++ op.ty.bits ++ 0#1) op.rm
  | .cmpShiftImm c rn op =>
    joinNibbles c.bits 0x1#4 0x5#4 rn 0x0#4 (op.amount.extractLsb' 1 4) (op.amount.extractLsb' 0 1 ++ op.ty.bits ++ 0#1) op.rm
  | .cmnShiftImm c rn op =>
    joinNibbles c.bits 0x1#4 0x7#4 rn 0x0#4 (op.amount.extractLsb' 1 4) (op.amount.extractLsb' 0 1 ++ op.ty.bits ++ 0#1) op.rm
  | .orrShiftImm c s rn rd op =>
    joinNibbles c.bits 0x1#4 (4#3 ++ BitVec.ofBool s) rn rd (op.amount.extractLsb' 1 4) (op.amount.extractLsb' 0 1 ++ op.ty.bits ++ 0#1) op.rm
  | .movShiftImm c s rd op =>
    joinNibbles c.bits 0x1#4 (5#3 ++ BitVec.ofBool s) 0x0#4 rd (op.amount.extractLsb' 1 4) (op.amount.extractLsb' 0 1 ++ op.ty.bits ++ 0#1) op.rm
  | .bicShiftImm c s rn rd op =>
    joinNibbles c.bits 0x1#4 (6#3 ++ BitVec.ofBool s) rn rd (op.amount.extractLsb' 1 4) (op.amount.extractLsb' 0 1 ++ op.ty.bits ++ 0#1) op.rm
  | .mvnShiftImm c s rd op =>
    joinNibbles c.bits 0x1#4 (7#3 ++ BitVec.ofBool s) 0x0#4 rd (op.amount.extractLsb' 1 4) (op.amount.extractLsb' 0 1 ++ op.ty.bits ++ 0#1) op.rm
  | .andShiftReg c s rn rd op =>
    joinNibbles c.bits 0x0#4 (0#3 ++ BitVec.ofBool s) rn rd op.rs (0#1 ++ op.ty.bits ++ 1#1) op.rm
  | .eorShiftReg c s rn rd op =>
    joinNibbles c.bits 0x0#4 (1#3 ++ BitVec.ofBool s) rn rd op.rs (0#1 ++ op.ty.bits ++ 1#1) op.rm
  | .subShiftReg c s rn rd op =>
    joinNibbles c.bits 0x0#4 (2#3 ++ BitVec.ofBool s) rn rd op.rs (0#1 ++ op.ty.bits ++ 1#1) op.rm
  | .rsbShiftReg c s rn rd op =>
    joinNibbles c.bits 0x0#4 (3#3 ++ BitVec.ofBool s) rn rd op.rs (0#1 ++ op.ty.bits ++ 1#1) op.rm
  | .addShiftReg c s rn rd op =>
    joinNibbles c.bits 0x0#4 (4#3 ++ BitVec.ofBool s) rn rd op.rs (0#1 ++ op.ty.bits ++ 1#1) op.rm
  | .adcShiftReg c s rn rd op =>
    joinNibbles c.bits 0x0#4 (5#3 ++ BitVec.ofBool s) rn rd op.rs (0#1 ++ op.ty.bits ++ 1#1) op.rm
  | .sbcShiftReg c s rn rd op =>
    joinNibbles c.bits 0x0#4 (6#3 ++ BitVec.ofBool s) rn rd op.rs (0#1 ++ op.ty.bits ++ 1#1) op.rm
  | .rscShiftReg c s rn rd op =>
    joinNibbles c.bits 0x0#4 (7#3 ++ BitVec.ofBool s) rn rd op.rs (0#1 ++ op.ty.bits ++ 1#1) op.rm
  | .tstShiftReg c rn op =>
    joinNibbles c.bits 0x1#4 0x1#4 rn 0x0#4 op.rs (0#1 ++ op.ty.bits ++ 1#1) op.rm
  | .teqShiftReg c rn op =>
    joinNibbles c.bits 0x1#4 0x3#4 rn 0x0#4 op.rs (0#1 ++ op.ty.bits ++ 1#1) op.rm
  | .cmpShiftReg c rn op =>
    joinNibbles c.bits 0x1#4 0x5#4 rn 0x0#4 op.rs (0#1 ++ op.ty.bits ++ 1#1) op.rm
  | .cmnShiftReg c rn op =>
    joinNibbles c.bits 0x1#4 0x7#4 rn 0x0#4 op.rs (0#1 ++ op.ty.bits ++ 1#1) op.rm
  | .orrShiftReg c s rn rd op =>
    joinNibbles c.bits 0x1#4 (4#3 ++ BitVec.ofBool s) rn rd op.rs (0#1 ++ op.ty.bits ++ 1#1) op.rm
  | .movShiftReg c s rd op =>
    joinNibbles c.bits 0x1#4 (5#3 ++ BitVec.ofBool s) 0x0#4 rd op.rs (0#1 ++ op.ty.bits ++ 1#1) op.rm
  | .bicShiftReg c s rn rd op =>
    joinNibbles c.bits 0x1#4 (6#3 ++ BitVec.ofBool s) rn rd op.rs (0#1 ++ op.ty.bits ++ 1#1) op.rm
  | .mvnShiftReg c s rd op =>
    joinNibbles c.bits 0x1#4 (7#3 ++ BitVec.ofBool s) 0x0#4 rd op.rs (0#1 ++ op.ty.bits ++ 1#1) op.rm
  | .msrImm c r mask op =>
    joinNibbles c.bits 0x3#4 (0#1 ++ BitVec.ofBool r ++ 2#2) mask 0xF#4 op.rot (op.imm.extractLsb' 4 4) (op.imm.extractLsb' 0 4)
  | .andImm c s rn rd op =>
    joinNibbles c.bits 0x2#4 (0#3 ++ BitVec.ofBool s) rn rd op.rot (op.imm.extractLsb' 4 4) (op.imm.extractLsb' 0 4)
  | .eorImm c s rn rd op =>
    joinNibbles c.bits 0x2#4 (1#3 ++ BitVec.ofBool s) rn rd op.rot (op.imm.extractLsb' 4 4) (op.imm.extractLsb' 0 4)
  | .subImm c s rn rd op =>
    joinNibbles c.bits 0x2#4 (2#3 ++ BitVec.ofBool s) rn rd op.rot (op.imm.extractLsb' 4 4) (op.imm.extractLsb' 0 4)
  | .rsbImm c s rn rd op =>
    joinNibbles c.bits 0x2#4 (3#3 ++ BitVec.ofBool s) rn rd op.rot (op.imm.extractLsb' 4 4) (op.imm.extractLsb' 0 4)
  | .addImm c s rn rd op =>
    joinNibbles c.bits 0x2#4 (4#3 ++ BitVec.ofBool s) rn rd op.rot (op.imm.extractLsb' 4 4) (op.imm.extractLsb' 0 4)
  | .adcImm c s rn rd op =>
    joinNibbles c.bits 0x2#4 (5#3 ++ BitVec.ofBool s) rn rd op.rot (op.imm.extractLsb' 4 4) (op.imm.extractLsb' 0 4)
  | .sbcImm c s rn rd op =>
    joinNibbles c.bits 0x2#4 (6#3 ++ BitVec.ofBool s) rn rd op.rot (op.imm.extractLsb' 4 4) (op.imm.extractLsb' 0 4)
  | .rscImm c s rn rd op =>
    joinNibbles c.bits 0x2#4 (7#3 ++ BitVec.ofBool s) rn rd op.rot (op.imm.extractLsb' 4 4) (op.imm.extractLsb' 0 4)
  | .tstImm c rn op =>
    joinNibbles c.bits 0x3#4 0x1#4 rn 0x0#4 op.rot (op.imm.extractLsb' 4 4) (op.imm.extractLsb' 0 4)
  | .teqImm c rn op =>
    joinNibbles c.bits 0x3#4 0x3#4 rn 0x0#4 op.rot (op.imm.extractLsb' 4 4) (op.imm.extractLsb' 0 4)
  | .cmpImm c rn op =>
    joinNibbles c.bits 0x3#4 0x5#4 rn 0x0#4 op.rot (op.imm.extractLsb' 4 4) (op.imm.extractLsb' 0 4)
  | .cmnImm c rn op =>
    joinNibbles c.bits 0x3#4 0x7#4 rn 0x0#4 op.rot (op.imm.extractLsb' 4 4) (op.imm.extractLsb' 0 4)
  | .orrImm c s rn rd op =>
    joinNibbles c.bits 0x3#4 (4#3 ++ BitVec.ofBool s) rn rd op.rot (op.imm.extractLsb' 4 4) (op.imm.extractLsb' 0 4)
  | .movImm c s rd op =>
    joinNibbles c.bits 0x3#4 (5#3 ++ BitVec.ofBool s) 0x0#4 rd op.rot (op.imm.extractLsb' 4 4) (op.imm.extractLsb' 0 4)
  | .bicImm c s rn rd op =>
    joinNibbles c.bits 0x3#4 (6#3 ++ BitVec.ofBool s) rn rd op.rot (op.imm.extractLsb' 4 4) (op.imm.extractLsb' 0 4)
  | .mvnImm c s rd op =>
    joinNibbles c.bits 0x3#4 (7#3 ++ BitVec.ofBool s) 0x0#4 rd op.rot (op.imm.extractLsb' 4 4) (op.imm.extractLsb' 0 4)
  | .strtImm c u rn rd imm =>
    joinNibbles c.bits 0x4#4 (BitVec.ofBool u ++ 2#3) rn rd (imm.extractLsb' 8 4) (imm.extractLsb' 4 4) (imm.extractLsb' 0 4)
  | .ldrtImm c u rn rd imm =>
    joinNibbles c.bits 0x4#4 (BitVec.ofBool u ++ 3#3) rn rd (imm.extractLsb' 8 4) (imm.extractLsb' 4 4) (imm.extractLsb' 0 4)
  | .strbtImm c u rn rd imm =>
    joinNibbles c.bits 0x4#4 (BitVec.ofBool u ++ 6#3) rn rd (imm.extractLsb' 8 4) (imm.extractLsb' 4 4) (imm.extractLsb' 0 4)
  | .ldrbtImm c u rn rd imm =>
    joinNibbles c.bits 0x4#4 (BitVec.ofBool u ++ 7#3) rn rd (imm.extractLsb' 8 4) (imm.extractLsb' 4 4) (imm.extractLsb' 0 4)
  | .strImm c idx u rn rd imm =>
    joinNibbles c.bits (2#3 ++ BitVec.ofBool idx.p) (BitVec.ofBool u ++ 0#1 ++ BitVec.ofBool idx.w ++ 0#1) rn rd (imm.extractLsb' 8 4) (imm.extractLsb' 4 4) (imm.extractLsb' 0 4)
  | .ldrImm c idx u rn rd imm =>
    joinNibbles c.bits (2#3 ++ BitVec.ofBool idx.p) (BitVec.ofBool u ++ 0#1 ++ BitVec.ofBool idx.w ++ 1#1) rn rd (imm.extractLsb' 8 4) (imm.extractLsb' 4 4) (imm.extractLsb' 0 4)
  | .strbImm c idx u rn rd imm =>
    joinNibbles c.bits (2#3 ++ BitVec.ofBool idx.p) (BitVec.ofBool u ++ 1#1 ++ BitVec.ofBool idx.w ++ 0#1) rn rd (imm.extractLsb' 8 4) (imm.extractLsb' 4 4) (imm.extractLsb' 0 4)
  | .ldrbImm c idx u rn rd imm =>
    joinNibbles c.bits (2#3 ++ BitVec.ofBool idx.p) (BitVec.ofBool u ++ 1#1 ++ BitVec.ofBool idx.w ++ 1#1) rn rd (imm.extractLsb' 8 4) (imm.extractLsb' 4 4) (imm.extractLsb' 0 4)
  | .strtReg c u rn rd op =>
    joinNibbles c.bits 0x6#4 (BitVec.ofBool u ++ 2#3) rn rd (op.amount.extractLsb' 1 4) (op.amount.extractLsb' 0 1 ++ op.ty.bits ++ 0#1) op.rm
  | .ldrtReg c u rn rd op =>
    joinNibbles c.bits 0x6#4 (BitVec.ofBool u ++ 3#3) rn rd (op.amount.extractLsb' 1 4) (op.amount.extractLsb' 0 1 ++ op.ty.bits ++ 0#1) op.rm
  | .strbtReg c u rn rd op =>
    joinNibbles c.bits 0x6#4 (BitVec.ofBool u ++ 6#3) rn rd (op.amount.extractLsb' 1 4) (op.amount.extractLsb' 0 1 ++ op.ty.bits ++ 0#1) op.rm
  | .ldrbtReg c u rn rd op =>
    joinNibbles c.bits 0x6#4 (BitVec.ofBool u ++ 7#3) rn rd (op.amount.extractLsb' 1 4) (op.amount.extractLsb' 0 1 ++ op.ty.bits ++ 0#1) op.rm
  | .strReg c idx u rn rd op =>
    joinNibbles c.bits (3#3 ++ BitVec.ofBool idx.p) (BitVec.ofBool u ++ 0#1 ++ BitVec.ofBool idx.w ++ 0#1) rn rd (op.amount.extractLsb' 1 4) (op.amount.extractLsb' 0 1 ++ op.ty.bits ++ 0#1) op.rm
  | .ldrReg c idx u rn rd op =>
    joinNibbles c.bits (3#3 ++ BitVec.ofBool idx.p) (BitVec.ofBool u ++ 0#1 ++ BitVec.ofBool idx.w ++ 1#1) rn rd (op.amount.extractLsb' 1 4) (op.amount.extractLsb' 0 1 ++ op.ty.bits ++ 0#1) op.rm
  | .strbReg c idx u rn rd op =>
    joinNibbles c.bits (3#3 ++ BitVec.ofBool idx.p) (BitVec.ofBool u ++ 1#1 ++ BitVec.ofBool idx.w ++ 0#1) rn rd (op.amount.extractLsb' 1 4) (op.amount.extractLsb' 0 1 ++ op.ty.bits ++ 0#1) op.rm
  | .ldrbReg c idx u rn rd op =>
    joinNibbles c.bits (3#3 ++ BitVec.ofBool idx.p) (BitVec.ofBool u ++ 1#1 ++ BitVec.ofBool idx.w ++ 1#1) rn rd (op.amount.extractLsb' 1 4) (op.amount.extractLsb' 0 1 ++ op.ty.bits ++ 0#1) op.rm
  | .sadd16 c rn rd rm =>
    joinNibbles c.bits 0x6#4 0x1#4 rn rd 0xF#4 0x1#4 rm
  | .saddsubx c rn rd rm =>
    joinNibbles c.bits 0x6#4 0x1#4 rn rd 0xF#4 0x3#4 rm
  | .ssubaddx c rn rd rm =>
    joinNibbles c.bits 0x6#4 0x1#4 rn rd 0xF#4 0x5#4 rm
  | .ssub16 c rn rd rm =>
    joinNibbles c.bits 0x6#4 0x1#4 rn rd 0xF#4 0x7#4 rm
  | .sadd8 c rn rd rm =>
    joinNibbles c.bits 0x6#4 0x1#4 rn rd 0xF#4 0x9#4 rm
  | .ssub8 c rn rd rm =>
    joinNibbles c.bits 0x6#4 0x1#4 rn rd 0xF#4 0xF#4 rm
  | .qadd16 c rn rd rm =>
    joinNibbles c.bits 0x6#4 0x2#4 rn rd 0xF#4 0x1#4 rm
  | .qaddsubx c rn rd rm =>
    joinNibbles c.bits 0x6#4 0x2#4 rn rd 0xF#4 0x3#4 rm
  | .qsubaddx c rn rd rm =>
    joinNibbles c.bits 0x6#4 0x2#4 rn rd 0xF#4 0x5#4 rm
  | .qsub16 c rn rd rm =>
    joinNibbles c.bits 0x6#4 0x2#4 rn rd 0xF#4 0x7#4 rm
  | .qadd8 c rn rd rm =>
    joinNibbles c.bits 0x6#4 0x2#4 rn rd 0xF#4 0x9#4 rm
  | .qsub8 c rn rd rm =>
    joinNibbles c.bits 0x6#4 0x2#4 rn rd 0xF#4 0xF#4 rm
  | .shadd16 c rn rd rm =>
    joinNibbles c.bits 0x6#4 0x3#4 rn rd 0xF#4 0x1#4 rm
  | .shaddsubx c rn rd rm =>
    joinNibbles c.bits 0x6#4 0x3#4 rn rd 0xF#4 0x3#4 rm
  | .shsubaddx c rn rd rm =>
    joinNibbles c.bits 0x6#4 0x3#4 rn rd 0xF#4 0x5#4 rm
  | .shsub16 c rn rd rm =>
    joinNibbles c.bits 0x6#4 0x3#4 rn rd 0xF#4 0x7#4 rm
  | .shadd8 c rn rd rm =>
    joinNibbles c.bits 0x6#4 0x3#4 rn rd 0xF#4 0x9#4 rm
  | .shsub8 c rn rd rm =>
    joinNibbles c.bits 0x6#4 0x3#4 rn rd 0xF#4 0xF#4 rm
  | .uadd16 c rn rd rm =>
    joinNibbles c.bits 0x6#4 0x5#4 rn rd 0xF#4 0x1#4 rm
  | .uaddsubx c rn rd rm =>
    joinNibbles c.bits 0x6#4 0x5#4 rn rd 0xF#4 0x3#4 rm
  | .usubaddx c rn rd rm =>
    joinNibbles c.bits 0x6#4 0x5#4 rn rd 0xF#4 0x5#4 rm
  | .usub16 c rn rd rm =>
    joinNibbles c.bits 0x6#4 0x5#4 rn rd 0xF#4 0x7#4 rm
  | .uadd8 c rn rd rm =>
    joinNibbles c.bits 0x6#4 0x5#4 rn rd 0xF#4 0x9#4 rm
  | .usub8 c rn rd rm =>
    joinNibbles c.bits 0x6#4 0x5#4 rn rd 0xF#4 0xF#4 rm
  | .uqadd16 c rn rd rm =>
    joinNibbles c.bits 0x6#4 0x6#4 rn rd 0xF#4 0x1#4 rm
  | .uqaddsubx c rn rd rm =>
    joinNibbles c.bits 0x6#4 0x6#4 rn rd 0xF#4 0x3#4 rm
  | .uqsubaddx c rn rd rm =>
    joinNibbles c.bits 0x6#4 0x6#4 rn rd 0xF#4 0x5#4 rm
  | .uqsub16 c rn rd rm =>
    joinNibbles c.bits 0x6#4 0x6#4 rn rd 0xF#4 0x7#4 rm
  | .uqadd8 c rn rd rm =>
    joinNibbles c.bits 0x6#4 0x6#4 rn rd 0xF#4 0x9#4 rm
  | .uqsub8 c rn rd rm =>
    joinNibbles c.bits 0x6#4 0x6#4 rn rd 0xF#4 0xF#4 rm
  | .uhadd16 c rn rd rm =>
    joinNibbles c.bits 0x6#4 0x7#4 rn rd 0xF#4 0x1#4 rm
  | .uhaddsubx c rn rd rm =>
    joinNibbles c.bits 0x6#4 0x7#4 rn rd 0xF#4 0x3#4 rm
  | .uhsubaddx c rn rd rm =>
    joinNibbles c.bits 0x6#4 0x7#4 rn rd 0xF#4 0x5#4 rm
  | .uhsub16 c rn rd rm =>
    joinNibbles c.bits 0x6#4 0x7#4 rn rd 0xF#4 0x7#4 rm
  | .uhadd8 c rn rd rm =>
    joinNibbles c.bits 0x6#4 0x7#4 rn rd 0xF#4 0x9#4 rm
  | .uhsub8 c rn rd rm =>
    joinNibbles c.bits 0x6#4 0x7#4 rn rd 0xF#4 0xF#4 rm
  | .pkhbt c rn rd imm rm =>
    joinNibbles c.bits 0x6#4 0x8#4 rn rd (imm.extractLsb' 1 4) (imm.extractLsb' 0 1 ++ 1#3) rm
  | .pkhtb c rn rd imm rm =>
    joinNibbles c.bits 0x6#4 0x8#4 rn rd (imm.extractLsb' 1 4) (imm.extractLsb' 0 1 ++ 5#3) rm
  | .ssat c sat rd imm sh rm =>
    joinNibbles c.bits 0x6#4 (5#3 ++ sat.extractLsb' 4 1) (sat.extractLsb' 0 4) rd (imm.extractLsb' 1 4) (imm.extractLsb' 0 1 ++ BitVec.ofBool sh ++ 1#2) rm
  | .usat c sat rd imm sh rm =>
    joinNibbles c.bits 0x6#4 (7#3 ++ sat.extractLsb' 4 1) (sat.extractLsb' 0 4) rd (imm.extractLsb' 1 4) (imm.extractLsb' 0 1 ++ BitVec.ofBool sh ++ 1#2) rm
  | .ssat16 c sat rd rm =>
    joinNibbles c.bits 0x6#4 0xA#4 sat rd 0xF#4 0x3#4 rm
  | .usat16 c sat rd rm =>
    joinNibbles c.bits 0x6#4 0xE#4 sat rd 0xF#4 0x3#4 rm
  | .rev c rd rm =>
    joinNibbles c.bits 0x6#4 0xB#4 0xF#4 rd 0xF#4 0x3#4 rm
  | .rev16 c rd rm =>
    joinNibbles c.bits 0x6#4 0xB#4 0xF#4 rd 0xF#4 0xB#4 rm
  | .revsh c rd rm =>
    joinNibbles c.bits 0x6#4 0xF#4 0xF#4 rd 0xF#4 0xB#4 rm
  | .sel c rn rd rm =>
    joinNibbles c.bits 0x6#4 0x8#4 rn rd 0xF#4 0xB#4 rm
  | .sxtb16 c rd rot rm =>
    joinNibbles c.bits 0x6#4 0x8#4 0xF#4 rd (rot ++ 0#2) 0x7#4 rm
  | .sxtab16 c rn rd rot rm =>
    joinNibbles c.bits 0x6#4 0x8#4 rn rd (rot ++ 0#2) 0x7#4 rm
  | .sxtb c rd rot rm =>
    joinNibbles c.bits 0x6#4 0xA#4 0xF#4 rd (rot ++ 0#2) 0x7#4 rm
  | .sxtab c rn rd rot rm =>
    joinNibbles c.bits 0x6#4 0xA#4 rn rd (rot ++ 0#2) 0x7#4 rm
  | .sxth c rd rot rm =>
    joinNibbles c.bits 0x6#4 0xB#4 0xF#4 rd (rot ++ 0#2) 0x7#4 rm
  | .sxtah c rn rd rot rm =>
    joinNibbles c.bits 0x6#4 0xB#4 rn rd (rot ++ 0#2) 0x7#4 rm
  | .uxtb16 c rd rot rm =>
    joinNibbles c.bits 0x6#4 0xC#4 0xF#4 rd (rot ++ 0#2) 0x7#4 rm
  | .uxtab16 c rn rd rot rm =>
    joinNibbles c.bits 0x6#4 0xC#4 rn rd (rot ++ 0#2) 0x7#4 rm
  | .uxtb c rd rot rm =>
    joinNibbles c.bits 0x6#4 0xE#4 0xF#4 rd (rot ++ 0#2) 0x7#4 rm
  | .uxtab c rn rd rot rm =>
    joinNibbles c.bits 0x6#4 0xE#4 rn rd (rot ++ 0#2) 0x7#4 rm
  | .uxth c rd rot rm =>
    joinNibbles c.bits 0x6#4 0xF#4 0xF#4 rd (rot ++ 0#2) 0x7#4 rm
  | .uxtah c rn rd rot rm =>
    joinNibbles c.bits 0x6#4 0xF#4 rn rd (rot ++ 0#2) 0x7#4 rm
  | .smuad c rd rs x rm =>
    joinNibbles c.bits 0x7#4 0x0#4 rd 0xF#4 rs (0#2 ++ BitVec.ofBool x ++ 1#1) rm
  | .smlad c rd rn rs x rm =>
    joinNibbles c.bits 0x7#4 0x0#4 rd rn rs (0#2 ++ BitVec.ofBool x ++ 1#1) rm
  | .smusd c rd rs x rm =>
    joinNibbles c.bits 0x7#4 0x0#4 rd 0xF#4 rs (1#2 ++ BitVec.ofBool x ++ 1#1) rm
  | .smlsd c rd rn rs x rm =>
    joinNibbles c.bits 0x7#4 0x0#4 rd rn rs (1#2 ++ BitVec.ofBool x ++ 1#1) rm
  | .smlald c rdHi rdLo rs x rm =>
    joinNibbles c.bits 0x7#4 0x4#4 rdHi rdLo rs (0#2 ++ BitVec.ofBool x ++ 1#1) rm
  | .smlsld c rdHi rdLo rs x rm =>
    joinNibbles c.bits 0x7#4 0x4#4 rdHi rdLo rs (1#2 ++ BitVec.ofBool x ++ 1#1) rm
  | .smmul c rd rs r rm =>
    joinNibbles c.bits 0x7#4 0x5#4 rd 0xF#4 rs (0#2 ++ BitVec.ofBool r ++ 1#1) rm
  | .smmla c rd rn rs r rm =>
    joinNibbles c.bits 0x7#4 0x5#4 rd rn rs (0#2 ++ BitVec.ofBool r ++ 1#1) rm
  | .smmls c rd rn rs r rm =>
    joinNibbles c.bits 0x7#4 0x5#4 rd rn rs (3#2 ++ BitVec.ofBool r ++ 1#1) rm
  | .usad8 c rd rs rm =>
    joinNibbles c.bits 0x7#4 0x8#4 rd 0xF#4 rs 0x1#4 rm
  | .usada8 c rd rn rs rm =>
    joinNibbles c.bits 0x7#4 0x8#4 rd rn rs 0x1#4 rm
  | .ldm1 c am wb rn list =>
    joinNibbles c.bits (4#3 ++ BitVec.ofBool am.p) (BitVec.ofBool am.u ++ 0#1 ++ BitVec.ofBool wb ++ 1#1) rn (list.extractLsb' 12 4) (list.extractLsb' 8 4) (list.extractLsb' 4 4) (list.extractLsb' 0 4)
  | .ldm3 c am wb rn list =>
    joinNibbles c.bits (4#3 ++ BitVec.ofBool am.p) (BitVec.ofBool am.u ++ 1#1 ++ BitVec.ofBool wb ++ 1#1) rn (1#1 ++ list.extractLsb' 12 3) (list.extractLsb' 8 4) (list.extractLsb' 4 4) (list.extractLsb' 0 4)
  | .ldm2 c am wb rn list =>
    joinNibbles c.bits (4#3 ++ BitVec.ofBool am.p) (BitVec.ofBool am.u ++ 1#1 ++ BitVec.ofBool wb ++ 1#1) rn (0#1 ++ list.extractLsb' 12 3) (list.extractLsb' 8 4) (list.extractLsb' 4 4) (list.extractLsb' 0 4)
  | .stm1 c am wb rn list =>
    joinNibbles c.bits (4#3 ++ BitVec.ofBool am.p) (BitVec.ofBool am.u ++ 0#1 ++ BitVec.ofBool wb ++ 0#1) rn (list.extractLsb' 12 4) (list.extractLsb' 8 4) (list.extractLsb' 4 4) (list.extractLsb' 0 4)
  | .stm2 c am wb rn list =>
    joinNibbles c.bits (4#3 ++ BitVec.ofBool am.p) (BitVec.ofBool am.u ++ 1#1 ++ BitVec.ofBool wb ++ 0#1) rn (list.extractLsb' 12 4) (list.extractLsb' 8 4) (list.extractLsb' 4 4) (list.extractLsb' 0 4)
  | .b c imm =>
    joinNibbles c.bits 0xA#4 (imm.extractLsb' 20 4) (imm.extractLsb' 16 4) (imm.extractLsb' 12 4) (imm.extractLsb' 8 4) (imm.extractLsb' 4 4) (imm.extractLsb' 0 4)
  | .bl c imm =>
    joinNibbles c.bits 0xB#4 (imm.extractLsb' 20 4) (imm.extractLsb' 16 4) (imm.extractLsb' 12 4) (imm.extractLsb' 8 4) (imm.extractLsb' 4 4) (imm.extractLsb' 0 4)
  | .mcrr c rn rd cp op crm =>
    joinNibbles c.bits 0xC#4 0x4#4 rn rd cp op crm
  | .mrrc c rn rd cp op crm =>
    joinNibbles c.bits 0xC#4 0x5#4 rn rd cp op crm
  | .stc c p u n wb rn crd cp off =>
    joinNibbles c.bits (6#3 ++ BitVec.ofBool p) (BitVec.ofBool u ++ BitVec.ofBool n ++ BitVec.ofBool wb ++ 0#1) rn crd cp (off.extractLsb' 4 4) (off.extractLsb' 0 4)
  | .ldc c p u n wb rn crd cp off =>
    joinNibbles c.bits (6#3 ++ BitVec.ofBool p) (BitVec.ofBool u ++ BitVec.ofBool n ++ BitVec.ofBool wb ++ 1#1) rn crd cp (off.extractLsb' 4 4) (off.extractLsb' 0 4)
  | .cdp c op1 crn crd cp op2 crm =>
    joinNibbles c.bits 0xE#4 op1 crn crd cp (op2 ++ 0#1) crm
  | .mcr c op1 crn rd cp op2 crm =>
    joinNibbles c.bits 0xE#4 (op1 ++ 0#1) crn rd cp (op2 ++ 1#1) crm
  | .mrc c op1 crn rd cp op2 crm =>
    joinNibbles c.bits 0xE#4 (op1 ++ 1#1) crn rd cp (op2 ++ 1#1) crm
  | .swi c imm =>
    joinNibbles c.bits 0xF#4 (imm.extractLsb' 20 4) (imm.extractLsb' 16 4) (imm.extractLsb' 12 4) (imm.extractLsb' 8 4) (imm.extractLsb' 4 4) (imm.extractLsb' 0 4)
  | .undefinedWord w => w
  | .unpredictableWord w => w

end Sys2Proof
end

