-- ==== Sys2Proof/Machine/Mmu.lean ====
section
/-!
DEFINITION. The MMU: TLB lookup, translation table walk, access checks (21_translation.md), and the access
procedures over virtual addresses (R140, R141).
-/

namespace Sys2Proof.Machine

open Sys2Proof

/-- What an access is for (R180). -/
inductive AccessKind where
  | read | write | fetch
  deriving DecidableEq, Repr

/-! ### The TLB -/

/-- The base-2 logarithm of a block size (R181). -/
def blockLog : BlockSize → Nat
  | .smallPage => 12 | .largePage => 16 | .section1MB => 20 | .supersection16MB => 24

/-- Whether an entry's block contains an address (R181, R359). -/
def entryCovers (e : TlbEntry) (mva : Word) : Bool :=
  e.mva >>> blockLog e.size == mva >>> blockLog e.size

/-- R181: the block contains the address, and the entry is global or of the current application space. -/
def entryMatches (e : TlbEntry) (mva : Word) (asid : BitVec 8) : Bool :=
  entryCovers e mva && (e.global || e.asid == asid)

/-- `TLBFor` (R183): whether an access uses the instruction TLB. -/
def usesInstructionTlb (c : Params) (k : AccessKind) : Bool := k == .fetch && !c.tlbUnified

/-- The TLB of R183. -/
def State.tlb (s : State) (instruction : Bool) : Tlb := if instruction then s.tlbI else s.tlbD

/-- Replace the TLB of R183. -/
def State.setTlb (s : State) (instruction : Bool) (t : Tlb) : State :=
  if instruction then { s with tlbI := t } else { s with tlbD := t }

/-- The base of the lockdown register as R245 and R246 use it: zero where the base field is fixed (R248) and where the
TLB has no lockable entries (R244). -/
def Tlb.lockBase (t : Tlb) (c : Params) (instruction : Bool) : Nat :=
  if c.lockBaseFixedZero || lockable c instruction == 0 then 0 else t.base

/-- P as R245 and R247 use it: clear where the TLB has no lockable entries (R244). -/
def Tlb.locks (t : Tlb) (c : Params) (instruction : Bool) : Bool := t.p && lockable c instruction != 0

/-- All the entries a TLB holds. -/
def Tlb.entries (t : Tlb) : List TlbEntry := t.slots.filterMap id ++ t.lockSlots.filterMap id

/-- R182 item 2, R246: an entry may be forgotten when it is not locked and its slot is not below `base`. -/
def Tlb.forget (t : Tlb) (base : Nat) (drop : List Nat) : Tlb :=
  { t with
    slots := t.slots.mapIdx fun i x =>
      match x with
      | some e => if drop.contains i && !e.locked && base ≤ i then none else some e
      | none => none }

/-- The next action of the replacement mechanism (entry 13); none listed means that it forgets nothing and takes the
next slot in turn. -/
def State.popReplacement (s : State) : Replacement × State :=
  match s.replacements with
  | [] => (⟨[], none⟩, s)
  | r :: rs => (r, { s with replacements := rs })

/-- The next victim (R246): the slot after the victim, wrapping to the base; when the victim is not below the base, a
choice of the replacement mechanism in `base` to `entries - 1` is taken instead. -/
def nextVictim (base victim entries : Nat) (choice : Option Nat) : Nat :=
  let turn := if entries ≤ victim + 1 then base else victim + 1
  match choice with
  | none => turn
  | some v => if base ≤ victim && base ≤ v && v < entries then v else turn

/-- `Insert` (R185, R246, R248): the walk result goes to the victim slot, locked if P is set, and the victim moves on.
In the form whose base is fixed at zero the victim counts the dedicated lockable slots while P is set (entry 19). -/
def Tlb.insert (t : Tlb) (c : Params) (instruction : Bool) (e : TlbEntry) (choice : Option Nat) : Tlb :=
  let p := t.locks c instruction
  let e := { e with locked := p }
  if c.lockBaseFixedZero && p then
    { t with
      lockSlots := t.lockSlots.set t.victim (some e)
      victim := nextVictim 0 t.victim (dedicatedSlots c t.lockSlots.length) choice }
  else
    { t with
      slots := t.slots.set t.victim (some e)
      victim := nextVictim (t.lockBase c instruction) t.victim c.tlbEntries choice }

/-- Keep the entries for which `keep` holds (R182 item 3). -/
def Tlb.filter (t : Tlb) (keep : TlbEntry → Bool) : Tlb :=
  let f := fun x : Option TlbEntry => x.filter keep
  { t with slots := t.slots.map f, lockSlots := t.lockSlots.map f }

/-! ### The external memory system -/

/-- How the memory system answers one access to memory (R742, R842): it serves it when nothing more is listed
(entry 9). -/
def State.popResponse (s : State) : MemoryResponse × State :=
  match s.responses with
  | [] => (.served, s)
  | r :: rs => (r, { s with responses := rs })

/-! ### The walk -/

/-- An abort of a walk or of a check, to be completed with the address and the kind of the access (R180). -/
def walkAbort (fs : BitVec 5) (domain : Option (BitVec 4)) (mva : Word) (k : AccessKind) : AbortInfo :=
  ⟨fs, domain, mva, k == .write, true⟩

/-- `PhysRead` (R142): a descriptor fetch. Outside memory it is an external abort on translation or a fault (R124);
an error that the memory system signals is an external abort on translation, where the implementation has them (R742). -/
def walkRead (s : State) (pa : Nat) (big : Bool) (i : AbortInfo) : Res Word :=
  if backed s.cfg pa 4 then
    let (answer, s) := s.popResponse
    if answer == .error && s.cfg.extWalk then .abort i s
    else .ok (assemble big (s.mem.readBytes pa 4)) s
  else if s.cfg.extWalk then .abort i s
  else .fault (.noMemory pa)

/-- The entry fields that every descriptor format fills alike (R198). -/
def entryBase (ctl contextId : Word) : TlbEntry where
  mva := 0
  size := .section1MB
  pa := 0
  global := false
  asid := contextId.setWidth 8
  domain := 0
  apx := false
  ap := 0
  sBit := ctlS ctl
  rBit := ctlR ctl
  xn := false
  tex := 0
  c := false
  b := false
  shared := false
  level := .firstLevel
  locked := false

/-- The entry of a section descriptor (R198). -/
def sectionEntry (base : TlbEntry) (d mva : Word) : TlbEntry :=
  { base with
    mva := mva &&& 0xFFF00000#32
    size := .section1MB
    pa := (d &&& 0xFFF00000#32).setWidth 40
    global := !d.getLsbD 17
    domain := d.extractLsb' 5 4
    apx := d.getLsbD 15
    ap := d.extractLsb' 10 2
    xn := d.getLsbD 4
    tex := d.extractLsb' 12 3
    c := d.getLsbD 3
    b := d.getLsbD 2
    shared := d.getLsbD 16
    level := .firstLevel }

/-- The entry of a supersection descriptor (R203): domain 0, and eight more physical address bits. -/
def supersectionEntry (base : TlbEntry) (d mva : Word) : TlbEntry :=
  { sectionEntry base d mva with
    mva := mva &&& 0xFF000000#32
    size := .supersection16MB
    pa := d.extractLsb' 5 4 ++ d.extractLsb' 20 4 ++ d.extractLsb' 24 8 ++ 0#24
    domain := 0 }

/-- The entry of a large page descriptor `d2` under the coarse table descriptor `d1` (R209). -/
def largePageEntry (base : TlbEntry) (d1 d2 mva : Word) : TlbEntry :=
  { base with
    mva := mva &&& 0xFFFF0000#32
    size := .largePage
    pa := (d2 &&& 0xFFFF0000#32).setWidth 40
    global := !d2.getLsbD 11
    domain := d1.extractLsb' 5 4
    apx := d2.getLsbD 9
    ap := d2.extractLsb' 4 2
    xn := d2.getLsbD 15
    tex := d2.extractLsb' 12 3
    c := d2.getLsbD 3
    b := d2.getLsbD 2
    shared := d2.getLsbD 10
    level := .secondLevel }

/-- The entry of an extended small page descriptor (R210). -/
def smallPageEntry (base : TlbEntry) (d1 d2 mva : Word) : TlbEntry :=
  { base with
    mva := mva &&& 0xFFFFF000#32
    size := .smallPage
    pa := (d2 &&& 0xFFFFF000#32).setWidth 40
    global := !d2.getLsbD 11
    domain := d1.extractLsb' 5 4
    apx := d2.getLsbD 9
    ap := d2.extractLsb' 4 2
    xn := d2.getLsbD 0
    tex := d2.extractLsb' 6 3
    c := d2.getLsbD 3
    b := d2.getLsbD 2
    shared := d2.getLsbD 10
    level := .secondLevel }

/-- Bits [hi-1:lo] set (R337). -/
def bitRange (hi lo : Nat) : Word := BitVec.ofNat 32 (2 ^ hi - 2 ^ lo)

/-- N of a value of the TTBCR (R65). -/
def tableN (ttbcr : Word) : Nat := (ttbcr.extractLsb' 0 3).toNat

/-- `SelectTTBR` (R190): whether TTBR0 is used for an address, with N = TTBCR[2:0]. -/
def usesTtbr0 (n : Nat) (mva : Word) : Bool := n == 0 || mva >>> (32 - n) == 0

/-- The physical address of the first-level descriptor (R191); `x` is N for TTBR0 and 0 for TTBR1. The bits of the
register below the base are no part of it (R192). -/
def firstLevelAddress (ttbr : Word) (x : Nat) (mva : Word) : Word :=
  ((ttbr >>> (14 - x)) <<< (14 - x)) ||| ((mva >>> 20) <<< 2)

/-- Whether a walk refuses a table base register: a reserved RGN or IMP set (R66, R255). -/
def ttbrReserved (ttbr : Word) : Bool := ttbr.extractLsb' 3 2 == 1#2 || ttbr.getLsbD 2

/-- The corner case of R337: a value that MCR wrote to TTBR0 has bits set below the base that N gives, and that N comes
from a write of the TTBCR after the write of TTBR0. Bits set below the base in any other way are ignored (R192). -/
def State.ttbr0Insignificant (s : State) (ttbr0 : Word) (n : Nat) : Bool :=
  ttbr0 &&& bitRange (14 - n) 5 != 0 && s.ttbr0Writes.any fun w => w.value == ttbr0 && w.laterN.contains n

/-- The second-level part of a walk, from the coarse table descriptor `d1` (R206 to R210, R255). -/
def walkSecond (s : State) (ctl contextId d1 mva : Word) (k : AccessKind) : Res TlbEntry :=
  let domain := d1.extractLsb' 5 4
  let address := (d1 &&& 0xFFFFFC00#32) ||| ((mva.extractLsb' 12 8).setWidth 32 <<< 2)
  (walkRead s address.toNat (ctlEE ctl) (walkAbort 0b01110#5 (some domain) mva k)).bind fun d2 s =>
    if d2.getLsbD 1 then .ok (smallPageEntry (entryBase ctl contextId) d1 d2 mva) s
    else if d2.getLsbD 0 then
      if d2.extractLsb' 6 3 != 0 then .refused .descriptorReserved
      else .ok (largePageEntry (entryBase ctl contextId) d1 d2 mva) s
    else .abort (walkAbort 0b00111#5 (some domain) mva k) s

/-- The first-level part of a walk, from the first-level descriptor `d` (R193 to R205, R255). -/
def walkFirst (s : State) (ctl contextId d mva : Word) (k : AccessKind) : Res TlbEntry :=
  match d.getLsbD 1, d.getLsbD 0 with
  | true, false =>
    if d.getLsbD 9 || d.getLsbD 19 then .refused .descriptorReserved
    else if !d.getLsbD 18 then .ok (sectionEntry (entryBase ctl contextId) d mva) s
    else if !s.cfg.supersections then .refused .supersectionUnsupported
    else if (d.extractLsb' 5 4 ++ d.extractLsb' 20 4).toNat < 2 ^ s.cfg.paExtraBits then
      .ok (supersectionEntry (entryBase ctl contextId) d mva) s
    else .refused .supersectionUnsupported
  | false, true =>
    if d.getLsbD 9 || d.extractLsb' 2 3 != 0 then .refused .descriptorReserved
    else walkSecond s ctl contextId d mva k
  | _, _ => .abort (walkAbort 0b00101#5 none mva k) s

/-- `Walk` (R255), with the corner case of R337. Each CP15 register it uses is a use in the sense of R812. -/
def walk (s : State) (mva : Word) (k : AccessKind) : Res TlbEntry :=
  let (ctl, s) := s.useSynced s.sctlr
  let (ttbcr, s) := s.useSynced s.ttbcr
  let n := tableN ttbcr
  let low := usesTtbr0 n mva
  let (ttbr, s) := s.useSynced (if low then s.ttbr0 else s.ttbr1)
  let x := if low then n else 0
  if ttbrReserved ttbr then .refused .tableBaseReserved
  else if low && s.ttbr0Insignificant ttbr n then .refused .tableBaseInsignificant
  else
    (walkRead s (firstLevelAddress ttbr x mva).toNat (ctlEE ctl) (walkAbort 0b01100#5 none mva k)).bind
      fun d s =>
        let (contextId, s) := s.useSynced s.contextId
        walkFirst s ctl contextId d mva k

/-! ### Access checks -/

/-- `Permitted` (R215); `none` is a RESERVED combination. -/
def permitted (e : TlbEntry) (user : Bool) (k : AccessKind) : Option Bool :=
  let read := k != .write
  if !e.apx then
    match e.ap.toNat with
    | 1 => some !user
    | 2 => some (!user || read)
    | 3 => some true
    | _ =>
      match e.sBit, e.rBit with
      | false, false => some false
      | false, true => some read
      | true, false => some (!user && read)
      | true, true => none
  else if e.sBit || e.rBit then none
  else
    match e.ap.toNat with
    | 1 => some (!user && read)
    | 2 => some read
    | _ => none

/-- The two-bit field of a domain (R67, R212). -/
def domainAccess (dacr : Word) (domain : BitVec 4) : BitVec 2 := dacr.extractLsb' (2 * domain.toNat) 2

/-- `CheckAccess` (R229): the DACR is read now (R213); execute-never is part of the permission check of a fetch
(R216); a manager domain checks nothing (R217). -/
def checkAccess (s : State) (e : TlbEntry) (k : AccessKind) (user : Bool) (mva : Word) : Res Unit :=
  let (dacr, s) := s.useSynced s.dacr
  let onFirst := e.level == .firstLevel
  match (domainAccess dacr e.domain).toNat with
  | 0 => .abort (walkAbort (if onFirst then 0b01001#5 else 0b01011#5) (some e.domain) mva k) s
  | 2 => .refused .reservedDomainAccess
  | 3 => .ok () s
  | _ =>
    match permitted e user k with
    | none => .refused .reservedPermission
    | some p =>
      if !p || (k == .fetch && e.xn) then
        .abort (walkAbort (if onFirst then 0b01101#5 else 0b01111#5) (some e.domain) mva k) s
      else .ok () s

/-- The RESERVED and IMPLEMENTATION DEFINED rows of the attribute table (R150, R154). -/
def attributesReserved (e : TlbEntry) : Bool :=
  match e.tex.toNat, e.c, e.b with
  | 1, false, true => true
  | 1, true, false => true
  | 2, false, true => true
  | 2, true, _ => true
  | 3, _, _ => true
  | _, _, _ => false

/-- The physical address an entry gives (R180). -/
def entryAddress (e : TlbEntry) (mva : Word) : BitVec 40 :=
  let n := blockLog e.size
  ((e.pa >>> n) <<< n) ||| ((mva.setWidth 40 <<< (40 - n)) >>> (40 - n))

/-- The TLB entry an access uses (R180): the one that matches, or on a miss the result of a walk, which is inserted. -/
def lookup (s : State) (mva : Word) (k : AccessKind) : Res TlbEntry :=
  let (contextId, s) := s.useSynced s.contextId
  let (rep, s) := s.popReplacement
  let side := usesInstructionTlb s.cfg k
  let t := (s.tlb side).forget ((s.tlb side).lockBase s.cfg side) rep.forget
  let s := s.setTlb side t
  match t.entries.filter fun e => entryMatches e mva (contextId.setWidth 8) with
  | [e] => .ok e s
  | [] =>
    (walk s mva k).bind fun e s => .ok e (s.setTlb side ((s.tlb side).insert s.cfg side e rep.next))
  | _ :: _ :: _ => .refused .multipleTlbMatch

/-- `Translate` (R180); `ctl` is the control register value of this access. -/
def translate (s : State) (ctl mva : Word) (k : AccessKind) (user : Bool) : Res (BitVec 40) :=
  if !ctlXP ctl then .refused .subpagesEnabled
  else
    (lookup s mva k).bind fun e s =>
      (checkAccess s e k user mva).bind fun _ s =>
        if attributesReserved e then .refused .reservedAttributes else .ok (entryAddress e mva) s

/-! ### Data accesses -/

/-- Natural alignment (R132). -/
def aligned (size : AccessSize) (va : Word) : Bool :=
  match size with
  | .byte => true
  | .half => !va.getLsbD 0
  | .word => va.extractLsb' 0 2 == 0

/-- The physical address of a data access (R140): the range check, the alignment policy of R133, then translation
or, with the MMU off, the flat map (R146). -/
def dataAddress (s : State) (va : Word) (size : AccessSize) (k : AccessKind) (user : Bool) : Res (BitVec 40) :=
  if 2 ^ 32 < va.toNat + size.bytes then .fault .addressWrap
  else
    let (ctl, s) := s.useSynced s.sctlr
    if !aligned size va then
      if ctlM ctl && ctlA ctl then .abort (walkAbort 0b00001#5 none va k) s else .refused .misaligned
    else if ctlM ctl then translate s ctl va k user
    else .ok (va.setWidth 40) s

/-- The alignment policy for the pair of words of a doubleword transfer (R133). -/
def checkPair (s : State) (va : Word) (k : AccessKind) : Res Unit :=
  if 2 ^ 32 < va.toNat + 8 then .fault .addressWrap
  else if va.extractLsb' 0 3 == 0 then .ok () s
  else
    let (ctl, s) := s.useSynced s.sctlr
    if ctlM ctl && ctlA ctl && va.extractLsb' 0 2 != 0 then .abort (walkAbort 0b00001#5 none va k) s
    else .refused .misaligned

/-- An external error of a data access (R742): a precise abort, or an imprecise one left pending while the access goes
on as `goOn` says, or, where the implementation has neither, what `unsupported` says. -/
def externalError {α : Type} (s : State) (va : Word) (write : Bool) (goOn : State → Res α) (unsupported : Res α) :
    Res α :=
  match s.cfg.extData with
  | .none => unsupported
  | .precise => .abort ⟨0b01000#5, none, va, write, true⟩ s
  | .imprecise =>
    goOn (s.pend false)

/-- The memory read of a data access at a physical address (R140): a value in CPSR.E order (R127), and a free value
where it leaves an imprecise abort pending (DESIGN CHOICE, entry 9). Outside memory it is an external error or a fault
(R124). An external error ranks above a parity error (R735), which is precise, or imprecise where the memory system
reports it late and the implementation provides imprecise aborts (R82, R737, R742, entry 10). -/
def readAt (s : State) (pa : Nat) (va : Word) (size : AccessSize) : Res Word :=
  let free := fun s : State => .ok s.draw.1 s.draw.2
  if !backed s.cfg pa size.bytes then externalError s va false free (.fault (.noMemory pa))
  else
    let (answer, s) := s.popResponse
    let served := .ok (assemble s.cpsr.e (s.mem.readBytes pa size.bytes)) s
    if answer == .error && s.cfg.extData != .none then externalError s va false free served
    else if answer == .lateParity && s.cfg.parity && impreciseAborts s.cfg then free (s.pend true)
    else if ((answer == .parity || answer == .lateParity) && s.cfg.parity) || parityError s.cfg pa size.bytes then
      .abort ⟨0b11000#5, none, va, false, false⟩ s
    else served

/-- Store a value at a physical address, in CPSR.E order (R127). -/
def State.store (s : State) (pa : Nat) (size : AccessSize) (v : Word) : State :=
  { s with mem := s.mem.writeBytes pa (split s.cpsr.e size v) }

/-- A free value at a physical address. -/
def State.forgetAt (s : State) (pa : Nat) (size : AccessSize) : State := s.draw.2.store pa size s.draw.1

/-- The memory write of a data access at a physical address (R140). A write that leaves an imprecise abort pending
leaves a free value in the memory there is (DESIGN CHOICE, entry 9). -/
def writeAt (s : State) (pa : Nat) (va : Word) (size : AccessSize) (v : Word) : Res Unit :=
  if !backed s.cfg pa size.bytes then externalError s va true (fun s => .ok () s) (.fault (.noMemory pa))
  else
    let (answer, s) := s.popResponse
    let served := .ok () (s.store pa size v)
    if answer == .error then externalError s va true (fun s => .ok () (s.forgetAt pa size)) served else served

/-- `MemRead`, and `MemReadU` when `user` is set whatever the mode (R17, R140). -/
def memRead (s : State) (va : Word) (size : AccessSize) (user : Bool) : Res Word :=
  (dataAddress s va size .read user).bind fun pa s => readAt s pa.toNat va size

/-- `MemWrite`, and `MemWriteU` when `user` is set whatever the mode (R17, R140). -/
def memWrite (s : State) (va : Word) (size : AccessSize) (v : Word) (user : Bool) : Res Unit :=
  (dataAddress s va size .write user).bind fun pa s => writeAt s pa.toNat va size v

/-- Whether an ordinary access has User permissions (R140). -/
def State.user (s : State) : Bool := !s.privileged

/-! ### Instruction fetch -/

/-- The physical address of the next instruction (R141): translation as an instruction fetch, or the flat map. -/
def fetchAddress (s : State) : Res (BitVec 40) :=
  let (ctl, s) := s.useSynced s.sctlr
  if ctlM ctl then translate s ctl s.pc .fetch s.user else .ok (s.pc.setWidth 40) s

/-- The memory read of a fetch (R141): always little-endian (R128). An external error is a precise abort where the
implementation has them, and ranks above a parity error, which is precise on a fetch (R735, R737); outside memory it is
else a fault (R124, R742). -/
def fetchAt (s : State) (pa : Nat) : Res Word :=
  if !backed s.cfg pa 4 then
    if s.cfg.extFetch then .abort ⟨0b01000#5, none, s.pc, false, false⟩ s else .fault (.noMemory pa)
  else
    let (answer, s) := s.popResponse
    if answer == .error && s.cfg.extFetch then .abort ⟨0b01000#5, none, s.pc, false, false⟩ s
    else if ((answer == .parity || answer == .lateParity) && s.cfg.parity) || parityError s.cfg pa 4 then
      .abort ⟨0b11000#5, none, s.pc, false, false⟩ s
    else .ok (assemble false (s.mem.readBytes pa 4)) s

/-- `Fetch` (R141). -/
def fetch (s : State) : Res Word := (fetchAddress s).bind fun pa t => fetchAt t pa.toNat

end Sys2Proof.Machine
end

