-- ==== Sys2Proof/Machine/Cp15.lean ====
section
/-!
DEFINITION. The operations of the System Control coprocessor, CP15 (40_cp15_vmsa.md).
-/

namespace Sys2Proof.Machine

open Sys2Proof

/-- A stored word whose bits of `open` read as a free value (R336, R340, R345, R346). -/
def State.readOpen (s : State) (stored openBits : Word) : Res Word :=
  .ok ((stored &&& ~~~openBits) ||| (s.draw.1 &&& openBits)) s.draw.2

/-- The TLB type register (R61, R333). -/
def tlbType (c : Params) : Word :=
  BitVec.ofNat 32 ((if c.tlbUnified then 0 else c.ilockN) * 2 ^ 16 + c.dlockN * 2 ^ 8 + if c.tlbUnified then 0 else 1)

/-- N of the TTBCR, as a read or a write of register 2 uses it (R337). -/
def State.ttbcrN (s : State) : Nat := tableN s.ttbcr.current

/-- The bits of the DFSR that are UNPREDICTABLE when read (R345). -/
def dfsrOpen : Word := 0xFFFFF200#32
/-- The bits of the DFSR that read as zero (R345). -/
def dfsrZero : Word := 0x00000100#32
/-- The bits of the IFSR that are UNPREDICTABLE when read (R346). -/
def ifsrOpen : Word := 0xFFFFFBF0#32

/-! ### Register 10 -/

/-- Which lockdown register an access names (R362): `none` where the model refuses it. With a unified TLB only
opcode_2 0 exists; a TLB without lockable entries has no such register (R244). -/
def lockdownSide (c : Params) (op2 : BitVec 3) : Option Bool :=
  let instruction := op2 == 1
  if c.tlbUnified && instruction then none
  else if lockable c instruction = 0 then none
  else some instruction

/-- The format of register 10 (R76, R362): base and victim of W bits each, and P; the bits between read as a free
value. -/
def readLockdown (s : State) (op2 : BitVec 3) : Res Word :=
  match lockdownSide s.cfg op2 with
  | none => .refused .lockdown
  | some side =>
    let t := s.tlb side
    let w := lockWidth s.cfg.tlbEntries
    s.readOpen
      (BitVec.ofNat 32 (t.lockBase s.cfg side % 2 ^ w * 2 ^ (32 - w) + t.victim % 2 ^ w * 2 ^ (32 - 2 * w) + t.p.toNat))
      (bitRange (32 - 2 * w) 1)

/-- R363, with the bound of D34 and U14: a base or a victim at or beyond the lockable count is refused. The pseudocode
of R363 alone would take a base equal to that count and any victim below the number of entries (DEDUCED, entry 26). -/
def writeLockdown (s : State) (op2 : BitVec 3) (v : Word) : Res Unit :=
  match lockdownSide s.cfg op2 with
  | none => .refused .lockdown
  | some side =>
    let w := lockWidth s.cfg.tlbEntries
    let b := v.toNat / 2 ^ (32 - w)
    let victim := v.toNat / 2 ^ (32 - 2 * w) % 2 ^ w
    let p := v.getLsbD 0
    let bound := min s.cfg.tlbEntries (lockable s.cfg side)
    if bound ≤ b || bound ≤ victim then .refused .lockdown
    else
      let t := s.tlb side
      .ok () (s.setTlb side { t with base := if s.cfg.lockBaseFixedZero then 0 else b, victim := victim, p := p })

/-! ### Register 8 -/

/-- Which TLBs a register 8 operation acts on (R359): CRm c7 all, c5 the instruction TLB, c6 the data TLB; with a
unified TLB always the one there is. -/
def tlbTargets (c : Params) (crm : BitVec 4) : List Bool :=
  if c.tlbUnified then [false]
  else if crm = 5#4 then [true]
  else if crm = 6#4 then [false]
  else [false, true]

/-- Keep, in every target TLB, the entries for which `keep` holds. -/
def State.filterTlbs (s : State) (crm : BitVec 4) (keep : TlbEntry → Bool) : State :=
  (tlbTargets s.cfg crm).foldl (fun t side => t.setTlb side ((t.tlb side).filter keep)) s

/-- `InvalidateAll`, `InvalidateEntry` and `InvalidateASID` (R350 to R359), by opcode_2 (entry 18). -/
def writeTlbOp (s : State) (crm : BitVec 4) (op2 : BitVec 3) (v : Word) : Res Unit :=
  match op2.toNat with
  | 0 =>
    if v != 0 then .refused .cp15ShouldBeZero
    else .ok () (s.filterTlbs crm fun e => e.locked)
  | 1 =>
    if !ctlXP s.sctlr.current then .refused .subpagesEnabled
    else if v.extractLsb' 8 4 != 0 then .refused .cp15ShouldBeZero
    else .ok () (s.filterTlbs crm fun e => !entryMatches e (v &&& 0xFFFFF000#32) (v.setWidth 8))
  | 2 =>
    if v.extractLsb' 8 24 != 0 then .refused .cp15ShouldBeZero
    else .ok () (s.filterTlbs crm fun e => e.global || e.asid != v.setWidth 8)
  | _ => .refused .cp15Unpredictable

/-! ### The register table of R332 -/

/-- R335: VE, bit 22 and FI cannot be set; without a W bit, bit 3 stays set. -/
def writeControl (s : State) (v : Word) : Res Unit :=
  if v.getLsbD 24 || v.getLsbD 22 || v.getLsbD 21 then .refused .controlBitOutsideModel
  else .ok () { s with sctlr := s.sctlr.write (if s.cfg.hasWBit then v else v ||| 8) }

/-- A write that is refused unless the bits of `zero` are clear (R18). -/
def writeChecked (v zero : Word) (t : State) : Res Unit :=
  if v &&& zero != 0 then .refused .cp15ShouldBeZero else .ok () t

/-- `CP15Read` (R332). -/
def cp15Read (s : State) (crn crm : BitVec 4) (op2 : BitVec 3) : Res Word :=
  match crn.toNat, crm.toNat, op2.toNat with
  | 0, 0, 3 => .ok (tlbType s.cfg) s
  | 1, 0, 0 => .ok s.sctlr.current s
  | 2, 0, 0 => s.readOpen s.ttbr0.current (bitRange (14 - s.ttbcrN) 5)
  | 2, 0, 1 => s.readOpen s.ttbr1.current (bitRange 14 5)
  | 2, 0, 2 => s.readOpen s.ttbcr.current 0xFFFFFFF8#32
  | 3, 0, 0 => .ok s.dacr.current s
  | 4, _, _ => .refused .cp15Unpredictable
  | 5, 0, 0 => s.readOpen (s.dfsr &&& ~~~dfsrZero) dfsrOpen
  | 5, 0, 1 => s.readOpen s.ifsr ifsrOpen
  | 6, 0, 0 => .ok s.far s
  | 6, 0, 1 => .ok s.wfar s
  | 6, 0, 2 => if s.cfg.hasIfar then .ok s.ifar s else .refused .cp15Undescribed
  | 8, _, _ => .refused .cp15Unpredictable
  | 10, 0, 0 => readLockdown s op2
  | 10, 0, 1 => readLockdown s op2
  | 13, 0, 0 => .ok 0 s
  | 13, 0, 1 => .ok s.contextId.current s
  | _, _, _ => .refused .cp15Undescribed

/-- The bits of a TTBR whose base field ends at bit `low` that must be written as zero: the bits from 5 to below it, and
IMP, which the model does not use (R337, R339 with I18 and D35, entry 25). -/
def ttbrZero (low : Nat) : Word := bitRange low 5 ||| 4#32

/-- A write of TTBR0 (R337): it enters the window and the record of writes. -/
def State.writeTtbr0 (s : State) (v : Word) : State :=
  { s with ttbr0 := s.ttbr0.write v, ttbr0Writes := ⟨v, []⟩ :: s.ttbr0Writes }

/-- A write of the TTBCR (R341): each write of TTBR0 on record now has this N among its later ones (R337). -/
def State.writeTtbcr (s : State) (v : Word) : State :=
  { s with
    ttbcr := s.ttbcr.write v
    ttbr0Writes := s.ttbr0Writes.map fun w => { w with laterN := w.laterN.insert (tableN v) } }

/-- `CP15Write` (R332). -/
def cp15Write (s : State) (crn crm : BitVec 4) (op2 : BitVec 3) (v : Word) : Res Unit :=
  match crn.toNat, crm.toNat, op2.toNat with
  | 1, 0, 0 => writeControl s v
  | 2, 0, 0 => writeChecked v (ttbrZero (14 - s.ttbcrN)) (s.writeTtbr0 v)
  | 2, 0, 1 => writeChecked v (ttbrZero 14) { s with ttbr1 := s.ttbr1.write v }
  | 2, 0, 2 => writeChecked v 0xFFFFFFF8#32 (s.writeTtbcr v)
  | 3, 0, 0 => .ok () { s with dacr := s.dacr.write v }
  | 4, _, _ => .refused .cp15Unpredictable
  | 5, 0, 0 => writeChecked v 0xFFFFF300#32 { s with dfsr := v }
  | 5, 0, 1 => writeChecked v ifsrOpen { s with ifsr := v }
  | 6, 0, 0 => .ok () { s with far := v }
  | 6, 0, 1 => .ok () { s with wfar := v }
  | 6, 0, 2 => if s.cfg.hasIfar then .ok () { s with ifar := v } else .refused .cp15Undescribed
  | 7, 5, 4 => writeChecked v 0xFFFFFFFF#32 s.closeWindows
  | 7, 10, 4 => writeChecked v 0xFFFFFFFF#32 s
  | 7, 10, 5 => writeChecked v 0xFFFFFFFF#32 s
  | 8, 5, _ => writeTlbOp s crm op2 v
  | 8, 6, _ => writeTlbOp s crm op2 v
  | 8, 7, _ => writeTlbOp s crm op2 v
  | 8, _, _ => .refused .cp15Unpredictable
  | 10, 0, 0 => writeLockdown s op2 v
  | 10, 0, 1 => writeLockdown s op2 v
  | 10, 4, _ => .refused .lockdown
  | 10, 8, _ => .refused .lockdown
  | 13, 0, 0 => if v != 0 then .refused .fcsePid else .ok () s
  | 13, 0, 1 => .ok () { s with contextId := s.contextId.write v }
  | _, _, _ => .refused .cp15Undescribed

end Sys2Proof.Machine
end

