-- ==== Sys2Proof/Machine/Coprocessor.lean ====
section
/-!
DEFINITION. Exception-generating, coprocessor and undefined instructions (49_exception_coproc.md).
-/

namespace Sys2Proof.Machine

open Sys2Proof

/-! ### Exception-generating instructions -/

/-- R690: the immediate is ignored. -/
def execSwi (c : Cond) (_imm : BitVec 24) (s : State) : Out :=
  whenCond c s (.next (s.takeException .swi (s.pc + 4)))

/-- R691: the immediate is ignored; the condition field is AL. -/
def execBkpt (_imm : BitVec 16) (s : State) : Out := .next s.breakpoint

/-- A word that is UNDEFINED (R708): the condition, if there is one, is evaluated first (R264). -/
def execUndefinedWord (w : Word) (s : State) : Out :=
  match Cond.ofBits (w.extractLsb' 28 4) with
  | some c => whenCond c s s.undefinedInstruction
  | none => s.undefinedInstruction

/-- A word that is UNPREDICTABLE (R269, R270): refused, unless its condition fails (R264). -/
def execUnpredictableWord (w : Word) (s : State) : Out :=
  match Cond.ofBits (w.extractLsb' 28 4) with
  | some c => whenCond c s (.refused .unpredictableEncoding)
  | none => .refused .unpredictableEncoding

/-! ### Coprocessor instructions -/

/-- R692 for everything but MCR and MRC: a coprocessor that is not there makes the instruction undefined; one that is
there accepts nothing that a source describes (R370). The operands are not looked at first (entry 17). -/
def State.coprocessor (s : State) (cp : BitVec 4) : Out :=
  if s.cfg.coprocessors.contains cp.toNat then .refused .coprocessorUndescribed else s.undefinedInstruction

/-- R692 for MCR and MRC: `body` is the transfer to or from CP15 in a privileged mode (R331). -/
def State.coprocessorTransfer (s : State) (cp : BitVec 4) (op1 : BitVec 3) (body : Out) : Out :=
  if !s.cfg.coprocessors.contains cp.toNat then s.undefinedInstruction
  else if cp != 15#4 then .refused .coprocessorUndescribed
  else if !s.privileged then s.undefinedInstruction
  else if op1 != 0 then .refused .cp15Undescribed
  else body

/-- The flags MRC writes when Rd is R15 (R695). -/
def Psr.setTransferred (p : Psr) (v : Word) : Psr :=
  { p with n := v.getLsbD 31, z := v.getLsbD 30, c := v.getLsbD 29, v := v.getLsbD 28 }

/-- R694. -/
def execMcr (c : Cond) (op1 : BitVec 3) (crn : BitVec 4) (rd : Reg) (cp : BitVec 4) (op2 : BitVec 3) (crm : BitVec 4)
    (s : State) : Out :=
  whenCond c s (s.coprocessorTransfer cp op1 (withoutPC [rd]
    ((cp15Write s crn crm op2 (s.readReg rd)).finish (fun _ t => t.advance) (fun i t => .next (t.dataAbort i)))))

/-- R695, R332: Rd = R15 writes the flags. Section 4 of 93_implementation_defined.md lists it as refused for CP15; the
pseudocode of both rules is followed (DEDUCED, entry 27). -/
def execMrc (c : Cond) (op1 : BitVec 3) (crn : BitVec 4) (rd : Reg) (cp : BitVec 4) (op2 : BitVec 3) (crm : BitVec 4)
    (s : State) : Out :=
  whenCond c s (s.coprocessorTransfer cp op1
    ((cp15Read s crn crm op2).finish
      (fun v t =>
        if rd = 15#4 then ({ t with cpsr := t.cpsr.setTransferred v }).advance else (t.writeReg rd v).advance)
      (fun i t => .next (t.dataAbort i))))

/-- R693. -/
def execCdp (c : Cond) (_op1 _crn _crd cp : BitVec 4) (_op2 : BitVec 3) (_crm : BitVec 4) (s : State) : Out :=
  whenCond c s (s.coprocessor cp)

/-- R696. -/
def execLdc (c : Cond) (_p _u _n _wb : Bool) (_rn : Reg) (_crd cp : BitVec 4) (_off : BitVec 8) (s : State) : Out :=
  whenCond c s (s.coprocessor cp)

/-- R697. -/
def execStc (c : Cond) (_p _u _n _wb : Bool) (_rn : Reg) (_crd cp : BitVec 4) (_off : BitVec 8) (s : State) : Out :=
  whenCond c s (s.coprocessor cp)

/-- R698. -/
def execMcrr (c : Cond) (_rn _rd : Reg) (cp _op _crm : BitVec 4) (s : State) : Out :=
  whenCond c s (s.coprocessor cp)

/-- R699. -/
def execMrrc (c : Cond) (_rn _rd : Reg) (cp _op _crm : BitVec 4) (s : State) : Out :=
  whenCond c s (s.coprocessor cp)

/-! ### The unconditional forms (R700 to R706) -/

/-- R700. -/
def execCdp2 (_op1 _crn _crd cp : BitVec 4) (_op2 : BitVec 3) (_crm : BitVec 4) (s : State) : Out :=
  s.coprocessor cp

/-- R701. -/
def execMcr2 (_op1 : BitVec 3) (_crn : BitVec 4) (_rd : Reg) (cp : BitVec 4) (_op2 : BitVec 3) (_crm : BitVec 4) (s : State) : Out :=
  s.coprocessor cp

/-- R702. -/
def execMrc2 (_op1 : BitVec 3) (_crn : BitVec 4) (_rd : Reg) (cp : BitVec 4) (_op2 : BitVec 3) (_crm : BitVec 4) (s : State) : Out :=
  s.coprocessor cp

/-- R703. -/
def execLdc2 (_p _u _n _wb : Bool) (_rn : Reg) (_crd cp : BitVec 4) (_off : BitVec 8) (s : State) : Out :=
  s.coprocessor cp

/-- R704. -/
def execStc2 (_p _u _n _wb : Bool) (_rn : Reg) (_crd cp : BitVec 4) (_off : BitVec 8) (s : State) : Out :=
  s.coprocessor cp

/-- R705. -/
def execMcrr2 (_rn _rd : Reg) (cp _op _crm : BitVec 4) (s : State) : Out :=
  s.coprocessor cp

/-- R706. -/
def execMrrc2 (_rn _rd : Reg) (cp _op _crm : BitVec 4) (s : State) : Out :=
  s.coprocessor cp

end Sys2Proof.Machine
end

