-- ==== Sys2Proof/Machine/DataProcessing.lean ====
section
/-!
DEFINITION. The sixteen data-processing instructions in their three forms (42_data_processing.md).
-/

namespace Sys2Proof.Machine

open Sys2Proof

/-- The end of an instruction that writes Rd (R410): with S set and Rd = R15 it is an exception return (R413), with
S clear and Rd = R15 a branch (R43). -/
def State.dataResult (s : State) (sf : Bool) (rd : Reg) (r : AluResult) : Out :=
  if rd = 15#4 then (if sf then s.exceptionReturn r.result else s.branch r.result)
  else s.finish rd r.result (if sf then s.cpsr.setNZCV r else s.cpsr)

/-- The end of TST, TEQ, CMP and CMN (R410): only the flags are written. -/
def State.compareResult (s : State) (r : AluResult) : Out := ({ s with cpsr := s.cpsr.setNZCV r }).advance

/-- A logical result (R410): C is the shifter carry-out, V the old V. -/
def logical (p : Psr) (so : Shifted) (result : Word) : AluResult := ⟨result, so.carry, p.v⟩

/-! ### The functions of R426 to R441 -/

/-- R426. -/
def andResult (p : Psr) (x : Word) (so : Shifted) : AluResult := logical p so (x &&& so.value)

/-- R427. -/
def eorResult (p : Psr) (x : Word) (so : Shifted) : AluResult := logical p so (x ^^^ so.value)

/-- R428. -/
def subResult (_p : Psr) (x : Word) (so : Shifted) : AluResult := addWithCarry x (~~~so.value) true

/-- R429. -/
def rsbResult (_p : Psr) (x : Word) (so : Shifted) : AluResult := addWithCarry so.value (~~~x) true

/-- R430. -/
def addResult (_p : Psr) (x : Word) (so : Shifted) : AluResult := addWithCarry x so.value false

/-- R431. -/
def adcResult (p : Psr) (x : Word) (so : Shifted) : AluResult := addWithCarry x so.value p.c

/-- R432. -/
def sbcResult (p : Psr) (x : Word) (so : Shifted) : AluResult := addWithCarry x (~~~so.value) p.c

/-- R433. -/
def rscResult (p : Psr) (x : Word) (so : Shifted) : AluResult := addWithCarry so.value (~~~x) p.c

/-- R438. -/
def orrResult (p : Psr) (x : Word) (so : Shifted) : AluResult := logical p so (x ||| so.value)

/-- R439. -/
def movResult (p : Psr) (so : Shifted) : AluResult := logical p so (so.value)

/-- R440. -/
def bicResult (p : Psr) (x : Word) (so : Shifted) : AluResult := logical p so (x &&& ~~~so.value)

/-- R441. -/
def mvnResult (p : Psr) (so : Shifted) : AluResult := logical p so (~~~so.value)

/-! ### The instructions -/

/-- R426, shift by an immediate. -/
def execAndShiftImm (c : Cond) (sf : Bool) (rn rd : Reg) (op : ImmShift) (s : State) : Out :=
  whenCond c s (s.dataResult sf rd (andResult s.cpsr (s.readReg rn) (immShiftOperand s op)))

/-- R427, shift by an immediate. -/
def execEorShiftImm (c : Cond) (sf : Bool) (rn rd : Reg) (op : ImmShift) (s : State) : Out :=
  whenCond c s (s.dataResult sf rd (eorResult s.cpsr (s.readReg rn) (immShiftOperand s op)))

/-- R428, shift by an immediate. -/
def execSubShiftImm (c : Cond) (sf : Bool) (rn rd : Reg) (op : ImmShift) (s : State) : Out :=
  whenCond c s (s.dataResult sf rd (subResult s.cpsr (s.readReg rn) (immShiftOperand s op)))

/-- R429, shift by an immediate. -/
def execRsbShiftImm (c : Cond) (sf : Bool) (rn rd : Reg) (op : ImmShift) (s : State) : Out :=
  whenCond c s (s.dataResult sf rd (rsbResult s.cpsr (s.readReg rn) (immShiftOperand s op)))

/-- R430, shift by an immediate. -/
def execAddShiftImm (c : Cond) (sf : Bool) (rn rd : Reg) (op : ImmShift) (s : State) : Out :=
  whenCond c s (s.dataResult sf rd (addResult s.cpsr (s.readReg rn) (immShiftOperand s op)))

/-- R431, shift by an immediate. -/
def execAdcShiftImm (c : Cond) (sf : Bool) (rn rd : Reg) (op : ImmShift) (s : State) : Out :=
  whenCond c s (s.dataResult sf rd (adcResult s.cpsr (s.readReg rn) (immShiftOperand s op)))

/-- R432, shift by an immediate. -/
def execSbcShiftImm (c : Cond) (sf : Bool) (rn rd : Reg) (op : ImmShift) (s : State) : Out :=
  whenCond c s (s.dataResult sf rd (sbcResult s.cpsr (s.readReg rn) (immShiftOperand s op)))

/-- R433, shift by an immediate. -/
def execRscShiftImm (c : Cond) (sf : Bool) (rn rd : Reg) (op : ImmShift) (s : State) : Out :=
  whenCond c s (s.dataResult sf rd (rscResult s.cpsr (s.readReg rn) (immShiftOperand s op)))

/-- R434, shift by an immediate. -/
def execTstShiftImm (c : Cond) (rn : Reg) (op : ImmShift) (s : State) : Out :=
  whenCond c s (s.compareResult (andResult s.cpsr (s.readReg rn) (immShiftOperand s op)))

/-- R435, shift by an immediate. -/
def execTeqShiftImm (c : Cond) (rn : Reg) (op : ImmShift) (s : State) : Out :=
  whenCond c s (s.compareResult (eorResult s.cpsr (s.readReg rn) (immShiftOperand s op)))

/-- R436, shift by an immediate. -/
def execCmpShiftImm (c : Cond) (rn : Reg) (op : ImmShift) (s : State) : Out :=
  whenCond c s (s.compareResult (subResult s.cpsr (s.readReg rn) (immShiftOperand s op)))

/-- R437, shift by an immediate. -/
def execCmnShiftImm (c : Cond) (rn : Reg) (op : ImmShift) (s : State) : Out :=
  whenCond c s (s.compareResult (addResult s.cpsr (s.readReg rn) (immShiftOperand s op)))

/-- R438, shift by an immediate. -/
def execOrrShiftImm (c : Cond) (sf : Bool) (rn rd : Reg) (op : ImmShift) (s : State) : Out :=
  whenCond c s (s.dataResult sf rd (orrResult s.cpsr (s.readReg rn) (immShiftOperand s op)))

/-- R439, shift by an immediate. -/
def execMovShiftImm (c : Cond) (sf : Bool) (rd : Reg) (op : ImmShift) (s : State) : Out :=
  whenCond c s (s.dataResult sf rd (movResult s.cpsr (immShiftOperand s op)))

/-- R440, shift by an immediate. -/
def execBicShiftImm (c : Cond) (sf : Bool) (rn rd : Reg) (op : ImmShift) (s : State) : Out :=
  whenCond c s (s.dataResult sf rd (bicResult s.cpsr (s.readReg rn) (immShiftOperand s op)))

/-- R441, shift by an immediate. -/
def execMvnShiftImm (c : Cond) (sf : Bool) (rd : Reg) (op : ImmShift) (s : State) : Out :=
  whenCond c s (s.dataResult sf rd (mvnResult s.cpsr (immShiftOperand s op)))

/-- R426, shift by a register: R15 is no operand (R425). -/
def execAndShiftReg (c : Cond) (sf : Bool) (rn rd : Reg) (op : RegShift) (s : State) : Out :=
  whenCond c s (withoutPC [rn, rd, op.rm, op.rs]
    (s.dataResult sf rd (andResult s.cpsr (s.readReg rn) (regShiftOperand s op))))

/-- R427, shift by a register: R15 is no operand (R425). -/
def execEorShiftReg (c : Cond) (sf : Bool) (rn rd : Reg) (op : RegShift) (s : State) : Out :=
  whenCond c s (withoutPC [rn, rd, op.rm, op.rs]
    (s.dataResult sf rd (eorResult s.cpsr (s.readReg rn) (regShiftOperand s op))))

/-- R428, shift by a register: R15 is no operand (R425). -/
def execSubShiftReg (c : Cond) (sf : Bool) (rn rd : Reg) (op : RegShift) (s : State) : Out :=
  whenCond c s (withoutPC [rn, rd, op.rm, op.rs]
    (s.dataResult sf rd (subResult s.cpsr (s.readReg rn) (regShiftOperand s op))))

/-- R429, shift by a register: R15 is no operand (R425). -/
def execRsbShiftReg (c : Cond) (sf : Bool) (rn rd : Reg) (op : RegShift) (s : State) : Out :=
  whenCond c s (withoutPC [rn, rd, op.rm, op.rs]
    (s.dataResult sf rd (rsbResult s.cpsr (s.readReg rn) (regShiftOperand s op))))

/-- R430, shift by a register: R15 is no operand (R425). -/
def execAddShiftReg (c : Cond) (sf : Bool) (rn rd : Reg) (op : RegShift) (s : State) : Out :=
  whenCond c s (withoutPC [rn, rd, op.rm, op.rs]
    (s.dataResult sf rd (addResult s.cpsr (s.readReg rn) (regShiftOperand s op))))

/-- R431, shift by a register: R15 is no operand (R425). -/
def execAdcShiftReg (c : Cond) (sf : Bool) (rn rd : Reg) (op : RegShift) (s : State) : Out :=
  whenCond c s (withoutPC [rn, rd, op.rm, op.rs]
    (s.dataResult sf rd (adcResult s.cpsr (s.readReg rn) (regShiftOperand s op))))

/-- R432, shift by a register: R15 is no operand (R425). -/
def execSbcShiftReg (c : Cond) (sf : Bool) (rn rd : Reg) (op : RegShift) (s : State) : Out :=
  whenCond c s (withoutPC [rn, rd, op.rm, op.rs]
    (s.dataResult sf rd (sbcResult s.cpsr (s.readReg rn) (regShiftOperand s op))))

/-- R433, shift by a register: R15 is no operand (R425). -/
def execRscShiftReg (c : Cond) (sf : Bool) (rn rd : Reg) (op : RegShift) (s : State) : Out :=
  whenCond c s (withoutPC [rn, rd, op.rm, op.rs]
    (s.dataResult sf rd (rscResult s.cpsr (s.readReg rn) (regShiftOperand s op))))

/-- R434, shift by a register: R15 is no operand (R425). -/
def execTstShiftReg (c : Cond) (rn : Reg) (op : RegShift) (s : State) : Out :=
  whenCond c s (withoutPC [rn, op.rm, op.rs]
    (s.compareResult (andResult s.cpsr (s.readReg rn) (regShiftOperand s op))))

/-- R435, shift by a register: R15 is no operand (R425). -/
def execTeqShiftReg (c : Cond) (rn : Reg) (op : RegShift) (s : State) : Out :=
  whenCond c s (withoutPC [rn, op.rm, op.rs]
    (s.compareResult (eorResult s.cpsr (s.readReg rn) (regShiftOperand s op))))

/-- R436, shift by a register: R15 is no operand (R425). -/
def execCmpShiftReg (c : Cond) (rn : Reg) (op : RegShift) (s : State) : Out :=
  whenCond c s (withoutPC [rn, op.rm, op.rs]
    (s.compareResult (subResult s.cpsr (s.readReg rn) (regShiftOperand s op))))

/-- R437, shift by a register: R15 is no operand (R425). -/
def execCmnShiftReg (c : Cond) (rn : Reg) (op : RegShift) (s : State) : Out :=
  whenCond c s (withoutPC [rn, op.rm, op.rs]
    (s.compareResult (addResult s.cpsr (s.readReg rn) (regShiftOperand s op))))

/-- R438, shift by a register: R15 is no operand (R425). -/
def execOrrShiftReg (c : Cond) (sf : Bool) (rn rd : Reg) (op : RegShift) (s : State) : Out :=
  whenCond c s (withoutPC [rn, rd, op.rm, op.rs]
    (s.dataResult sf rd (orrResult s.cpsr (s.readReg rn) (regShiftOperand s op))))

/-- R439, shift by a register: R15 is no operand (R425). -/
def execMovShiftReg (c : Cond) (sf : Bool) (rd : Reg) (op : RegShift) (s : State) : Out :=
  whenCond c s (withoutPC [rd, op.rm, op.rs]
    (s.dataResult sf rd (movResult s.cpsr (regShiftOperand s op))))

/-- R440, shift by a register: R15 is no operand (R425). -/
def execBicShiftReg (c : Cond) (sf : Bool) (rn rd : Reg) (op : RegShift) (s : State) : Out :=
  whenCond c s (withoutPC [rn, rd, op.rm, op.rs]
    (s.dataResult sf rd (bicResult s.cpsr (s.readReg rn) (regShiftOperand s op))))

/-- R441, shift by a register: R15 is no operand (R425). -/
def execMvnShiftReg (c : Cond) (sf : Bool) (rd : Reg) (op : RegShift) (s : State) : Out :=
  whenCond c s (withoutPC [rd, op.rm, op.rs]
    (s.dataResult sf rd (mvnResult s.cpsr (regShiftOperand s op))))

/-- R426, immediate. -/
def execAndImm (c : Cond) (sf : Bool) (rn rd : Reg) (op : RotImm) (s : State) : Out :=
  whenCond c s (s.dataResult sf rd (andResult s.cpsr (s.readReg rn) (rotImmOperand op s.cpsr.c)))

/-- R427, immediate. -/
def execEorImm (c : Cond) (sf : Bool) (rn rd : Reg) (op : RotImm) (s : State) : Out :=
  whenCond c s (s.dataResult sf rd (eorResult s.cpsr (s.readReg rn) (rotImmOperand op s.cpsr.c)))

/-- R428, immediate. -/
def execSubImm (c : Cond) (sf : Bool) (rn rd : Reg) (op : RotImm) (s : State) : Out :=
  whenCond c s (s.dataResult sf rd (subResult s.cpsr (s.readReg rn) (rotImmOperand op s.cpsr.c)))

/-- R429, immediate. -/
def execRsbImm (c : Cond) (sf : Bool) (rn rd : Reg) (op : RotImm) (s : State) : Out :=
  whenCond c s (s.dataResult sf rd (rsbResult s.cpsr (s.readReg rn) (rotImmOperand op s.cpsr.c)))

/-- R430, immediate. -/
def execAddImm (c : Cond) (sf : Bool) (rn rd : Reg) (op : RotImm) (s : State) : Out :=
  whenCond c s (s.dataResult sf rd (addResult s.cpsr (s.readReg rn) (rotImmOperand op s.cpsr.c)))

/-- R431, immediate. -/
def execAdcImm (c : Cond) (sf : Bool) (rn rd : Reg) (op : RotImm) (s : State) : Out :=
  whenCond c s (s.dataResult sf rd (adcResult s.cpsr (s.readReg rn) (rotImmOperand op s.cpsr.c)))

/-- R432, immediate. -/
def execSbcImm (c : Cond) (sf : Bool) (rn rd : Reg) (op : RotImm) (s : State) : Out :=
  whenCond c s (s.dataResult sf rd (sbcResult s.cpsr (s.readReg rn) (rotImmOperand op s.cpsr.c)))

/-- R433, immediate. -/
def execRscImm (c : Cond) (sf : Bool) (rn rd : Reg) (op : RotImm) (s : State) : Out :=
  whenCond c s (s.dataResult sf rd (rscResult s.cpsr (s.readReg rn) (rotImmOperand op s.cpsr.c)))

/-- R434, immediate. -/
def execTstImm (c : Cond) (rn : Reg) (op : RotImm) (s : State) : Out :=
  whenCond c s (s.compareResult (andResult s.cpsr (s.readReg rn) (rotImmOperand op s.cpsr.c)))

/-- R435, immediate. -/
def execTeqImm (c : Cond) (rn : Reg) (op : RotImm) (s : State) : Out :=
  whenCond c s (s.compareResult (eorResult s.cpsr (s.readReg rn) (rotImmOperand op s.cpsr.c)))

/-- R436, immediate. -/
def execCmpImm (c : Cond) (rn : Reg) (op : RotImm) (s : State) : Out :=
  whenCond c s (s.compareResult (subResult s.cpsr (s.readReg rn) (rotImmOperand op s.cpsr.c)))

/-- R437, immediate. -/
def execCmnImm (c : Cond) (rn : Reg) (op : RotImm) (s : State) : Out :=
  whenCond c s (s.compareResult (addResult s.cpsr (s.readReg rn) (rotImmOperand op s.cpsr.c)))

/-- R438, immediate. -/
def execOrrImm (c : Cond) (sf : Bool) (rn rd : Reg) (op : RotImm) (s : State) : Out :=
  whenCond c s (s.dataResult sf rd (orrResult s.cpsr (s.readReg rn) (rotImmOperand op s.cpsr.c)))

/-- R439, immediate. -/
def execMovImm (c : Cond) (sf : Bool) (rd : Reg) (op : RotImm) (s : State) : Out :=
  whenCond c s (s.dataResult sf rd (movResult s.cpsr (rotImmOperand op s.cpsr.c)))

/-- R440, immediate. -/
def execBicImm (c : Cond) (sf : Bool) (rn rd : Reg) (op : RotImm) (s : State) : Out :=
  whenCond c s (s.dataResult sf rd (bicResult s.cpsr (s.readReg rn) (rotImmOperand op s.cpsr.c)))

/-- R441, immediate. -/
def execMvnImm (c : Cond) (sf : Bool) (rd : Reg) (op : RotImm) (s : State) : Out :=
  whenCond c s (s.dataResult sf rd (mvnResult s.cpsr (rotImmOperand op s.cpsr.c)))

end Sys2Proof.Machine
end

