-- ==== Sys2Proof/Machine/LoadStore.lean ====
section
/-!
DEFINITION. Single register, doubleword and exclusive loads and stores, and PLD (47_load_store.md).
-/

namespace Sys2Proof.Machine

open Sys2Proof

/-- The value a writeback form gives its base register, if it is one (R609, R610). -/
def indexWriteback (idx : IndexMode) (u : Bool) (base offset : Word) : Option Word :=
  if indexWritesBack idx then some (applyOffset u base offset) else none

/-- The base register writeback of R605 item 3. -/
def State.writeback (s : State) (rn : Reg) (wb : Option Word) : State :=
  match wb with
  | none => s
  | some v => s.writeReg rn v

/-- An aborted instruction that has written nothing (R605 item 3, R751). -/
def abortInstruction (i : AbortInfo) (s : State) : Out := .next (s.dataAbort i)

/-- A load of one register (R605, R611): the access, the writeback, then the destination, which for R15 is the branch
of R612. `extend` makes a word of the data. -/
def State.loadForm (s : State) (idx : IndexMode) (u : Bool) (rn : Reg) (offset : Word) (rd : Reg) (size : AccessSize)
    (user : Bool) (extend : Word → Word) : Out :=
  let base := s.readReg rn
  if !writebackAllowed idx rn [rd] then .refused .unpredictableOperands
  else
    (memRead s (indexAddress idx u base offset) size user).finish
      (fun data t =>
        let t := t.writeback rn (indexWriteback idx u base offset)
        if rd = 15#4 then t.branchExchange (extend data) else (t.writeReg rd (extend data)).advance)
      abortInstruction

/-- The word STR stores (R614): R15 stores the address plus `PC_STORE_OFFSET` (R44). -/
def State.storedReg (s : State) (rd : Reg) : Word :=
  if rd = 15#4 then s.pc + (if s.cfg.pcStoreOffset12 then 12 else 8) else s.readReg rd

/-- A store of one register (R605, R614): the access, then the writeback. -/
def State.storeForm (s : State) (idx : IndexMode) (u : Bool) (rn : Reg) (offset : Word) (rd : Reg) (size : AccessSize)
    (user : Bool) : Out :=
  let base := s.readReg rn
  if !writebackAllowed idx rn [rd] then .refused .unpredictableOperands
  else
    (memWrite s (indexAddress idx u base offset) size (s.storedReg rd) user).finish
      (fun _ t => (t.writeback rn (indexWriteback idx u base offset)).advance)
      abortInstruction

/-- A form with a register offset (R605 item 7): Rm is not R15, and not the base of a writeback form. -/
def withOffsetReg (idx : IndexMode) (rn rm : Reg) (body : Out) : Out :=
  if offsetRegAllowed idx rn rm then body else .refused .unpredictableOperands

/-- The low byte, zero-extended (R613). -/
def zeroByte (w : Word) : Word := (w.setWidth 8).setWidth 32
/-- The low byte, sign-extended (R626). -/
def signByte (w : Word) : Word := (w.setWidth 8).signExtend 32
/-- The low halfword, zero-extended (R625). -/
def zeroHalf (w : Word) : Word := (w.setWidth 16).setWidth 32
/-- The low halfword, sign-extended (R627). -/
def signHalf (w : Word) : Word := (w.setWidth 16).signExtend 32

/-! ### Word and unsigned byte -/

/-- R611, immediate offset. -/
def execLdrImm (c : Cond) (idx : IndexMode) (u : Bool) (rn rd : Reg) (imm : BitVec 12) (s : State) : Out :=
  whenCond c s
    (s.loadForm idx u rn (imm.setWidth 32) rd .word s.user id)

/-- R613, immediate offset. -/
def execLdrbImm (c : Cond) (idx : IndexMode) (u : Bool) (rn rd : Reg) (imm : BitVec 12) (s : State) : Out :=
  whenCond c s
    (withoutPC [rd] (s.loadForm idx u rn (imm.setWidth 32) rd .byte s.user zeroByte))

/-- R614, immediate offset. -/
def execStrImm (c : Cond) (idx : IndexMode) (u : Bool) (rn rd : Reg) (imm : BitVec 12) (s : State) : Out :=
  whenCond c s
    (s.storeForm idx u rn (imm.setWidth 32) rd .word s.user)

/-- R615, immediate offset. -/
def execStrbImm (c : Cond) (idx : IndexMode) (u : Bool) (rn rd : Reg) (imm : BitVec 12) (s : State) : Out :=
  whenCond c s
    (withoutPC [rd] (s.storeForm idx u rn (imm.setWidth 32) rd .byte s.user))

/-- R616, immediate offset: post-indexed, with User permissions (R620). -/
def execLdrtImm (c : Cond) (u : Bool) (rn rd : Reg) (imm : BitVec 12) (s : State) : Out :=
  whenCond c s
    (withoutPC [rd] (s.loadForm .post u rn (imm.setWidth 32) rd .word true id))

/-- R617, immediate offset: post-indexed, with User permissions (R620). -/
def execLdrbtImm (c : Cond) (u : Bool) (rn rd : Reg) (imm : BitVec 12) (s : State) : Out :=
  whenCond c s
    (withoutPC [rd] (s.loadForm .post u rn (imm.setWidth 32) rd .byte true zeroByte))

/-- R618, immediate offset: post-indexed, with User permissions (R620). -/
def execStrtImm (c : Cond) (u : Bool) (rn rd : Reg) (imm : BitVec 12) (s : State) : Out :=
  whenCond c s
    (withoutPC [rd] (s.storeForm .post u rn (imm.setWidth 32) rd .word true))

/-- R619, immediate offset: post-indexed, with User permissions (R620). -/
def execStrbtImm (c : Cond) (u : Bool) (rn rd : Reg) (imm : BitVec 12) (s : State) : Out :=
  whenCond c s
    (withoutPC [rd] (s.storeForm .post u rn (imm.setWidth 32) rd .byte true))

/-- R611, scaled register offset. -/
def execLdrReg (c : Cond) (idx : IndexMode) (u : Bool) (rn rd : Reg) (op : ImmShift) (s : State) : Out :=
  whenCond c s
    (withOffsetReg idx rn op.rm (s.loadForm idx u rn (scaledOffset s op) rd .word s.user id))

/-- R613, scaled register offset. -/
def execLdrbReg (c : Cond) (idx : IndexMode) (u : Bool) (rn rd : Reg) (op : ImmShift) (s : State) : Out :=
  whenCond c s
    (withOffsetReg idx rn op.rm (withoutPC [rd] (s.loadForm idx u rn (scaledOffset s op) rd .byte s.user zeroByte)))

/-- R614, scaled register offset. -/
def execStrReg (c : Cond) (idx : IndexMode) (u : Bool) (rn rd : Reg) (op : ImmShift) (s : State) : Out :=
  whenCond c s
    (withOffsetReg idx rn op.rm (s.storeForm idx u rn (scaledOffset s op) rd .word s.user))

/-- R615, scaled register offset. -/
def execStrbReg (c : Cond) (idx : IndexMode) (u : Bool) (rn rd : Reg) (op : ImmShift) (s : State) : Out :=
  whenCond c s
    (withOffsetReg idx rn op.rm (withoutPC [rd] (s.storeForm idx u rn (scaledOffset s op) rd .byte s.user)))

/-- R616, scaled register offset: post-indexed, with User permissions (R620). -/
def execLdrtReg (c : Cond) (u : Bool) (rn rd : Reg) (op : ImmShift) (s : State) : Out :=
  whenCond c s
    (withOffsetReg .post rn op.rm (withoutPC [rd] (s.loadForm .post u rn (scaledOffset s op) rd .word true id)))

/-- R617, scaled register offset: post-indexed, with User permissions (R620). -/
def execLdrbtReg (c : Cond) (u : Bool) (rn rd : Reg) (op : ImmShift) (s : State) : Out :=
  whenCond c s
    (withOffsetReg .post rn op.rm (withoutPC [rd] (s.loadForm .post u rn (scaledOffset s op) rd .byte true zeroByte)))

/-- R618, scaled register offset: post-indexed, with User permissions (R620). -/
def execStrtReg (c : Cond) (u : Bool) (rn rd : Reg) (op : ImmShift) (s : State) : Out :=
  whenCond c s
    (withOffsetReg .post rn op.rm (withoutPC [rd] (s.storeForm .post u rn (scaledOffset s op) rd .word true)))

/-- R619, scaled register offset: post-indexed, with User permissions (R620). -/
def execStrbtReg (c : Cond) (u : Bool) (rn rd : Reg) (op : ImmShift) (s : State) : Out :=
  whenCond c s
    (withOffsetReg .post rn op.rm (withoutPC [rd] (s.storeForm .post u rn (scaledOffset s op) rd .byte true)))

/-! ### Halfword and signed byte -/

/-- R625, immediate offset. -/
def execLdrhImm (c : Cond) (idx : IndexMode) (u : Bool) (rn rd : Reg) (off : BitVec 8) (s : State) : Out :=
  whenCond c s
    (withoutPC [rd] (s.loadForm idx u rn (off.setWidth 32) rd .half s.user zeroHalf))

/-- R626, immediate offset. -/
def execLdrsbImm (c : Cond) (idx : IndexMode) (u : Bool) (rn rd : Reg) (off : BitVec 8) (s : State) : Out :=
  whenCond c s
    (withoutPC [rd] (s.loadForm idx u rn (off.setWidth 32) rd .byte s.user signByte))

/-- R627, immediate offset. -/
def execLdrshImm (c : Cond) (idx : IndexMode) (u : Bool) (rn rd : Reg) (off : BitVec 8) (s : State) : Out :=
  whenCond c s
    (withoutPC [rd] (s.loadForm idx u rn (off.setWidth 32) rd .half s.user signHalf))

/-- R628, immediate offset. -/
def execStrhImm (c : Cond) (idx : IndexMode) (u : Bool) (rn rd : Reg) (off : BitVec 8) (s : State) : Out :=
  whenCond c s
    (withoutPC [rd] (s.storeForm idx u rn (off.setWidth 32) rd .half s.user))

/-- R625, register offset. -/
def execLdrhReg (c : Cond) (idx : IndexMode) (u : Bool) (rn rd : Reg) (rm : Reg) (s : State) : Out :=
  whenCond c s
    (withOffsetReg idx rn rm (withoutPC [rd] (s.loadForm idx u rn (s.readReg rm) rd .half s.user zeroHalf)))

/-- R626, register offset. -/
def execLdrsbReg (c : Cond) (idx : IndexMode) (u : Bool) (rn rd : Reg) (rm : Reg) (s : State) : Out :=
  whenCond c s
    (withOffsetReg idx rn rm (withoutPC [rd] (s.loadForm idx u rn (s.readReg rm) rd .byte s.user signByte)))

/-- R627, register offset. -/
def execLdrshReg (c : Cond) (idx : IndexMode) (u : Bool) (rn rd : Reg) (rm : Reg) (s : State) : Out :=
  whenCond c s
    (withOffsetReg idx rn rm (withoutPC [rd] (s.loadForm idx u rn (s.readReg rm) rd .half s.user signHalf)))

/-- R628, register offset. -/
def execStrhReg (c : Cond) (idx : IndexMode) (u : Bool) (rn rd : Reg) (rm : Reg) (s : State) : Out :=
  whenCond c s
    (withOffsetReg idx rn rm (withoutPC [rd] (s.storeForm idx u rn (s.readReg rm) rd .half s.user)))

/-! ### Doubleword -/

/-- `n` words from a virtual address upwards, each translated and checked on its own (R660, R133). -/
def readWords (s : State) (va : Word) (user : Bool) : Nat → Res (List Word)
  | 0 => .ok [] s
  | n + 1 =>
    (memRead s va .word user).bind fun v s =>
      (readWords s (va + 4) user n).bind fun vs s => .ok (v :: vs) s

/-- Store words from a virtual address upwards (R664). -/
def writeWords (s : State) (va : Word) (user : Bool) : List Word → Res Unit
  | [] => .ok () s
  | v :: vs => (memWrite s va .word v user).bind fun _ s => writeWords s (va + 4) user vs

/-- A range of `n` words stays inside the address space (R126). -/
def inAddressSpace (va : Word) (n : Nat) (body : Out) : Out :=
  if 2 ^ 32 < va.toNat + 4 * n then .fault .addressWrap else body

/-- A load of several registers that aborted (R751): each named physical register takes a free value. -/
def State.forgetRegs (s : State) (regs : List PhysReg) : State :=
  regs.foldl (fun t p => { t.draw.2 with regs := t.regs.set p t.draw.1 }) s

/-- The physical addresses of those of `n` words whose write would pass its checks (R751 "permitted"); the probes leave
no trace (entry 16). -/
def permittedWords (s : State) (va : Word) (user : Bool) : Nat → List Nat
  | 0 => []
  | n + 1 =>
    let rest := permittedWords s (va + 4) user n
    match dataAddress s va .word .write user with
    | .ok pa _ => pa.toNat :: rest
    | .abort _ _ => rest
    | .fault _ => rest
    | .refused _ => rest

/-- The physical addresses that a store of several words leaves open when it aborts (R673, R751): the words stored
before the abort, the aborting word if it passed its own checks, and the later words whose checks would pass. -/
def openWords (s : State) (va : Word) (user : Bool) : List Word → List Nat
  | [] => []
  | v :: vs =>
    match dataAddress s va .word .write user with
    | .ok pa t =>
      pa.toNat ::
        match writeAt t pa.toNat va .word v with
        | .ok _ t => openWords t (va + 4) user vs
        | .abort _ t => permittedWords t (va + 4) user vs.length
        | .fault _ => []
        | .refused _ => []
    | .abort _ t => permittedWords t (va + 4) user vs.length
    | .fault _ => []
    | .refused _ => []

/-- Words at physical addresses take free values, where there is memory. -/
def State.forgetWords (s : State) (pas : List Nat) : State :=
  pas.foldl (fun t pa => if backed t.cfg pa 4 then t.forgetAt pa .word else t) s

/-- A store of several words as an instruction makes it (R664, R673): `done` goes on when every word is stored. -/
def State.storeWords (s : State) (va : Word) (user : Bool) (values : List Word) (done : State → Out) : Out :=
  (writeWords s va user values).finish (fun _ t => done t)
    (fun i t => abortInstruction i (t.forgetWords (openWords s va user values)))

/-- The second register of a pair. -/
def pairOf (rd : Reg) : Reg := rd + 1

/-- The restrictions on the pair (R629): Rd even and not R14, the base of a writeback form not in the pair. -/
def pairAllowed (idx : IndexMode) (rn rd : Reg) : Bool :=
  !rd.getLsbD 0 && rd != 14#4 && writebackAllowed idx rn [rd, pairOf rd]

/-- LDRD (R629). -/
def State.loadPair (s : State) (idx : IndexMode) (u : Bool) (rn : Reg) (offset : Word) (rd : Reg) : Out :=
  let base := s.readReg rn
  let va := indexAddress idx u base offset
  if !pairAllowed idx rn rd then .refused .unpredictableOperands
  else
    ((checkPair s va .read).bind fun _ t =>
      (memRead t va .word s.user).bind fun d0 t =>
        (memRead t (va + 4) .word s.user).bind fun d1 t => .ok (d0, d1) t).finish
      (fun d t =>
        (((t.writeback rn (indexWriteback idx u base offset)).writeReg rd d.1).writeReg (pairOf rd) d.2).advance)
      (fun i t =>
        abortInstruction i
          (t.forgetRegs (([rd, pairOf rd].filter fun r => r != rn).map (bankedReg s.mode))))

/-- STRD (R630). -/
def State.storePair (s : State) (idx : IndexMode) (u : Bool) (rn : Reg) (offset : Word) (rd : Reg) : Out :=
  let base := s.readReg rn
  let va := indexAddress idx u base offset
  if !pairAllowed idx rn rd then .refused .unpredictableOperands
  else
    (checkPair s va .write).finish
      (fun _ t =>
        t.storeWords va s.user [s.readReg rd, s.readReg (pairOf rd)] fun t =>
          (t.writeback rn (indexWriteback idx u base offset)).advance)
      abortInstruction

/-- R629, immediate offset. -/
def execLdrdImm (c : Cond) (idx : IndexMode) (u : Bool) (rn rd : Reg) (off : BitVec 8) (s : State) : Out :=
  whenCond c s (s.loadPair idx u rn (off.setWidth 32) rd)

/-- R629, register offset: Rm is not in the pair. -/
def execLdrdReg (c : Cond) (idx : IndexMode) (u : Bool) (rn rd : Reg) (rm : Reg) (s : State) : Out :=
  whenCond c s (withOffsetReg idx rn rm
    (if rm = rd || rm = pairOf rd then .refused .unpredictableOperands
    else s.loadPair idx u rn (s.readReg rm) rd))

/-- R630, immediate offset. -/
def execStrdImm (c : Cond) (idx : IndexMode) (u : Bool) (rn rd : Reg) (off : BitVec 8) (s : State) : Out :=
  whenCond c s (s.storePair idx u rn (off.setWidth 32) rd)

/-- R630, register offset. -/
def execStrdReg (c : Cond) (idx : IndexMode) (u : Bool) (rn rd : Reg) (rm : Reg) (s : State) : Out :=
  whenCond c s (withOffsetReg idx rn rm (s.storePair idx u rn (s.readReg rm) rd))

/-! ### Preload -/

/-- R640: no effect on any architectural state. -/
def execPldImm (_u : Bool) (_rn : Reg) (_imm : BitVec 12) (s : State) : Out := s.advance

/-- R640, register offset: Rm is not R15 (R605 item 7, entry 21). -/
def execPldReg (_u : Bool) (_rn : Reg) (op : ImmShift) (s : State) : Out := withoutPC [op.rm] s.advance

/-! ### Exclusive access -/

/-- R651: the monitor tags the physical address of the word. -/
def execLdrex (c : Cond) (rn rd : Reg) (s : State) : Out :=
  let va := s.readReg rn
  whenCond c s (withoutPC [rn, rd]
    (((dataAddress s va .word .read s.user).bind fun pa t =>
      (readAt t pa.toNat va .word).bind fun v t => .ok (pa.toNat, v) t).finish
      (fun r t => ({ t.writeReg rd r.2 with excl := some r.1 }).advance)
      abortInstruction))

/-- R652: the translation and the checks of the store are made whether or not the monitor matches. -/
def execStrex (c : Cond) (rn rd rm : Reg) (s : State) : Out :=
  let va := s.readReg rn
  whenCond c s (withoutPC [rn, rd, rm]
    (if rd = rn || rd = rm then .refused .unpredictableOperands
    else
      ((dataAddress s va .word .write s.user).bind fun pa t =>
        if t.excl = some pa.toNat then
          (writeAt t pa.toNat va .word (s.readReg rm)).bind fun _ t => .ok 0#32 t
        else .ok 1#32 t).finish
        (fun status t => ({ t.writeReg rd status with excl := none }).advance)
        abortInstruction))

end Sys2Proof.Machine
end

