-- ==== Sys2Proof/Machine/LoadStoreMultiple.lean ====
section
/-!
DEFINITION. Load and store multiple, SRS, RFE and the semaphore instructions (48_load_store_multiple.md).
-/

namespace Sys2Proof.Machine

open Sys2Proof

/-- Write words to registers of a mode's bank, in order; R15 is left to the caller. -/
def State.writeRegs (s : State) (m : Mode) : List Reg → List Word → State
  | r :: rs, v :: vs => (if r = 15#4 then s else s.writeBank m r v).writeRegs m rs vs
  | _, _ => s

/-- The restrictions common to load and store multiple (R669). -/
def multipleAllowed (rn : Reg) (regs : List Reg) : Bool := !regs.isEmpty && rn != 15#4

/-- The registers an aborted load multiple leaves free (R751 rules 2, 4 and 5, entry 20): when it loads more than one,
every listed one but the PC and the base register. -/
def loadedRegs (current target : Mode) (rn : Reg) (regs : List Reg) : List PhysReg :=
  if regs.length ≤ 1 then []
  else ((regs.filter fun r => r != 15#4).map (bankedReg target)).filter fun p => p != bankedReg current rn

/-- The accesses of a load multiple (R661, R673); `done` goes on with the words loaded. -/
def State.loadMultiple (s : State) (am : AddrMode4) (rn : Reg) (regs : List Reg) (target : Mode)
    (done : List Word → State → Out) : Out :=
  let start := multipleStart am (s.readReg rn) regs.length
  inAddressSpace start regs.length
    ((readWords s start s.user regs.length).finish done
      (fun i t => abortInstruction i (t.forgetRegs (loadedRegs s.mode target rn regs))))

/-- The base register writeback of addressing mode 4 (R660). -/
def multipleWb (am : AddrMode4) (wb : Bool) (base : Word) (n : Nat) : Option Word :=
  if wb then some (multipleWriteback am base n) else none

/-- R661. The PC is the last register of a list that names it. -/
def execLdm1 (c : Cond) (am : AddrMode4) (wb : Bool) (rn : Reg) (list : BitVec 16) (s : State) : Out :=
  let regs := listRegs list
  whenCond c s
    (if !multipleAllowed rn regs || (wb && regs.contains rn) then .refused .unpredictableOperands
    else
      s.loadMultiple am rn regs s.mode fun vs t =>
        let t := (t.writeback rn (multipleWb am wb (s.readReg rn) regs.length)).writeRegs s.mode regs vs
        if list.getLsbD 15 then t.branchExchange (vs.getLastD 0) else t.advance)

/-- R662: the registers of the User bank are loaded; refused in User and System mode and with writeback. -/
def execLdm2 (c : Cond) (am : AddrMode4) (wb : Bool) (rn : Reg) (list : BitVec 15) (s : State) : Out :=
  let regs := listRegs (list.setWidth 16)
  whenCond c s
    (if !multipleAllowed rn regs || wb then .refused .unpredictableOperands
    else if (s.spsr.get s.mode).isNone then .refused .unpredictableInMode
    else s.loadMultiple am rn regs .usr fun vs t => (t.writeRegs .usr regs vs).advance)

/-- R663: the registers go to the bank of the old mode, then the exception return is made. -/
def execLdm3 (c : Cond) (am : AddrMode4) (wb : Bool) (rn : Reg) (list : BitVec 15) (s : State) : Out :=
  let regs := listRegs (1#1 ++ list)
  whenCond c s
    (if !multipleAllowed rn regs || (wb && regs.contains rn) then .refused .unpredictableOperands
    else if (s.spsr.get s.mode).isNone then .refused .noSpsr
    else
      s.loadMultiple am rn regs s.mode fun vs t =>
        ((t.writeback rn (multipleWb am wb (s.readReg rn) regs.length)).writeRegs s.mode regs vs).exceptionReturn
          (vs.getLastD 0))

/-- The accesses of a store multiple (R664, R673), then the writeback. -/
def State.storeMultiple (s : State) (am : AddrMode4) (rn : Reg) (wb : Bool) (values : List Word) : Out :=
  let n := values.length
  let start := multipleStart am (s.readReg rn) n
  inAddressSpace start n
    (s.storeWords start s.user values fun t => (t.writeback rn (multipleWb am wb (s.readReg rn) n)).advance)

/-- R664: a base that is written back may be in the list only as its lowest register (R669). -/
def execStm1 (c : Cond) (am : AddrMode4) (wb : Bool) (rn : Reg) (list : BitVec 16) (s : State) : Out :=
  let regs := listRegs list
  whenCond c s
    (if !multipleAllowed rn regs || (wb && regs.contains rn && regs.head? != some rn) then
      .refused .unpredictableOperands
    else s.storeMultiple am rn wb (regs.map s.storedReg))

/-- R665: the registers of the User bank are stored. -/
def execStm2 (c : Cond) (am : AddrMode4) (wb : Bool) (rn : Reg) (list : BitVec 16) (s : State) : Out :=
  let regs := listRegs list
  whenCond c s
    (if !multipleAllowed rn regs || wb then .refused .unpredictableOperands
    else if (s.spsr.get s.mode).isNone then .refused .unpredictableInMode
    else
      s.storeMultiple am rn false
        (regs.map fun r => if r = 15#4 then s.storedReg r else s.readBank .usr r))

/-- R666: unconditional; the base is the R13 of the named mode, which takes the writeback. -/
def execSrs (am : AddrMode4) (wb : Bool) (mode : BitVec 5) (s : State) : Out :=
  match s.spsr.get s.mode with
  | none => .refused .noSpsr
  | some p =>
    match Mode.ofBits mode with
    | none => .refused .illegalMode
    | some m =>
      let base := s.readBank m 13#4
      let start := multipleStart am base 2
      inAddressSpace start 2
        (s.storeWords start s.user [s.readReg 14#4, p.toWord] fun t =>
          (if wb then t.writeBank m 13#4 (multipleWriteback am base 2) else t).advance)

/-- R667: unconditional; refused in User mode. -/
def execRfe (am : AddrMode4) (wb : Bool) (rn : Reg) (s : State) : Out :=
  if !s.privileged then .refused .unpredictableInMode
  else
    withoutPC [rn]
      (let base := s.readReg rn
      let start := multipleStart am base 2
      inAddressSpace start 2
        ((readWords s start s.user 2).finish
          (fun vs t =>
            (t.writeback rn (multipleWb am wb base 2)).restore (Psr.ofWord (vs.getD 1 0)) (vs.getD 0 0))
          abortInstruction))

/-! ### Semaphores -/

/-- A swap (R670): the load, the store, then the register. -/
def State.swap (s : State) (rn rd rm : Reg) (size : AccessSize) (extend : Word → Word) : Out :=
  let va := s.readReg rn
  withoutPC [rn, rd, rm]
    (if rn = rm || rn = rd then .refused .unpredictableOperands
    else
      ((memRead s va size s.user).bind fun old t =>
        (memWrite t va size (s.readReg rm) s.user).bind fun _ t => .ok old t).finish
        (fun old t => (t.writeReg rd (extend old)).advance)
        abortInstruction)

/-- R670. -/
def execSwp (c : Cond) (rn rd rm : Reg) (s : State) : Out := whenCond c s (s.swap rn rd rm .word id)

/-- R671. -/
def execSwpb (c : Cond) (rn rd rm : Reg) (s : State) : Out := whenCond c s (s.swap rn rd rm .byte zeroByte)

end Sys2Proof.Machine
end

