-- ==== Sys2Proof/Machine/Media.lean ====
section
/-!
DEFINITION. Extend, count leading zeros, sums of absolute differences, pack, reverse, select and saturate
(45_extend_misc.md). R15 is no operand of any of them.
-/

namespace Sys2Proof.Machine

open Sys2Proof

/-! ### Extend -/

/-- The first step of every extend instruction (R540): Rm rotated right by eight times `rot`. -/
def rotated (x : Word) (rot : BitVec 2) : Word := shiftRor x (8 * rot.toNat)

/-- A field extended to `n` bits, by sign or by zeros (R540). -/
def extend {w : Nat} (signed : Bool) (n : Nat) (x : BitVec w) : BitVec n :=
  if signed then x.signExtend n else x.setWidth n

/-- Bytes 0 and 2 extended to halfwords and added to the halfwords of `base` (R541, R544, R547, R550). -/
def extendBytes16 (signed : Bool) (base r : Word) : Word :=
  (base.extractLsb' 16 16 + extend signed 16 (r.extractLsb' 16 8))
    ++ (base.extractLsb' 0 16 + extend signed 16 (r.extractLsb' 0 8))

/-- Byte 0 extended to a word and added to `base` (R542, R545, R548, R551). -/
def extendByte (signed : Bool) (base r : Word) : Word := base + extend signed 32 (r.extractLsb' 0 8)

/-- Halfword 0 extended to a word and added to `base` (R543, R546, R549, R552). -/
def extendHalf (signed : Bool) (base r : Word) : Word := base + extend signed 32 (r.extractLsb' 0 16)

/-- R541. -/
def execSxtab16 (c : Cond) (rn rd : Reg) (rot : BitVec 2) (rm : Reg) (s : State) : Out :=
  whenCond c s (withoutPC [rn, rd, rm]
    (s.finish rd (extendBytes16 true (s.readReg rn) (rotated (s.readReg rm) rot)) s.cpsr))

/-- R542. -/
def execSxtab (c : Cond) (rn rd : Reg) (rot : BitVec 2) (rm : Reg) (s : State) : Out :=
  whenCond c s (withoutPC [rn, rd, rm]
    (s.finish rd (extendByte true (s.readReg rn) (rotated (s.readReg rm) rot)) s.cpsr))

/-- R543. -/
def execSxtah (c : Cond) (rn rd : Reg) (rot : BitVec 2) (rm : Reg) (s : State) : Out :=
  whenCond c s (withoutPC [rn, rd, rm]
    (s.finish rd (extendHalf true (s.readReg rn) (rotated (s.readReg rm) rot)) s.cpsr))

/-- R544. -/
def execSxtb16 (c : Cond) (rd : Reg) (rot : BitVec 2) (rm : Reg) (s : State) : Out :=
  whenCond c s (withoutPC [rd, rm] (s.finish rd (extendBytes16 true 0 (rotated (s.readReg rm) rot)) s.cpsr))

/-- R545. -/
def execSxtb (c : Cond) (rd : Reg) (rot : BitVec 2) (rm : Reg) (s : State) : Out :=
  whenCond c s (withoutPC [rd, rm] (s.finish rd (extendByte true 0 (rotated (s.readReg rm) rot)) s.cpsr))

/-- R546. -/
def execSxth (c : Cond) (rd : Reg) (rot : BitVec 2) (rm : Reg) (s : State) : Out :=
  whenCond c s (withoutPC [rd, rm] (s.finish rd (extendHalf true 0 (rotated (s.readReg rm) rot)) s.cpsr))

/-- R547. -/
def execUxtab16 (c : Cond) (rn rd : Reg) (rot : BitVec 2) (rm : Reg) (s : State) : Out :=
  whenCond c s (withoutPC [rn, rd, rm]
    (s.finish rd (extendBytes16 false (s.readReg rn) (rotated (s.readReg rm) rot)) s.cpsr))

/-- R548. -/
def execUxtab (c : Cond) (rn rd : Reg) (rot : BitVec 2) (rm : Reg) (s : State) : Out :=
  whenCond c s (withoutPC [rn, rd, rm]
    (s.finish rd (extendByte false (s.readReg rn) (rotated (s.readReg rm) rot)) s.cpsr))

/-- R549. -/
def execUxtah (c : Cond) (rn rd : Reg) (rot : BitVec 2) (rm : Reg) (s : State) : Out :=
  whenCond c s (withoutPC [rn, rd, rm]
    (s.finish rd (extendHalf false (s.readReg rn) (rotated (s.readReg rm) rot)) s.cpsr))

/-- R550. -/
def execUxtb16 (c : Cond) (rd : Reg) (rot : BitVec 2) (rm : Reg) (s : State) : Out :=
  whenCond c s (withoutPC [rd, rm] (s.finish rd (extendBytes16 false 0 (rotated (s.readReg rm) rot)) s.cpsr))

/-- R551. -/
def execUxtb (c : Cond) (rd : Reg) (rot : BitVec 2) (rm : Reg) (s : State) : Out :=
  whenCond c s (withoutPC [rd, rm] (s.finish rd (extendByte false 0 (rotated (s.readReg rm) rot)) s.cpsr))

/-- R552. -/
def execUxth (c : Cond) (rd : Reg) (rot : BitVec 2) (rm : Reg) (s : State) : Out :=
  whenCond c s (withoutPC [rd, rm] (s.finish rd (extendHalf false 0 (rotated (s.readReg rm) rot)) s.cpsr))

/-! ### Miscellaneous arithmetic -/

/-- The number of zero bits above the first one, or 32 (R553). -/
def leadingZeros (x : Word) : Nat := ((List.range 32).find? fun i => x.getLsbD (31 - i)).getD 32

/-- R553. -/
def execClz (c : Cond) (rd rm : Reg) (s : State) : Out :=
  whenCond c s (withoutPC [rd, rm] (s.finish rd (BitVec.ofNat 32 (leadingZeros (s.readReg rm))) s.cpsr))

/-- The absolute difference of two bytes (R554). -/
def byteDistance (x y : Word) (i : Nat) : Nat :=
  ((((x.extractLsb' (8 * i) 8).toNat : Int) - ((y.extractLsb' (8 * i) 8).toNat : Int))).natAbs

/-- The sum of the four absolute differences (R554). -/
def sumDistances (x y : Word) : Nat :=
  byteDistance x y 0 + byteDistance x y 1 + byteDistance x y 2 + byteDistance x y 3

/-- R554. -/
def execUsad8 (c : Cond) (rd rs rm : Reg) (s : State) : Out :=
  whenCond c s (withoutPC [rd, rs, rm]
    (s.finish rd (BitVec.ofNat 32 (sumDistances (s.readReg rm) (s.readReg rs))) s.cpsr))

/-- R558. -/
def execUsada8 (c : Cond) (rd rn rs rm : Reg) (s : State) : Out :=
  whenCond c s (withoutPC [rd, rn, rs, rm]
    (s.finish rd (s.readReg rn + BitVec.ofNat 32 (sumDistances (s.readReg rm) (s.readReg rs))) s.cpsr))

/-! ### Pack, reverse, select -/

/-- R559. -/
def execPkhbt (c : Cond) (rn rd : Reg) (imm : BitVec 5) (rm : Reg) (s : State) : Out :=
  whenCond c s (withoutPC [rn, rd, rm]
    (s.finish rd
      ((shiftLsl (s.readReg rm) imm.toNat).extractLsb' 16 16 ++ (s.readReg rn).extractLsb' 0 16) s.cpsr))

/-- The amount of an arithmetic right shift that encodes 32 as 0 (R560, R563). -/
def asrAmount (imm : BitVec 5) : Nat := if imm = 0 then 32 else imm.toNat

/-- R560. -/
def execPkhtb (c : Cond) (rn rd : Reg) (imm : BitVec 5) (rm : Reg) (s : State) : Out :=
  whenCond c s (withoutPC [rn, rd, rm]
    (s.finish rd
      ((s.readReg rn).extractLsb' 16 16 ++ (shiftAsr (s.readReg rm) (asrAmount imm)).extractLsb' 0 16) s.cpsr))

/-- Byte `i` of a word. -/
def byteOf (x : Word) (i : Nat) : Byte := x.extractLsb' (8 * i) 8

/-- R555. -/
def execRev (c : Cond) (rd rm : Reg) (s : State) : Out :=
  let x := s.readReg rm
  whenCond c s (withoutPC [rd, rm]
    (s.finish rd (byteOf x 0 ++ byteOf x 1 ++ byteOf x 2 ++ byteOf x 3) s.cpsr))

/-- R556. -/
def execRev16 (c : Cond) (rd rm : Reg) (s : State) : Out :=
  let x := s.readReg rm
  whenCond c s (withoutPC [rd, rm]
    (s.finish rd (byteOf x 2 ++ byteOf x 3 ++ byteOf x 0 ++ byteOf x 1) s.cpsr))

/-- R557. -/
def execRevsh (c : Cond) (rd rm : Reg) (s : State) : Out :=
  let x := s.readReg rm
  whenCond c s (withoutPC [rd, rm] (s.finish rd ((byteOf x 0 ++ byteOf x 1).signExtend 32) s.cpsr))

/-- R562. -/
def execSel (c : Cond) (rn rd rm : Reg) (s : State) : Out :=
  let pick := fun i => if s.cpsr.ge.getLsbD i then byteOf (s.readReg rn) i else byteOf (s.readReg rm) i
  whenCond c s (withoutPC [rn, rd, rm] (s.finish rd (pick 3 ++ pick 2 ++ pick 1 ++ pick 0) s.cpsr))

/-! ### Saturation -/

/-- A saturated integer, and whether it saturated (R561). -/
structure Saturated where
  value : Int
  sat : Bool
  deriving DecidableEq, Repr

/-- `SignedSat` (R561). -/
def signedSat (x : Int) (n : Nat) : Saturated :=
  let r := min (max x (-2 ^ (n - 1))) (2 ^ (n - 1) - 1)
  ⟨r, r != x⟩

/-- `UnsignedSat` (R561). -/
def unsignedSat (x : Int) (n : Nat) : Saturated :=
  let r := min (max x 0) (2 ^ n - 1)
  ⟨r, r != x⟩

/-- The end of a saturating instruction (R561): Q is set on saturation. -/
def State.saturatedResult (s : State) (rd : Reg) (r : Saturated) : Out :=
  s.finish rd (BitVec.ofInt 32 r.value) (s.cpsr.orQ r.sat)

/-- The end of a saturating instruction on two halves (R564). -/
def State.saturatedHalves (s : State) (rd : Reg) (top bottom : Saturated) : Out :=
  s.finish rd (BitVec.ofInt 16 top.value ++ BitVec.ofInt 16 bottom.value) (s.cpsr.orQ (bottom.sat || top.sat))

/-- The shifted operand of SSAT and USAT (R563). -/
def saturateOperand (x : Word) (imm : BitVec 5) (sh : Bool) : Int :=
  (if sh then shiftAsr x (asrAmount imm) else shiftLsl x imm.toNat).toInt

/-- R563. -/
def execSsat (c : Cond) (sat : BitVec 5) (rd : Reg) (imm : BitVec 5) (sh : Bool) (rm : Reg) (s : State) : Out :=
  whenCond c s (withoutPC [rd, rm]
    (s.saturatedResult rd (signedSat (saturateOperand (s.readReg rm) imm sh) (sat.toNat + 1))))

/-- R565. -/
def execUsat (c : Cond) (sat : BitVec 5) (rd : Reg) (imm : BitVec 5) (sh : Bool) (rm : Reg) (s : State) : Out :=
  whenCond c s (withoutPC [rd, rm]
    (s.saturatedResult rd (unsignedSat (saturateOperand (s.readReg rm) imm sh) sat.toNat)))

/-- R564. -/
def execSsat16 (c : Cond) (sat : BitVec 4) (rd rm : Reg) (s : State) : Out :=
  let x := s.readReg rm
  whenCond c s (withoutPC [rd, rm]
    (s.saturatedHalves rd (signedSat (x.extractLsb' 16 16).toInt (sat.toNat + 1))
      (signedSat (x.extractLsb' 0 16).toInt (sat.toNat + 1))))

/-- R566. -/
def execUsat16 (c : Cond) (sat : BitVec 4) (rd rm : Reg) (s : State) : Out :=
  let x := s.readReg rm
  whenCond c s (withoutPC [rd, rm]
    (s.saturatedHalves rd (unsignedSat (x.extractLsb' 16 16).toInt sat.toNat)
      (unsignedSat (x.extractLsb' 0 16).toInt sat.toNat)))

/-- R567. -/
def execQadd (c : Cond) (rn rd rm : Reg) (s : State) : Out :=
  whenCond c s (withoutPC [rn, rd, rm]
    (s.saturatedResult rd (signedSat ((s.readReg rm).toInt + (s.readReg rn).toInt) 32)))

/-- R568. -/
def execQsub (c : Cond) (rn rd rm : Reg) (s : State) : Out :=
  whenCond c s (withoutPC [rn, rd, rm]
    (s.saturatedResult rd (signedSat ((s.readReg rm).toInt - (s.readReg rn).toInt) 32)))

/-- The doubled and saturated Rn of QDADD and QDSUB (R569). -/
def doubled (x : Word) : Saturated := signedSat (2 * x.toInt) 32

/-- R569: Q is set if either step saturates. -/
def execQdadd (c : Cond) (rn rd rm : Reg) (s : State) : Out :=
  let d := doubled (s.readReg rn)
  let r := signedSat ((s.readReg rm).toInt + d.value) 32
  whenCond c s (withoutPC [rn, rd, rm] (s.saturatedResult rd ⟨r.value, d.sat || r.sat⟩))

/-- R571. -/
def execQdsub (c : Cond) (rn rd rm : Reg) (s : State) : Out :=
  let d := doubled (s.readReg rn)
  let r := signedSat ((s.readReg rm).toInt - d.value) 32
  whenCond c s (withoutPC [rn, rd, rm] (s.saturatedResult rd ⟨r.value, d.sat || r.sat⟩))

end Sys2Proof.Machine
end

