-- ==== Sys2Proof/Machine/Multiply.lean ====
section
/-!
DEFINITION. The multiply instructions (43_multiply.md). Products and sums are exact integers; a result is cut to its
width at the end.
-/

namespace Sys2Proof.Machine

open Sys2Proof

/-- The N and Z flags an S form takes from its 32-bit result (R453). -/
def nz32 (p : Psr) (sf : Bool) (v : Word) : Psr := if sf then p.setNZ (v.getLsbD 31) (v == 0) else p

/-- The N and Z flags an S form takes from its 64-bit result (R455). -/
def nz64 (p : Psr) (sf : Bool) (v : BitVec 64) : Psr := if sf then p.setNZ (v.getLsbD 63) (v == 0) else p

/-- A half of a register as a signed integer: the top one or the bottom one (R450). -/
def half (top : Bool) (w : Word) : Int := if top then (w.extractLsb' 16 16).toInt else (w.extractLsb' 0 16).toInt

/-- Whether an accumulation overflows a signed 32-bit result (R452). -/
def overflows32 (x : Int) : Bool := decide (x < -2 ^ 31) || decide (2 ^ 31 ≤ x)

/-- R450: in a 64-bit destination RdHi = RdLo is UNPREDICTABLE (R451). -/
def distinct (hi lo : Reg) (body : Out) : Out := if hi = lo then .refused .unpredictableOperands else body

/-- The 64-bit accumulator a register pair holds. -/
def State.readPair (s : State) (hi lo : Reg) : BitVec 64 := s.readReg hi ++ s.readReg lo

/-- The accumulation that sets Q on overflow and is not saturated (R452). -/
def State.accumulate (s : State) (rd : Reg) (sum : Int) : Out :=
  s.finish rd (BitVec.ofInt 32 sum) (s.cpsr.orQ (overflows32 sum))

/-! ### Normal and long multiply -/

/-- R453. -/
def execMul (c : Cond) (sf : Bool) (rd rs rm : Reg) (s : State) : Out :=
  let v := s.readReg rm * s.readReg rs
  whenCond c s (withoutPC [rd, rs, rm] (s.finish rd v (nz32 s.cpsr sf v)))

/-- R454. -/
def execMla (c : Cond) (sf : Bool) (rd rn rs rm : Reg) (s : State) : Out :=
  let v := s.readReg rm * s.readReg rs + s.readReg rn
  whenCond c s (withoutPC [rd, rn, rs, rm] (s.finish rd v (nz32 s.cpsr sf v)))

/-- The unsigned 64-bit product (R455). -/
def mulUnsigned (x y : Word) : BitVec 64 := x.setWidth 64 * y.setWidth 64

/-- The signed 64-bit product (R457). -/
def mulSigned (x y : Word) : BitVec 64 := x.signExtend 64 * y.signExtend 64

/-- R459. -/
def execUmaal (c : Cond) (rdHi rdLo rs rm : Reg) (s : State) : Out :=
  whenCond c s (withoutPC [rdHi, rdLo, rs, rm] (distinct rdHi rdLo
    (s.finishPair rdHi rdLo
      (mulUnsigned (s.readReg rm) (s.readReg rs) + (s.readReg rdLo).setWidth 64 + (s.readReg rdHi).setWidth 64)
      s.cpsr)))

/-- R455. -/
def execUmull (c : Cond) (sf : Bool) (rdHi rdLo rs rm : Reg) (s : State) : Out :=
  let v := mulUnsigned (s.readReg rm) (s.readReg rs)
  whenCond c s (withoutPC [rdHi, rdLo, rs, rm] (distinct rdHi rdLo
    (s.finishPair rdHi rdLo v (nz64 s.cpsr sf v))))

/-- R456. -/
def execUmlal (c : Cond) (sf : Bool) (rdHi rdLo rs rm : Reg) (s : State) : Out :=
  let v := mulUnsigned (s.readReg rm) (s.readReg rs) + s.readPair rdHi rdLo
  whenCond c s (withoutPC [rdHi, rdLo, rs, rm] (distinct rdHi rdLo
    (s.finishPair rdHi rdLo v (nz64 s.cpsr sf v))))

/-- R457. -/
def execSmull (c : Cond) (sf : Bool) (rdHi rdLo rs rm : Reg) (s : State) : Out :=
  let v := mulSigned (s.readReg rm) (s.readReg rs)
  whenCond c s (withoutPC [rdHi, rdLo, rs, rm] (distinct rdHi rdLo
    (s.finishPair rdHi rdLo v (nz64 s.cpsr sf v))))

/-- R458. -/
def execSmlal (c : Cond) (sf : Bool) (rdHi rdLo rs rm : Reg) (s : State) : Out :=
  let v := mulSigned (s.readReg rm) (s.readReg rs) + s.readPair rdHi rdLo
  whenCond c s (withoutPC [rdHi, rdLo, rs, rm] (distinct rdHi rdLo
    (s.finishPair rdHi rdLo v (nz64 s.cpsr sf v))))

/-! ### Halfword and word by halfword -/

/-- R460: no flag is written. -/
def execSmulxy (c : Cond) (rd rs : Reg) (y x : Bool) (rm : Reg) (s : State) : Out :=
  whenCond c s (withoutPC [rd, rs, rm]
    (s.finish rd (BitVec.ofInt 32 (half x (s.readReg rm) * half y (s.readReg rs))) s.cpsr))

/-- R461. -/
def execSmlaxy (c : Cond) (rd rn rs : Reg) (y x : Bool) (rm : Reg) (s : State) : Out :=
  whenCond c s (withoutPC [rd, rn, rs, rm]
    (s.accumulate rd (half x (s.readReg rm) * half y (s.readReg rs) + (s.readReg rn).toInt)))

/-- R462. -/
def execSmlalxy (c : Cond) (rdHi rdLo rs : Reg) (y x : Bool) (rm : Reg) (s : State) : Out :=
  whenCond c s (withoutPC [rdHi, rdLo, rs, rm] (distinct rdHi rdLo
    (s.finishPair rdHi rdLo
      (BitVec.ofInt 64 (half x (s.readReg rm) * half y (s.readReg rs) + (s.readPair rdHi rdLo).toInt)) s.cpsr)))

/-- Bits [47:16] of a word times a half (R463). -/
def mulWordHalf (w : Word) (h : Int) : Word := (BitVec.ofInt 48 (w.toInt * h)).extractLsb' 16 32

/-- R463. -/
def execSmulwy (c : Cond) (rd rs : Reg) (y : Bool) (rm : Reg) (s : State) : Out :=
  whenCond c s (withoutPC [rd, rs, rm]
    (s.finish rd (mulWordHalf (s.readReg rm) (half y (s.readReg rs))) s.cpsr))

/-- R464. -/
def execSmlawy (c : Cond) (rd rn rs : Reg) (y : Bool) (rm : Reg) (s : State) : Out :=
  whenCond c s (withoutPC [rd, rn, rs, rm]
    (s.accumulate rd ((mulWordHalf (s.readReg rm) (half y (s.readReg rs))).toInt + (s.readReg rn).toInt)))

/-! ### Most significant word -/

/-- Bits [63:32] of a sum, after the rounding constant if `r` (R465). -/
def topWord (x : Int) (r : Bool) : Word :=
  (BitVec.ofInt 64 (x + if r then 0x80000000 else 0)).extractLsb' 32 32

/-- R465. -/
def execSmmul (c : Cond) (rd rs : Reg) (r : Bool) (rm : Reg) (s : State) : Out :=
  whenCond c s (withoutPC [rd, rs, rm]
    (s.finish rd (topWord ((s.readReg rm).toInt * (s.readReg rs).toInt) r) s.cpsr))

/-- R466: the accumulator is aligned with the top word before the addition. -/
def execSmmla (c : Cond) (rd rn rs : Reg) (r : Bool) (rm : Reg) (s : State) : Out :=
  whenCond c s (withoutPC [rd, rn, rs, rm]
    (s.finish rd
      (topWord ((s.readReg rn).toInt * 2 ^ 32 + (s.readReg rm).toInt * (s.readReg rs).toInt) r) s.cpsr))

/-- R467. With bits[15:12] = 1111 it is refused as R451 and R467 say, though a row of 93_implementation_defined.md
speaks of a decoding as the non-accumulating form (DEDUCED, entry 29). -/
def execSmmls (c : Cond) (rd rn rs : Reg) (r : Bool) (rm : Reg) (s : State) : Out :=
  whenCond c s (withoutPC [rd, rn, rs, rm]
    (s.finish rd
      (topWord ((s.readReg rn).toInt * 2 ^ 32 - (s.readReg rm).toInt * (s.readReg rs).toInt) r) s.cpsr))

/-! ### Dual halfword -/

/-- The bottom product `p1` of the dual forms; with `x` the halves of Rs are exchanged first. -/
def bottomProduct (rm rs : Word) (x : Bool) : Int := half false rm * half x rs

/-- The top product `p2` of the dual forms. -/
def topProduct (rm rs : Word) (x : Bool) : Int := half true rm * half (!x) rs

/-- R468: only the positive overflow can occur. -/
def execSmuad (c : Cond) (rd rs : Reg) (x : Bool) (rm : Reg) (s : State) : Out :=
  let m := s.readReg rm
  let n := s.readReg rs
  whenCond c s (withoutPC [rd, rs, rm] (s.accumulate rd (bottomProduct m n x + topProduct m n x)))

/-- R469: bottom product minus top product, no flag. -/
def execSmusd (c : Cond) (rd rs : Reg) (x : Bool) (rm : Reg) (s : State) : Out :=
  let m := s.readReg rm
  let n := s.readReg rs
  whenCond c s (withoutPC [rd, rs, rm]
    (s.finish rd (BitVec.ofInt 32 (bottomProduct m n x - topProduct m n x)) s.cpsr))

/-- R470. -/
def execSmlad (c : Cond) (rd rn rs : Reg) (x : Bool) (rm : Reg) (s : State) : Out :=
  let m := s.readReg rm
  let n := s.readReg rs
  whenCond c s (withoutPC [rd, rn, rs, rm]
    (s.accumulate rd ((s.readReg rn).toInt + bottomProduct m n x + topProduct m n x)))

/-- R471. -/
def execSmlsd (c : Cond) (rd rn rs : Reg) (x : Bool) (rm : Reg) (s : State) : Out :=
  let m := s.readReg rm
  let n := s.readReg rs
  whenCond c s (withoutPC [rd, rn, rs, rm]
    (s.accumulate rd ((s.readReg rn).toInt + bottomProduct m n x - topProduct m n x)))

/-- R472. -/
def execSmlald (c : Cond) (rdHi rdLo rs : Reg) (x : Bool) (rm : Reg) (s : State) : Out :=
  let m := s.readReg rm
  let n := s.readReg rs
  whenCond c s (withoutPC [rdHi, rdLo, rs, rm] (distinct rdHi rdLo
    (s.finishPair rdHi rdLo
      (BitVec.ofInt 64 ((s.readPair rdHi rdLo).toInt + bottomProduct m n x + topProduct m n x)) s.cpsr)))

/-- R473. -/
def execSmlsld (c : Cond) (rdHi rdLo rs : Reg) (x : Bool) (rm : Reg) (s : State) : Out :=
  let m := s.readReg rm
  let n := s.readReg rs
  whenCond c s (withoutPC [rdHi, rdLo, rs, rm] (distinct rdHi rdLo
    (s.finishPair rdHi rdLo
      (BitVec.ofInt 64 ((s.readPair rdHi rdLo).toInt + bottomProduct m n x - topProduct m n x)) s.cpsr)))

end Sys2Proof.Machine
end

