-- ==== Sys2Proof/Machine/Parallel.lean ====
section
/-!
DEFINITION. The thirty-six parallel additions and subtractions (44_parallel_addsub.md).
-/

namespace Sys2Proof.Machine

open Sys2Proof

/-- The six prefixes of R493. -/
inductive ParallelPrefix where
  | s | q | sh | u | uq | uh
  deriving DecidableEq, Repr

/-- Whether the lanes are read as signed integers (R493). -/
def ParallelPrefix.signed : ParallelPrefix → Bool
  | .s => true | .q => true | .sh => true | .u => false | .uq => false | .uh => false

/-- Whether the instruction writes the GE flags (R491). -/
def ParallelPrefix.writesGE : ParallelPrefix → Bool
  | .s => true | .u => true | .q => false | .sh => false | .uq => false | .uh => false

/-- The exact result of a lane (R492). -/
def laneExact {w : Nat} (p : ParallelPrefix) (sub : Bool) (a b : BitVec w) : Int :=
  let x := if p.signed then a.toInt else (a.toNat : Int)
  let y := if p.signed then b.toInt else (b.toNat : Int)
  if sub then x - y else x + y

/-- The result field a prefix makes of an exact lane result (R493). -/
def laneField (p : ParallelPrefix) (w : Nat) (x : Int) : BitVec w :=
  match p with
  | .s => BitVec.ofInt w x
  | .u => BitVec.ofInt w x
  | .q => BitVec.ofInt w (min (max x (-2 ^ (w - 1))) (2 ^ (w - 1) - 1))
  | .uq => BitVec.ofInt w (min (max x 0) (2 ^ w - 1))
  | .sh => BitVec.ofInt w (x / 2)
  | .uh => BitVec.ofInt w (x / 2)

/-- The GE condition on an exact lane result (R491). -/
def laneGE (p : ParallelPrefix) (sub : Bool) (w : Nat) (x : Int) : Bool :=
  if p.signed || sub then decide (0 ≤ x) else decide (2 ^ w ≤ x)

/-- A parallel result with the GE bits it would set. -/
structure ParallelResult where
  value : Word
  ge : BitVec 4
  deriving DecidableEq, Repr

/-- The halfword operations (R492): each lane adds or subtracts; `exchange` swaps the halves of the second operand. -/
def parallel16 (p : ParallelPrefix) (subTop subBottom exchange : Bool) (a b : Word) : ParallelResult :=
  let top := laneExact p subTop (a.extractLsb' 16 16) (b.extractLsb' (if exchange then 0 else 16) 16)
  let bottom := laneExact p subBottom (a.extractLsb' 0 16) (b.extractLsb' (if exchange then 16 else 0) 16)
  ⟨laneField p 16 top ++ laneField p 16 bottom, geHalves (laneGE p subTop 16 top) (laneGE p subBottom 16 bottom)⟩

/-- The byte operations (R492). -/
def parallel8 (p : ParallelPrefix) (sub : Bool) (a b : Word) : ParallelResult :=
  let x := fun i => laneExact p sub (a.extractLsb' (8 * i) 8) (b.extractLsb' (8 * i) 8)
  ⟨laneField p 8 (x 3) ++ laneField p 8 (x 2) ++ laneField p 8 (x 1) ++ laneField p 8 (x 0),
    geBytes (laneGE p sub 8 (x 3)) (laneGE p sub 8 (x 2)) (laneGE p sub 8 (x 1)) (laneGE p sub 8 (x 0))⟩

/-- The end of a parallel instruction (R493): the result, and the GE flags for the prefixes S and U. -/
def State.parallelResult (s : State) (p : ParallelPrefix) (rd : Reg) (r : ParallelResult) : Out :=
  s.finish rd r.value (if p.writesGE then s.cpsr.setGE r.ge else s.cpsr)

/-! ### The instructions: R15 is no operand (R490) -/

/-- R494. -/
def execSadd16 (c : Cond) (rn rd rm : Reg) (s : State) : Out :=
  whenCond c s (withoutPC [rn, rd, rm]
    (s.parallelResult .s rd (parallel16 .s false false false (s.readReg rn) (s.readReg rm))))

/-- R495. -/
def execSaddsubx (c : Cond) (rn rd rm : Reg) (s : State) : Out :=
  whenCond c s (withoutPC [rn, rd, rm]
    (s.parallelResult .s rd (parallel16 .s false true true (s.readReg rn) (s.readReg rm))))

/-- R496. -/
def execSsubaddx (c : Cond) (rn rd rm : Reg) (s : State) : Out :=
  whenCond c s (withoutPC [rn, rd, rm]
    (s.parallelResult .s rd (parallel16 .s true false true (s.readReg rn) (s.readReg rm))))

/-- R497. -/
def execSsub16 (c : Cond) (rn rd rm : Reg) (s : State) : Out :=
  whenCond c s (withoutPC [rn, rd, rm]
    (s.parallelResult .s rd (parallel16 .s true true false (s.readReg rn) (s.readReg rm))))

/-- R498. -/
def execSadd8 (c : Cond) (rn rd rm : Reg) (s : State) : Out :=
  whenCond c s (withoutPC [rn, rd, rm]
    (s.parallelResult .s rd (parallel8 .s false (s.readReg rn) (s.readReg rm))))

/-- R499. -/
def execSsub8 (c : Cond) (rn rd rm : Reg) (s : State) : Out :=
  whenCond c s (withoutPC [rn, rd, rm]
    (s.parallelResult .s rd (parallel8 .s true (s.readReg rn) (s.readReg rm))))

/-- R500. -/
def execQadd16 (c : Cond) (rn rd rm : Reg) (s : State) : Out :=
  whenCond c s (withoutPC [rn, rd, rm]
    (s.parallelResult .q rd (parallel16 .q false false false (s.readReg rn) (s.readReg rm))))

/-- R501. -/
def execQaddsubx (c : Cond) (rn rd rm : Reg) (s : State) : Out :=
  whenCond c s (withoutPC [rn, rd, rm]
    (s.parallelResult .q rd (parallel16 .q false true true (s.readReg rn) (s.readReg rm))))

/-- R502. -/
def execQsubaddx (c : Cond) (rn rd rm : Reg) (s : State) : Out :=
  whenCond c s (withoutPC [rn, rd, rm]
    (s.parallelResult .q rd (parallel16 .q true false true (s.readReg rn) (s.readReg rm))))

/-- R503. -/
def execQsub16 (c : Cond) (rn rd rm : Reg) (s : State) : Out :=
  whenCond c s (withoutPC [rn, rd, rm]
    (s.parallelResult .q rd (parallel16 .q true true false (s.readReg rn) (s.readReg rm))))

/-- R504. -/
def execQadd8 (c : Cond) (rn rd rm : Reg) (s : State) : Out :=
  whenCond c s (withoutPC [rn, rd, rm]
    (s.parallelResult .q rd (parallel8 .q false (s.readReg rn) (s.readReg rm))))

/-- R505. -/
def execQsub8 (c : Cond) (rn rd rm : Reg) (s : State) : Out :=
  whenCond c s (withoutPC [rn, rd, rm]
    (s.parallelResult .q rd (parallel8 .q true (s.readReg rn) (s.readReg rm))))

/-- R506. -/
def execShadd16 (c : Cond) (rn rd rm : Reg) (s : State) : Out :=
  whenCond c s (withoutPC [rn, rd, rm]
    (s.parallelResult .sh rd (parallel16 .sh false false false (s.readReg rn) (s.readReg rm))))

/-- R507. -/
def execShaddsubx (c : Cond) (rn rd rm : Reg) (s : State) : Out :=
  whenCond c s (withoutPC [rn, rd, rm]
    (s.parallelResult .sh rd (parallel16 .sh false true true (s.readReg rn) (s.readReg rm))))

/-- R508. -/
def execShsubaddx (c : Cond) (rn rd rm : Reg) (s : State) : Out :=
  whenCond c s (withoutPC [rn, rd, rm]
    (s.parallelResult .sh rd (parallel16 .sh true false true (s.readReg rn) (s.readReg rm))))

/-- R509. -/
def execShsub16 (c : Cond) (rn rd rm : Reg) (s : State) : Out :=
  whenCond c s (withoutPC [rn, rd, rm]
    (s.parallelResult .sh rd (parallel16 .sh true true false (s.readReg rn) (s.readReg rm))))

/-- R510. -/
def execShadd8 (c : Cond) (rn rd rm : Reg) (s : State) : Out :=
  whenCond c s (withoutPC [rn, rd, rm]
    (s.parallelResult .sh rd (parallel8 .sh false (s.readReg rn) (s.readReg rm))))

/-- R511. -/
def execShsub8 (c : Cond) (rn rd rm : Reg) (s : State) : Out :=
  whenCond c s (withoutPC [rn, rd, rm]
    (s.parallelResult .sh rd (parallel8 .sh true (s.readReg rn) (s.readReg rm))))

/-- R512. -/
def execUadd16 (c : Cond) (rn rd rm : Reg) (s : State) : Out :=
  whenCond c s (withoutPC [rn, rd, rm]
    (s.parallelResult .u rd (parallel16 .u false false false (s.readReg rn) (s.readReg rm))))

/-- R513. -/
def execUaddsubx (c : Cond) (rn rd rm : Reg) (s : State) : Out :=
  whenCond c s (withoutPC [rn, rd, rm]
    (s.parallelResult .u rd (parallel16 .u false true true (s.readReg rn) (s.readReg rm))))

/-- R514. -/
def execUsubaddx (c : Cond) (rn rd rm : Reg) (s : State) : Out :=
  whenCond c s (withoutPC [rn, rd, rm]
    (s.parallelResult .u rd (parallel16 .u true false true (s.readReg rn) (s.readReg rm))))

/-- R515. -/
def execUsub16 (c : Cond) (rn rd rm : Reg) (s : State) : Out :=
  whenCond c s (withoutPC [rn, rd, rm]
    (s.parallelResult .u rd (parallel16 .u true true false (s.readReg rn) (s.readReg rm))))

/-- R516. -/
def execUadd8 (c : Cond) (rn rd rm : Reg) (s : State) : Out :=
  whenCond c s (withoutPC [rn, rd, rm]
    (s.parallelResult .u rd (parallel8 .u false (s.readReg rn) (s.readReg rm))))

/-- R517. -/
def execUsub8 (c : Cond) (rn rd rm : Reg) (s : State) : Out :=
  whenCond c s (withoutPC [rn, rd, rm]
    (s.parallelResult .u rd (parallel8 .u true (s.readReg rn) (s.readReg rm))))

/-- R518. -/
def execUqadd16 (c : Cond) (rn rd rm : Reg) (s : State) : Out :=
  whenCond c s (withoutPC [rn, rd, rm]
    (s.parallelResult .uq rd (parallel16 .uq false false false (s.readReg rn) (s.readReg rm))))

/-- R519. -/
def execUqaddsubx (c : Cond) (rn rd rm : Reg) (s : State) : Out :=
  whenCond c s (withoutPC [rn, rd, rm]
    (s.parallelResult .uq rd (parallel16 .uq false true true (s.readReg rn) (s.readReg rm))))

/-- R520. -/
def execUqsubaddx (c : Cond) (rn rd rm : Reg) (s : State) : Out :=
  whenCond c s (withoutPC [rn, rd, rm]
    (s.parallelResult .uq rd (parallel16 .uq true false true (s.readReg rn) (s.readReg rm))))

/-- R521. -/
def execUqsub16 (c : Cond) (rn rd rm : Reg) (s : State) : Out :=
  whenCond c s (withoutPC [rn, rd, rm]
    (s.parallelResult .uq rd (parallel16 .uq true true false (s.readReg rn) (s.readReg rm))))

/-- R522. -/
def execUqadd8 (c : Cond) (rn rd rm : Reg) (s : State) : Out :=
  whenCond c s (withoutPC [rn, rd, rm]
    (s.parallelResult .uq rd (parallel8 .uq false (s.readReg rn) (s.readReg rm))))

/-- R523. -/
def execUqsub8 (c : Cond) (rn rd rm : Reg) (s : State) : Out :=
  whenCond c s (withoutPC [rn, rd, rm]
    (s.parallelResult .uq rd (parallel8 .uq true (s.readReg rn) (s.readReg rm))))

/-- R524. -/
def execUhadd16 (c : Cond) (rn rd rm : Reg) (s : State) : Out :=
  whenCond c s (withoutPC [rn, rd, rm]
    (s.parallelResult .uh rd (parallel16 .uh false false false (s.readReg rn) (s.readReg rm))))

/-- R525. -/
def execUhaddsubx (c : Cond) (rn rd rm : Reg) (s : State) : Out :=
  whenCond c s (withoutPC [rn, rd, rm]
    (s.parallelResult .uh rd (parallel16 .uh false true true (s.readReg rn) (s.readReg rm))))

/-- R526. -/
def execUhsubaddx (c : Cond) (rn rd rm : Reg) (s : State) : Out :=
  whenCond c s (withoutPC [rn, rd, rm]
    (s.parallelResult .uh rd (parallel16 .uh true false true (s.readReg rn) (s.readReg rm))))

/-- R527. -/
def execUhsub16 (c : Cond) (rn rd rm : Reg) (s : State) : Out :=
  whenCond c s (withoutPC [rn, rd, rm]
    (s.parallelResult .uh rd (parallel16 .uh true true false (s.readReg rn) (s.readReg rm))))

/-- R528. -/
def execUhadd8 (c : Cond) (rn rd rm : Reg) (s : State) : Out :=
  whenCond c s (withoutPC [rn, rd, rm]
    (s.parallelResult .uh rd (parallel8 .uh false (s.readReg rn) (s.readReg rm))))

/-- R529. -/
def execUhsub8 (c : Cond) (rn rd rm : Reg) (s : State) : Out :=
  whenCond c s (withoutPC [rn, rd, rm]
    (s.parallelResult .uh rd (parallel8 .uh true (s.readReg rn) (s.readReg rm))))

end Sys2Proof.Machine
end

