-- ==== Sys2Proof/Machine/StatusRegister.lean ====
section
/-!
DEFINITION. Status register access: MRS, MSR, CPS and SETEND (46_status_register.md).
-/

namespace Sys2Proof.Machine

open Sys2Proof

/-- The bits that can be written from any mode (R593). -/
def userMask : Word := 0xF80F0200#32
/-- The bits that only a privileged mode can write (R593). -/
def privMask : Word := 0x000001DF#32
/-- The execution state bits J and T (R593). -/
def stateMask : Word := 0x01000020#32

/-- `ByteMask` (R593). -/
def byteMask (fm : BitVec 4) : Word :=
  (if fm.getLsbD 3 then 0xFF#8 else 0) ++ (if fm.getLsbD 2 then 0xFF#8 else 0)
    ++ (if fm.getLsbD 1 then 0xFF#8 else 0) ++ (if fm.getLsbD 0 then 0xFF#8 else 0)

/-- A status register after the bits of `mask` have been written from `operand` (R592). -/
def Psr.writeMasked (p : Psr) (mask operand : Word) : Psr :=
  Psr.ofWord ((p.toWord &&& ~~~mask) ||| (operand &&& mask))

/-- R591: the SPSR exists only in an exception mode (R49). -/
def execMrs (c : Cond) (r : Bool) (rd : Reg) (s : State) : Out :=
  whenCond c s (withoutPC [rd]
    (if r then
      match s.spsr.get s.mode with
      | none => .refused .noSpsr
      | some p => s.finish rd p.toWord s.cpsr
    else s.finish rd s.cpsr.toWord s.cpsr))

/-- MSR to the CPSR (R592): the privilege test uses the mode before the write. -/
def State.msrCpsr (s : State) (mask : BitVec 4) (operand : Word) : Out :=
  let bm := byteMask mask
  if s.privileged && (operand &&& bm &&& stateMask) != 0 then .refused .executionStateBits
  else
    let p := s.cpsr.writeMasked (bm &&& (if s.privileged then userMask ||| privMask else userMask)) operand
    match Mode.ofBits p.m with
    | none => .refused .illegalMode
    | some _ => ({ s with cpsr := p }).advance

/-- MSR to the SPSR (R592): it accepts T, J and any mode value. -/
def State.msrSpsr (s : State) (mask : BitVec 4) (operand : Word) : Out :=
  match s.spsr.get s.mode with
  | none => .refused .noSpsr
  | some p =>
    let p := p.writeMasked (byteMask mask &&& (userMask ||| privMask ||| stateMask)) operand
    ({ s with spsr := s.spsr.set s.mode p }).advance

/-- R592, register form. -/
def execMsrReg (c : Cond) (r : Bool) (mask : BitVec 4) (rm : Reg) (s : State) : Out :=
  whenCond c s (withoutPC [rm]
    (if r then s.msrSpsr mask (s.readReg rm) else s.msrCpsr mask (s.readReg rm)))

/-- R592, immediate form. -/
def execMsrImm (c : Cond) (r : Bool) (mask : BitVec 4) (op : RotImm) (s : State) : Out :=
  let operand := (rotImmOperand op s.cpsr.c).value
  whenCond c s (if r then s.msrSpsr mask operand else s.msrCpsr mask operand)

/-- The four UNPREDICTABLE field combinations of CPS (R594). -/
def cpsFieldsAllowed (imod : BitVec 2) (mmod a i f : Bool) (mode : BitVec 5) : Bool :=
  !(imod == 1#2 || (imod == 0#2 && !mmod)) && (imod.getLsbD 1 == (a || i || f)) && (mmod || mode == 0)

/-- The interrupt masks after CPS (R594): a named bit takes imod[0], the others keep their value. -/
def Psr.cpsMasks (p : Psr) (imod : BitVec 2) (a i f : Bool) : Psr :=
  let v := imod.getLsbD 0
  { p with a := if a then v else p.a, i := if i then v else p.i, f := if f then v else p.f }

/-- R594: unconditional, and without effect in User mode. -/
def execCps (imod : BitVec 2) (mmod a i f : Bool) (mode : BitVec 5) (s : State) : Out :=
  if !cpsFieldsAllowed imod mmod a i f mode then .refused .unpredictableOperands
  else if !s.privileged then s.advance
  else
    let p := s.cpsr.cpsMasks imod a i f
    if mmod then
      match Mode.ofBits mode with
      | none => .refused .illegalMode
      | some _ => ({ s with cpsr := { p with m := mode } }).advance
    else ({ s with cpsr := p }).advance

/-- R596: allowed in every mode. -/
def execSetend (e : Bool) (s : State) : Out := ({ s with cpsr := { s.cpsr with e := e } }).advance

end Sys2Proof.Machine
end

