-- ==== Sys2Proof/Machine/Dispatch.lean ====
section
/-!
DEFINITION. Which meaning each instruction has.
-/

namespace Sys2Proof.Machine

open Sys2Proof

def exec (i : Instr) (s : State) : Host.Outcome State Fault Refusal :=
  match i with
  | .cps imod mmod ab ib fb mode => Sys2Proof.Machine.execCps imod mmod ab ib fb mode s
  | .setend e => Sys2Proof.Machine.execSetend e s
  | .pldImm u rn imm => Sys2Proof.Machine.execPldImm u rn imm s
  | .pldReg u rn op => Sys2Proof.Machine.execPldReg u rn op s
  | .srs am wb mode => Sys2Proof.Machine.execSrs am wb mode s
  | .rfe am wb rn => Sys2Proof.Machine.execRfe am wb rn s
  | .blx1 h imm => Sys2Proof.Machine.execBlx1 h imm s
  | .mcrr2 rn rd cp op crm => Sys2Proof.Machine.execMcrr2 rn rd cp op crm s
  | .mrrc2 rn rd cp op crm => Sys2Proof.Machine.execMrrc2 rn rd cp op crm s
  | .stc2 p u n wb rn crd cp off => Sys2Proof.Machine.execStc2 p u n wb rn crd cp off s
  | .ldc2 p u n wb rn crd cp off => Sys2Proof.Machine.execLdc2 p u n wb rn crd cp off s
  | .cdp2 op1 crn crd cp op2 crm => Sys2Proof.Machine.execCdp2 op1 crn crd cp op2 crm s
  | .mcr2 op1 crn rd cp op2 crm => Sys2Proof.Machine.execMcr2 op1 crn rd cp op2 crm s
  | .mrc2 op1 crn rd cp op2 crm => Sys2Proof.Machine.execMrc2 op1 crn rd cp op2 crm s
  | .mul c sf rd rs rm => Sys2Proof.Machine.execMul c sf rd rs rm s
  | .mla c sf rd rn rs rm => Sys2Proof.Machine.execMla c sf rd rn rs rm s
  | .umaal c rdHi rdLo rs rm => Sys2Proof.Machine.execUmaal c rdHi rdLo rs rm s
  | .umull c sf rdHi rdLo rs rm => Sys2Proof.Machine.execUmull c sf rdHi rdLo rs rm s
  | .umlal c sf rdHi rdLo rs rm => Sys2Proof.Machine.execUmlal c sf rdHi rdLo rs rm s
  | .smull c sf rdHi rdLo rs rm => Sys2Proof.Machine.execSmull c sf rdHi rdLo rs rm s
  | .smlal c sf rdHi rdLo rs rm => Sys2Proof.Machine.execSmlal c sf rdHi rdLo rs rm s
  | .swp c rn rd rm => Sys2Proof.Machine.execSwp c rn rd rm s
  | .swpb c rn rd rm => Sys2Proof.Machine.execSwpb c rn rd rm s
  | .strex c rn rd rm => Sys2Proof.Machine.execStrex c rn rd rm s
  | .ldrex c rn rd => Sys2Proof.Machine.execLdrex c rn rd s
  | .strhReg c idx u rn rd rm => Sys2Proof.Machine.execStrhReg c idx u rn rd rm s
  | .strhImm c idx u rn rd off => Sys2Proof.Machine.execStrhImm c idx u rn rd off s
  | .ldrhReg c idx u rn rd rm => Sys2Proof.Machine.execLdrhReg c idx u rn rd rm s
  | .ldrhImm c idx u rn rd off => Sys2Proof.Machine.execLdrhImm c idx u rn rd off s
  | .ldrdReg c idx u rn rd rm => Sys2Proof.Machine.execLdrdReg c idx u rn rd rm s
  | .ldrdImm c idx u rn rd off => Sys2Proof.Machine.execLdrdImm c idx u rn rd off s
  | .ldrsbReg c idx u rn rd rm => Sys2Proof.Machine.execLdrsbReg c idx u rn rd rm s
  | .ldrsbImm c idx u rn rd off => Sys2Proof.Machine.execLdrsbImm c idx u rn rd off s
  | .strdReg c idx u rn rd rm => Sys2Proof.Machine.execStrdReg c idx u rn rd rm s
  | .strdImm c idx u rn rd off => Sys2Proof.Machine.execStrdImm c idx u rn rd off s
  | .ldrshReg c idx u rn rd rm => Sys2Proof.Machine.execLdrshReg c idx u rn rd rm s
  | .ldrshImm c idx u rn rd off => Sys2Proof.Machine.execLdrshImm c idx u rn rd off s
  | .mrs c r rd => Sys2Proof.Machine.execMrs c r rd s
  | .msrReg c r mask rm => Sys2Proof.Machine.execMsrReg c r mask rm s
  | .bx c rm => Sys2Proof.Machine.execBx c rm s
  | .clz c rd rm => Sys2Proof.Machine.execClz c rd rm s
  | .bxj c rm => Sys2Proof.Machine.execBxj c rm s
  | .blx2 c rm => Sys2Proof.Machine.execBlx2 c rm s
  | .qadd c rn rd rm => Sys2Proof.Machine.execQadd c rn rd rm s
  | .qsub c rn rd rm => Sys2Proof.Machine.execQsub c rn rd rm s
  | .qdadd c rn rd rm => Sys2Proof.Machine.execQdadd c rn rd rm s
  | .qdsub c rn rd rm => Sys2Proof.Machine.execQdsub c rn rd rm s
  | .bkpt imm => Sys2Proof.Machine.execBkpt imm s
  | .smlaxy c rd rn rs y x rm => Sys2Proof.Machine.execSmlaxy c rd rn rs y x rm s
  | .smlawy c rd rn rs y rm => Sys2Proof.Machine.execSmlawy c rd rn rs y rm s
  | .smulwy c rd rs y rm => Sys2Proof.Machine.execSmulwy c rd rs y rm s
  | .smlalxy c rdHi rdLo rs y x rm => Sys2Proof.Machine.execSmlalxy c rdHi rdLo rs y x rm s
  | .smulxy c rd rs y x rm => Sys2Proof.Machine.execSmulxy c rd rs y x rm s
  | .andShiftImm c sf rn rd op => Sys2Proof.Machine.execAndShiftImm c sf rn rd op s
  | .eorShiftImm c sf rn rd op => Sys2Proof.Machine.execEorShiftImm c sf rn rd op s
  | .subShiftImm c sf rn rd op => Sys2Proof.Machine.execSubShiftImm c sf rn rd op s
  | .rsbShiftImm c sf rn rd op => Sys2Proof.Machine.execRsbShiftImm c sf rn rd op s
  | .addShiftImm c sf rn rd op => Sys2Proof.Machine.execAddShiftImm c sf rn rd op s
  | .adcShiftImm c sf rn rd op => Sys2Proof.Machine.execAdcShiftImm c sf rn rd op s
  | .sbcShiftImm c sf rn rd op => Sys2Proof.Machine.execSbcShiftImm c sf rn rd op s
  | .rscShiftImm c sf rn rd op => Sys2Proof.Machine.execRscShiftImm c sf rn rd op s
  | .tstShiftImm c rn op => Sys2Proof.Machine.execTstShiftImm c rn op s
  | .teqShiftImm c rn op => Sys2Proof.Machine.execTeqShiftImm c rn op s
  | .cmpShiftImm c rn op => Sys2Proof.Machine.execCmpShiftImm c rn op s
  | .cmnShiftImm c rn op => Sys2Proof.Machine.execCmnShiftImm c rn op s
  | .orrShiftImm c sf rn rd op => Sys2Proof.Machine.execOrrShiftImm c sf rn rd op s
  | .movShiftImm c sf rd op => Sys2Proof.Machine.execMovShiftImm c sf rd op s
  | .bicShiftImm c sf rn rd op => Sys2Proof.Machine.execBicShiftImm c sf rn rd op s
  | .mvnShiftImm c sf rd op => Sys2Proof.Machine.execMvnShiftImm c sf rd op s
  | .andShiftReg c sf rn rd op => Sys2Proof.Machine.execAndShiftReg c sf rn rd op s
  | .eorShiftReg c sf rn rd op => Sys2Proof.Machine.execEorShiftReg c sf rn rd op s
  | .subShiftReg c sf rn rd op => Sys2Proof.Machine.execSubShiftReg c sf rn rd op s
  | .rsbShiftReg c sf rn rd op => Sys2Proof.Machine.execRsbShiftReg c sf rn rd op s
  | .addShiftReg c sf rn rd op => Sys2Proof.Machine.execAddShiftReg c sf rn rd op s
  | .adcShiftReg c sf rn rd op => Sys2Proof.Machine.execAdcShiftReg c sf rn rd op s
  | .sbcShiftReg c sf rn rd op => Sys2Proof.Machine.execSbcShiftReg c sf rn rd op s
  | .rscShiftReg c sf rn rd op => Sys2Proof.Machine.execRscShiftReg c sf rn rd op s
  | .tstShiftReg c rn op => Sys2Proof.Machine.execTstShiftReg c rn op s
  | .teqShiftReg c rn op => Sys2Proof.Machine.execTeqShiftReg c rn op s
  | .cmpShiftReg c rn op => Sys2Proof.Machine.execCmpShiftReg c rn op s
  | .cmnShiftReg c rn op => Sys2Proof.Machine.execCmnShiftReg c rn op s
  | .orrShiftReg c sf rn rd op => Sys2Proof.Machine.execOrrShiftReg c sf rn rd op s
  | .movShiftReg c sf rd op => Sys2Proof.Machine.execMovShiftReg c sf rd op s
  | .bicShiftReg c sf rn rd op => Sys2Proof.Machine.execBicShiftReg c sf rn rd op s
  | .mvnShiftReg c sf rd op => Sys2Proof.Machine.execMvnShiftReg c sf rd op s
  | .msrImm c r mask op => Sys2Proof.Machine.execMsrImm c r mask op s
  | .andImm c sf rn rd op => Sys2Proof.Machine.execAndImm c sf rn rd op s
  | .eorImm c sf rn rd op => Sys2Proof.Machine.execEorImm c sf rn rd op s
  | .subImm c sf rn rd op => Sys2Proof.Machine.execSubImm c sf rn rd op s
  | .rsbImm c sf rn rd op => Sys2Proof.Machine.execRsbImm c sf rn rd op s
  | .addImm c sf rn rd op => Sys2Proof.Machine.execAddImm c sf rn rd op s
  | .adcImm c sf rn rd op => Sys2Proof.Machine.execAdcImm c sf rn rd op s
  | .sbcImm c sf rn rd op => Sys2Proof.Machine.execSbcImm c sf rn rd op s
  | .rscImm c sf rn rd op => Sys2Proof.Machine.execRscImm c sf rn rd op s
  | .tstImm c rn op => Sys2Proof.Machine.execTstImm c rn op s
  | .teqImm c rn op => Sys2Proof.Machine.execTeqImm c rn op s
  | .cmpImm c rn op => Sys2Proof.Machine.execCmpImm c rn op s
  | .cmnImm c rn op => Sys2Proof.Machine.execCmnImm c rn op s
  | .orrImm c sf rn rd op => Sys2Proof.Machine.execOrrImm c sf rn rd op s
  | .movImm c sf rd op => Sys2Proof.Machine.execMovImm c sf rd op s
  | .bicImm c sf rn rd op => Sys2Proof.Machine.execBicImm c sf rn rd op s
  | .mvnImm c sf rd op => Sys2Proof.Machine.execMvnImm c sf rd op s
  | .strtImm c u rn rd imm => Sys2Proof.Machine.execStrtImm c u rn rd imm s
  | .ldrtImm c u rn rd imm => Sys2Proof.Machine.execLdrtImm c u rn rd imm s
  | .strbtImm c u rn rd imm => Sys2Proof.Machine.execStrbtImm c u rn rd imm s
  | .ldrbtImm c u rn rd imm => Sys2Proof.Machine.execLdrbtImm c u rn rd imm s
  | .strImm c idx u rn rd imm => Sys2Proof.Machine.execStrImm c idx u rn rd imm s
  | .ldrImm c idx u rn rd imm => Sys2Proof.Machine.execLdrImm c idx u rn rd imm s
  | .strbImm c idx u rn rd imm => Sys2Proof.Machine.execStrbImm c idx u rn rd imm s
  | .ldrbImm c idx u rn rd imm => Sys2Proof.Machine.execLdrbImm c idx u rn rd imm s
  | .strtReg c u rn rd op => Sys2Proof.Machine.execStrtReg c u rn rd op s
  | .ldrtReg c u rn rd op => Sys2Proof.Machine.execLdrtReg c u rn rd op s
  | .strbtReg c u rn rd op => Sys2Proof.Machine.execStrbtReg c u rn rd op s
  | .ldrbtReg c u rn rd op => Sys2Proof.Machine.execLdrbtReg c u rn rd op s
  | .strReg c idx u rn rd op => Sys2Proof.Machine.execStrReg c idx u rn rd op s
  | .ldrReg c idx u rn rd op => Sys2Proof.Machine.execLdrReg c idx u rn rd op s
  | .strbReg c idx u rn rd op => Sys2Proof.Machine.execStrbReg c idx u rn rd op s
  | .ldrbReg c idx u rn rd op => Sys2Proof.Machine.execLdrbReg c idx u rn rd op s
  | .sadd16 c rn rd rm => Sys2Proof.Machine.execSadd16 c rn rd rm s
  | .saddsubx c rn rd rm => Sys2Proof.Machine.execSaddsubx c rn rd rm s
  | .ssubaddx c rn rd rm => Sys2Proof.Machine.execSsubaddx c rn rd rm s
  | .ssub16 c rn rd rm => Sys2Proof.Machine.execSsub16 c rn rd rm s
  | .sadd8 c rn rd rm => Sys2Proof.Machine.execSadd8 c rn rd rm s
  | .ssub8 c rn rd rm => Sys2Proof.Machine.execSsub8 c rn rd rm s
  | .qadd16 c rn rd rm => Sys2Proof.Machine.execQadd16 c rn rd rm s
  | .qaddsubx c rn rd rm => Sys2Proof.Machine.execQaddsubx c rn rd rm s
  | .qsubaddx c rn rd rm => Sys2Proof.Machine.execQsubaddx c rn rd rm s
  | .qsub16 c rn rd rm => Sys2Proof.Machine.execQsub16 c rn rd rm s
  | .qadd8 c rn rd rm => Sys2Proof.Machine.execQadd8 c rn rd rm s
  | .qsub8 c rn rd rm => Sys2Proof.Machine.execQsub8 c rn rd rm s
  | .shadd16 c rn rd rm => Sys2Proof.Machine.execShadd16 c rn rd rm s
  | .shaddsubx c rn rd rm => Sys2Proof.Machine.execShaddsubx c rn rd rm s
  | .shsubaddx c rn rd rm => Sys2Proof.Machine.execShsubaddx c rn rd rm s
  | .shsub16 c rn rd rm => Sys2Proof.Machine.execShsub16 c rn rd rm s
  | .shadd8 c rn rd rm => Sys2Proof.Machine.execShadd8 c rn rd rm s
  | .shsub8 c rn rd rm => Sys2Proof.Machine.execShsub8 c rn rd rm s
  | .uadd16 c rn rd rm => Sys2Proof.Machine.execUadd16 c rn rd rm s
  | .uaddsubx c rn rd rm => Sys2Proof.Machine.execUaddsubx c rn rd rm s
  | .usubaddx c rn rd rm => Sys2Proof.Machine.execUsubaddx c rn rd rm s
  | .usub16 c rn rd rm => Sys2Proof.Machine.execUsub16 c rn rd rm s
  | .uadd8 c rn rd rm => Sys2Proof.Machine.execUadd8 c rn rd rm s
  | .usub8 c rn rd rm => Sys2Proof.Machine.execUsub8 c rn rd rm s
  | .uqadd16 c rn rd rm => Sys2Proof.Machine.execUqadd16 c rn rd rm s
  | .uqaddsubx c rn rd rm => Sys2Proof.Machine.execUqaddsubx c rn rd rm s
  | .uqsubaddx c rn rd rm => Sys2Proof.Machine.execUqsubaddx c rn rd rm s
  | .uqsub16 c rn rd rm => Sys2Proof.Machine.execUqsub16 c rn rd rm s
  | .uqadd8 c rn rd rm => Sys2Proof.Machine.execUqadd8 c rn rd rm s
  | .uqsub8 c rn rd rm => Sys2Proof.Machine.execUqsub8 c rn rd rm s
  | .uhadd16 c rn rd rm => Sys2Proof.Machine.execUhadd16 c rn rd rm s
  | .uhaddsubx c rn rd rm => Sys2Proof.Machine.execUhaddsubx c rn rd rm s
  | .uhsubaddx c rn rd rm => Sys2Proof.Machine.execUhsubaddx c rn rd rm s
  | .uhsub16 c rn rd rm => Sys2Proof.Machine.execUhsub16 c rn rd rm s
  | .uhadd8 c rn rd rm => Sys2Proof.Machine.execUhadd8 c rn rd rm s
  | .uhsub8 c rn rd rm => Sys2Proof.Machine.execUhsub8 c rn rd rm s
  | .pkhbt c rn rd imm rm => Sys2Proof.Machine.execPkhbt c rn rd imm rm s
  | .pkhtb c rn rd imm rm => Sys2Proof.Machine.execPkhtb c rn rd imm rm s
  | .ssat c sat rd imm sh rm => Sys2Proof.Machine.execSsat c sat rd imm sh rm s
  | .usat c sat rd imm sh rm => Sys2Proof.Machine.execUsat c sat rd imm sh rm s
  | .ssat16 c sat rd rm => Sys2Proof.Machine.execSsat16 c sat rd rm s
  | .usat16 c sat rd rm => Sys2Proof.Machine.execUsat16 c sat rd rm s
  | .rev c rd rm => Sys2Proof.Machine.execRev c rd rm s
  | .rev16 c rd rm => Sys2Proof.Machine.execRev16 c rd rm s
  | .revsh c rd rm => Sys2Proof.Machine.execRevsh c rd rm s
  | .sel c rn rd rm => Sys2Proof.Machine.execSel c rn rd rm s
  | .sxtb16 c rd rot rm => Sys2Proof.Machine.execSxtb16 c rd rot rm s
  | .sxtab16 c rn rd rot rm => Sys2Proof.Machine.execSxtab16 c rn rd rot rm s
  | .sxtb c rd rot rm => Sys2Proof.Machine.execSxtb c rd rot rm s
  | .sxtab c rn rd rot rm => Sys2Proof.Machine.execSxtab c rn rd rot rm s
  | .sxth c rd rot rm => Sys2Proof.Machine.execSxth c rd rot rm s
  | .sxtah c rn rd rot rm => Sys2Proof.Machine.execSxtah c rn rd rot rm s
  | .uxtb16 c rd rot rm => Sys2Proof.Machine.execUxtb16 c rd rot rm s
  | .uxtab16 c rn rd rot rm => Sys2Proof.Machine.execUxtab16 c rn rd rot rm s
  | .uxtb c rd rot rm => Sys2Proof.Machine.execUxtb c rd rot rm s
  | .uxtab c rn rd rot rm => Sys2Proof.Machine.execUxtab c rn rd rot rm s
  | .uxth c rd rot rm => Sys2Proof.Machine.execUxth c rd rot rm s
  | .uxtah c rn rd rot rm => Sys2Proof.Machine.execUxtah c rn rd rot rm s
  | .smuad c rd rs x rm => Sys2Proof.Machine.execSmuad c rd rs x rm s
  | .smlad c rd rn rs x rm => Sys2Proof.Machine.execSmlad c rd rn rs x rm s
  | .smusd c rd rs x rm => Sys2Proof.Machine.execSmusd c rd rs x rm s
  | .smlsd c rd rn rs x rm => Sys2Proof.Machine.execSmlsd c rd rn rs x rm s
  | .smlald c rdHi rdLo rs x rm => Sys2Proof.Machine.execSmlald c rdHi rdLo rs x rm s
  | .smlsld c rdHi rdLo rs x rm => Sys2Proof.Machine.execSmlsld c rdHi rdLo rs x rm s
  | .smmul c rd rs r rm => Sys2Proof.Machine.execSmmul c rd rs r rm s
  | .smmla c rd rn rs r rm => Sys2Proof.Machine.execSmmla c rd rn rs r rm s
  | .smmls c rd rn rs r rm => Sys2Proof.Machine.execSmmls c rd rn rs r rm s
  | .usad8 c rd rs rm => Sys2Proof.Machine.execUsad8 c rd rs rm s
  | .usada8 c rd rn rs rm => Sys2Proof.Machine.execUsada8 c rd rn rs rm s
  | .ldm1 c am wb rn list => Sys2Proof.Machine.execLdm1 c am wb rn list s
  | .ldm3 c am wb rn list => Sys2Proof.Machine.execLdm3 c am wb rn list s
  | .ldm2 c am wb rn list => Sys2Proof.Machine.execLdm2 c am wb rn list s
  | .stm1 c am wb rn list => Sys2Proof.Machine.execStm1 c am wb rn list s
  | .stm2 c am wb rn list => Sys2Proof.Machine.execStm2 c am wb rn list s
  | .b c imm => Sys2Proof.Machine.execB c imm s
  | .bl c imm => Sys2Proof.Machine.execBl c imm s
  | .mcrr c rn rd cp op crm => Sys2Proof.Machine.execMcrr c rn rd cp op crm s
  | .mrrc c rn rd cp op crm => Sys2Proof.Machine.execMrrc c rn rd cp op crm s
  | .stc c p u n wb rn crd cp off => Sys2Proof.Machine.execStc c p u n wb rn crd cp off s
  | .ldc c p u n wb rn crd cp off => Sys2Proof.Machine.execLdc c p u n wb rn crd cp off s
  | .cdp c op1 crn crd cp op2 crm => Sys2Proof.Machine.execCdp c op1 crn crd cp op2 crm s
  | .mcr c op1 crn rd cp op2 crm => Sys2Proof.Machine.execMcr c op1 crn rd cp op2 crm s
  | .mrc c op1 crn rd cp op2 crm => Sys2Proof.Machine.execMrc c op1 crn rd cp op2 crm s
  | .swi c imm => Sys2Proof.Machine.execSwi c imm s
  | .undefinedWord w => Sys2Proof.Machine.execUndefinedWord w s
  | .unpredictableWord w => Sys2Proof.Machine.execUnpredictableWord w s

end Sys2Proof.Machine
end

