-- ==== Sys2Proof/Machine/Step.lean ====
section
/-!
DEFINITION. One step of the machine (R11, R760).
-/

namespace Sys2Proof.Machine

open Sys2Proof

/-- Fetch, decode and execute one instruction; a fetch that aborts is a Prefetch Abort (R11 items c to g). -/
def stepInstruction (s : State) : Host.Outcome State Fault Refusal :=
  (fetch s).finish (fun w t => exec (decode w) t) (fun i t => .next (t.prefetchAbort i))

/-- R11: Reset first, then at most one asynchronous exception, else one instruction. -/
def step (s : State) : Host.Outcome State Fault Refusal :=
  let b := s.popInput.1
  let t := s.popInput.2.raiseImprecise b.imprecise
  if b.reset then .next t.resetInput
  else
    match t.asynchronous b with
    | some t => .next t
    | none => stepInstruction t

/-- The state with the instruction whose bits are `w` stored where the next fetch reads: four bytes, little-endian
(R128), at the physical address of the pc. It stands for the load of a program from outside the machine (entry 15). -/
def State.withFetchWord (s : State) (nbits w : Nat) : State :=
  let pa := match fetchAddress s with
    | .ok pa _ => pa.toNat
    | .abort _ _ => s.pc.toNat
    | .fault _ => s.pc.toNat
    | .refused _ => s.pc.toNat
  { s with mem := s.mem.writeBytes pa (bytesOfWord (BitVec.ofNat 32 (w % 2 ^ nbits))) }

end Sys2Proof.Machine
end

