-- ==== Sys2Proof/Safety.lean ====
section
/-!
DEFINITION. What the claims talk about: the invariants of a run, what an instruction names as its condition and as its
destinations, what a step leaves alone, and how an instruction that runs to its end leaves the machine.
-/

namespace Sys2Proof.Machine

open Sys2Proof

/-! ### Invariants -/

/-- Memory is in canonical form, the mode is one of the seven (R56), the machine is in ARM state (R57) and the pc is
word-aligned (R43). -/
def State.Inv (s : State) : Prop :=
  s.mem.wf = true ∧ (Mode.ofBits s.cpsr.m).isSome = true ∧ s.cpsr.t = false ∧ s.cpsr.j = false
    ∧ s.pc.extractLsb' 0 2 = 0#2

/-- A TLB has the slots the parameters give it (R246, R248), its victim has the width of its field (R76) and its base
names a slot (R245; after a Reset input the model's choice, entry 2), base and P are zero where there is no lockdown
(R244) and base where it is fixed (R248), and every entry gives a physical address of the implementation (R80). -/
def Tlb.Bounded (t : Tlb) (c : Params) (lockable : Nat) : Prop :=
  t.slots.length = c.tlbEntries ∧ t.lockSlots.length = (if c.lockBaseFixedZero then lockable else 0)
    ∧ t.base < c.tlbEntries ∧ t.victim < 2 ^ lockWidth c.tlbEntries ∧ (lockable = 0 → t.base = 0 ∧ t.p = false)
    ∧ (c.lockBaseFixedZero = true → t.base = 0)
    ∧ ∀ e ∈ t.entries, e.pa.toNat < 2 ^ (32 + c.paExtraBits)

/-- The writes of TTBR0 on record (R337) are of values it may still take, the last one of its current value, and the
later N of each are values N can have (R65). -/
def State.Recorded (s : State) : Prop :=
  (∀ w ∈ s.ttbr0Writes, w.value ∈ s.ttbr0.current :: s.ttbr0.window ∧ ∀ n ∈ w.laterN, n < 8)
    ∧ ∀ w ∈ s.ttbr0Writes.head?, w.value = s.ttbr0.current

/-- There is a TLB entry (R14), both TLBs are in bounds, no more imprecise aborts are pending than the implementation
holds, the parity errors among them (entry 10), and none where it provides no imprecise aborts (R82, R733), and the
record of TTBR0 writes is one of values it may take (R337). -/
def State.Bounded (s : State) : Prop :=
  0 < s.cfg.tlbEntries ∧ s.tlbD.Bounded s.cfg s.cfg.dlockN ∧ s.tlbI.Bounded s.cfg s.cfg.ilockN
    ∧ s.pendingImprecise ≤ s.cfg.imprecisePendMax ∧ s.pendingParity ≤ s.pendingImprecise
    ∧ (impreciseAborts s.cfg = false → s.pendingImprecise = 0) ∧ s.Recorded

/-- No mode has the five bits of an illegal value, and the state is not Thumb or Jazelle: what a status register must
be to be copied to the CPSR (R56, R57, R413). -/
def Psr.returnable (p : Psr) : Prop := (Mode.ofBits p.m).isSome = true ∧ p.t = false ∧ p.j = false

/-- An instruction that would copy `p` to the CPSR is refused where `p` is not returnable (R56, R57); an illegal mode is
named before J, and J before T (the model's choice, entry 23). -/
def RefusesReturn (i : Instr) (s : State) (p : Psr) : Prop :=
  (Mode.ofBits p.m = none → exec i s = .refused .illegalMode)
    ∧ ((Mode.ofBits p.m).isSome = true → p.j = true → exec i s = .refused .jazelleState)
    ∧ ((Mode.ofBits p.m).isSome = true → p.j = false → p.t = true → exec i s = .refused .thumbState)

/-! ### Where an instruction runs -/

/-- The condition passes, and the next instruction is not past the end of the address space (R42). -/
def Runs (c : Cond) (s : State) : Prop := condPassed c s.cpsr = true ∧ s.pc ≠ 0xFFFFFFFC#32

/-- The instruction leaves the machine in `t`, with the next instruction at the address plus 4 (R42). -/
def Ends (i : Instr) (s t : State) : Prop := exec i s = .next { t with pc := s.pc + 4 }

/-- The three forms of a data-processing instruction with its shifter operand: immediate, shift by an immediate, and
shift by a register with none of `regs`, Rm and Rs being R15 (R425). -/
def DataForms (s : State) (regs : List Reg) (imm : RotImm → Instr) (shiftImm : ImmShift → Instr)
    (shiftReg : RegShift → Instr) (so : Shifted) (i : Instr) : Prop :=
  (∃ op, i = imm op ∧ so = rotImmOperand op s.cpsr.c)
    ∨ (∃ op, i = shiftImm op ∧ so = immShiftOperand s op)
    ∨ (∃ op, i = shiftReg op ∧ so = regShiftOperand s op ∧ 15#4 ∉ op.rm :: op.rs :: regs)

/-- How a data-processing instruction with result `v` and new flags `p` ends (R410, R413): it writes Rd, and the flags
when S is set; with Rd = R15 it branches to the word-aligned result (entry 24), or with S set returns from an exception,
and is refused where there is no SPSR to return through or the SPSR cannot go to the CPSR. -/
def DataEnds (i : Instr) (s : State) (sf : Bool) (rd : Reg) (v : Word) (p : Psr) : Prop :=
  (rd ≠ 15#4 → s.pc ≠ 0xFFFFFFFC#32 → Ends i s { s.writeReg rd v with cpsr := if sf then p else s.cpsr })
    ∧ (rd = 15#4 → sf = false → exec i s = .next { s with pc := v &&& 0xFFFFFFFC#32 })
    ∧ (rd = 15#4 → sf = true → ∀ q, s.spsr.get s.mode = some q → q.returnable →
        exec i s = .next { s.closeWindows with cpsr := q, pc := v &&& 0xFFFFFFFC#32 })
    ∧ (rd = 15#4 → sf = true → ∀ q, s.spsr.get s.mode = some q → RefusesReturn i s q)
    ∧ (rd = 15#4 → sf = true → s.spsr.get s.mode = none → exec i s = .refused .noSpsr)

/-- The flags of an addition or subtraction whose exact signed result is `e` (R412). -/
def exactFlags (p : Psr) (e : Int) (carry : Bool) : Psr :=
  { p with
    n := (BitVec.ofInt 32 e).getLsbD 31
    z := BitVec.ofInt 32 e == 0
    c := carry
    v := decide (e < -2 ^ 31 ∨ 2 ^ 31 ≤ e) }

/-- A 64-bit result in a register pair (R450). -/
def State.withPair (s : State) (hi lo : Reg) (e : Int) : State :=
  (s.writeReg hi (BitVec.ofInt 32 (e / 2 ^ 32))).writeReg lo (BitVec.ofInt 32 e)

/-- A halfword of a register as a signed integer (R450). -/
def signedHalf (w : Word) (top : Bool) : Int := (w.extractLsb' (if top then 16 else 0) 16).toInt

/-- The two offset forms of addressing mode 2 with their offset (R606 to R608): Rm is not R15, nor the base of a
writeback form (R605). -/
def OffsetForms2 (s : State) (idx : IndexMode) (rn : Reg) (imm : BitVec 12 → Instr) (scaled : ImmShift → Instr)
    (offset : Word) (i : Instr) : Prop :=
  (∃ n, i = imm n ∧ offset = n.setWidth 32)
    ∨ (∃ op, i = scaled op ∧ offset = scaledOffset s op ∧ op.rm ≠ 15#4 ∧ (idx ≠ .offset → op.rm ≠ rn))

/-- The two offset forms of addressing mode 3 with their offset (R621, R622). -/
def OffsetForms3 (s : State) (idx : IndexMode) (rn : Reg) (imm : BitVec 8 → Instr) (reg : Reg → Instr)
    (offset : Word) (i : Instr) : Prop :=
  (∃ n, i = imm n ∧ offset = n.setWidth 32)
    ∨ (∃ rm, i = reg rm ∧ offset = s.readReg rm ∧ rm ≠ 15#4 ∧ (idx ≠ .offset → rm ≠ rn))

/-- The base register may be written back, and is none of the transferred registers (R605 item 7). -/
def BaseAllowed (idx : IndexMode) (rn : Reg) (transferred : List Reg) : Prop :=
  idx ≠ .offset → rn ≠ 15#4 ∧ rn ∉ transferred

/-- The state after the base register writeback, if the form has one (R609, R610). -/
def State.baseWritten (t : State) (idx : IndexMode) (u : Bool) (rn : Reg) (base offset : Word) : State :=
  match idx with
  | .offset => t
  | .pre => t.writeReg rn (applyOffset u base offset)
  | .post => t.writeReg rn (applyOffset u base offset)

/-- A plain data access: the MMU is off and no control register write is waiting, the address is aligned, and there is
memory behind it that serves it, without a parity error (R140, R146, R742). -/
def Flat (s : State) (va : Word) (size : AccessSize) : Prop :=
  s.sctlr.window = [] ∧ ctlM s.sctlr.current = false ∧ aligned size va = true
    ∧ va.toNat + size.bytes ≤ 2 ^ 32 ∧ backed s.cfg va.toNat size.bytes = true ∧ s.responses = []
    ∧ parityError s.cfg va.toNat size.bytes = false

/-! ### What an instruction names -/

/-- The condition field of an instruction; `none` for the unconditional ones and for words. -/
def conditionOf : Instr → Option Cond
  | .cps _ _ _ _ _ _ => none
  | .setend _ => none
  | .pldImm _ _ _ => none
  | .pldReg _ _ _ => none
  | .srs _ _ _ => none
  | .rfe _ _ _ => none
  | .blx1 _ _ => none
  | .mcrr2 _ _ _ _ _ => none
  | .mrrc2 _ _ _ _ _ => none
  | .stc2 _ _ _ _ _ _ _ _ => none
  | .ldc2 _ _ _ _ _ _ _ _ => none
  | .cdp2 _ _ _ _ _ _ => none
  | .mcr2 _ _ _ _ _ _ => none
  | .mrc2 _ _ _ _ _ _ => none
  | .mul c _ _ _ _ => some c
  | .mla c _ _ _ _ _ => some c
  | .umaal c _ _ _ _ => some c
  | .umull c _ _ _ _ _ => some c
  | .umlal c _ _ _ _ _ => some c
  | .smull c _ _ _ _ _ => some c
  | .smlal c _ _ _ _ _ => some c
  | .swp c _ _ _ => some c
  | .swpb c _ _ _ => some c
  | .strex c _ _ _ => some c
  | .ldrex c _ _ => some c
  | .strhReg c _ _ _ _ _ => some c
  | .strhImm c _ _ _ _ _ => some c
  | .ldrhReg c _ _ _ _ _ => some c
  | .ldrhImm c _ _ _ _ _ => some c
  | .ldrdReg c _ _ _ _ _ => some c
  | .ldrdImm c _ _ _ _ _ => some c
  | .ldrsbReg c _ _ _ _ _ => some c
  | .ldrsbImm c _ _ _ _ _ => some c
  | .strdReg c _ _ _ _ _ => some c
  | .strdImm c _ _ _ _ _ => some c
  | .ldrshReg c _ _ _ _ _ => some c
  | .ldrshImm c _ _ _ _ _ => some c
  | .mrs c _ _ => some c
  | .msrReg c _ _ _ => some c
  | .bx c _ => some c
  | .clz c _ _ => some c
  | .bxj c _ => some c
  | .blx2 c _ => some c
  | .qadd c _ _ _ => some c
  | .qsub c _ _ _ => some c
  | .qdadd c _ _ _ => some c
  | .qdsub c _ _ _ => some c
  | .bkpt _ => none
  | .smlaxy c _ _ _ _ _ _ => some c
  | .smlawy c _ _ _ _ _ => some c
  | .smulwy c _ _ _ _ => some c
  | .smlalxy c _ _ _ _ _ _ => some c
  | .smulxy c _ _ _ _ _ => some c
  | .andShiftImm c _ _ _ _ => some c
  | .eorShiftImm c _ _ _ _ => some c
  | .subShiftImm c _ _ _ _ => some c
  | .rsbShiftImm c _ _ _ _ => some c
  | .addShiftImm c _ _ _ _ => some c
  | .adcShiftImm c _ _ _ _ => some c
  | .sbcShiftImm c _ _ _ _ => some c
  | .rscShiftImm c _ _ _ _ => some c
  | .tstShiftImm c _ _ => some c
  | .teqShiftImm c _ _ => some c
  | .cmpShiftImm c _ _ => some c
  | .cmnShiftImm c _ _ => some c
  | .orrShiftImm c _ _ _ _ => some c
  | .movShiftImm c _ _ _ => some c
  | .bicShiftImm c _ _ _ _ => some c
  | .mvnShiftImm c _ _ _ => some c
  | .andShiftReg c _ _ _ _ => some c
  | .eorShiftReg c _ _ _ _ => some c
  | .subShiftReg c _ _ _ _ => some c
  | .rsbShiftReg c _ _ _ _ => some c
  | .addShiftReg c _ _ _ _ => some c
  | .adcShiftReg c _ _ _ _ => some c
  | .sbcShiftReg c _ _ _ _ => some c
  | .rscShiftReg c _ _ _ _ => some c
  | .tstShiftReg c _ _ => some c
  | .teqShiftReg c _ _ => some c
  | .cmpShiftReg c _ _ => some c
  | .cmnShiftReg c _ _ => some c
  | .orrShiftReg c _ _ _ _ => some c
  | .movShiftReg c _ _ _ => some c
  | .bicShiftReg c _ _ _ _ => some c
  | .mvnShiftReg c _ _ _ => some c
  | .msrImm c _ _ _ => some c
  | .andImm c _ _ _ _ => some c
  | .eorImm c _ _ _ _ => some c
  | .subImm c _ _ _ _ => some c
  | .rsbImm c _ _ _ _ => some c
  | .addImm c _ _ _ _ => some c
  | .adcImm c _ _ _ _ => some c
  | .sbcImm c _ _ _ _ => some c
  | .rscImm c _ _ _ _ => some c
  | .tstImm c _ _ => some c
  | .teqImm c _ _ => some c
  | .cmpImm c _ _ => some c
  | .cmnImm c _ _ => some c
  | .orrImm c _ _ _ _ => some c
  | .movImm c _ _ _ => some c
  | .bicImm c _ _ _ _ => some c
  | .mvnImm c _ _ _ => some c
  | .strtImm c _ _ _ _ => some c
  | .ldrtImm c _ _ _ _ => some c
  | .strbtImm c _ _ _ _ => some c
  | .ldrbtImm c _ _ _ _ => some c
  | .strImm c _ _ _ _ _ => some c
  | .ldrImm c _ _ _ _ _ => some c
  | .strbImm c _ _ _ _ _ => some c
  | .ldrbImm c _ _ _ _ _ => some c
  | .strtReg c _ _ _ _ => some c
  | .ldrtReg c _ _ _ _ => some c
  | .strbtReg c _ _ _ _ => some c
  | .ldrbtReg c _ _ _ _ => some c
  | .strReg c _ _ _ _ _ => some c
  | .ldrReg c _ _ _ _ _ => some c
  | .strbReg c _ _ _ _ _ => some c
  | .ldrbReg c _ _ _ _ _ => some c
  | .sadd16 c _ _ _ => some c
  | .saddsubx c _ _ _ => some c
  | .ssubaddx c _ _ _ => some c
  | .ssub16 c _ _ _ => some c
  | .sadd8 c _ _ _ => some c
  | .ssub8 c _ _ _ => some c
  | .qadd16 c _ _ _ => some c
  | .qaddsubx c _ _ _ => some c
  | .qsubaddx c _ _ _ => some c
  | .qsub16 c _ _ _ => some c
  | .qadd8 c _ _ _ => some c
  | .qsub8 c _ _ _ => some c
  | .shadd16 c _ _ _ => some c
  | .shaddsubx c _ _ _ => some c
  | .shsubaddx c _ _ _ => some c
  | .shsub16 c _ _ _ => some c
  | .shadd8 c _ _ _ => some c
  | .shsub8 c _ _ _ => some c
  | .uadd16 c _ _ _ => some c
  | .uaddsubx c _ _ _ => some c
  | .usubaddx c _ _ _ => some c
  | .usub16 c _ _ _ => some c
  | .uadd8 c _ _ _ => some c
  | .usub8 c _ _ _ => some c
  | .uqadd16 c _ _ _ => some c
  | .uqaddsubx c _ _ _ => some c
  | .uqsubaddx c _ _ _ => some c
  | .uqsub16 c _ _ _ => some c
  | .uqadd8 c _ _ _ => some c
  | .uqsub8 c _ _ _ => some c
  | .uhadd16 c _ _ _ => some c
  | .uhaddsubx c _ _ _ => some c
  | .uhsubaddx c _ _ _ => some c
  | .uhsub16 c _ _ _ => some c
  | .uhadd8 c _ _ _ => some c
  | .uhsub8 c _ _ _ => some c
  | .pkhbt c _ _ _ _ => some c
  | .pkhtb c _ _ _ _ => some c
  | .ssat c _ _ _ _ _ => some c
  | .usat c _ _ _ _ _ => some c
  | .ssat16 c _ _ _ => some c
  | .usat16 c _ _ _ => some c
  | .rev c _ _ => some c
  | .rev16 c _ _ => some c
  | .revsh c _ _ => some c
  | .sel c _ _ _ => some c
  | .sxtb16 c _ _ _ => some c
  | .sxtab16 c _ _ _ _ => some c
  | .sxtb c _ _ _ => some c
  | .sxtab c _ _ _ _ => some c
  | .sxth c _ _ _ => some c
  | .sxtah c _ _ _ _ => some c
  | .uxtb16 c _ _ _ => some c
  | .uxtab16 c _ _ _ _ => some c
  | .uxtb c _ _ _ => some c
  | .uxtab c _ _ _ _ => some c
  | .uxth c _ _ _ => some c
  | .uxtah c _ _ _ _ => some c
  | .smuad c _ _ _ _ => some c
  | .smlad c _ _ _ _ _ => some c
  | .smusd c _ _ _ _ => some c
  | .smlsd c _ _ _ _ _ => some c
  | .smlald c _ _ _ _ _ => some c
  | .smlsld c _ _ _ _ _ => some c
  | .smmul c _ _ _ _ => some c
  | .smmla c _ _ _ _ _ => some c
  | .smmls c _ _ _ _ _ => some c
  | .usad8 c _ _ _ => some c
  | .usada8 c _ _ _ _ => some c
  | .ldm1 c _ _ _ _ => some c
  | .ldm3 c _ _ _ _ => some c
  | .ldm2 c _ _ _ _ => some c
  | .stm1 c _ _ _ _ => some c
  | .stm2 c _ _ _ _ => some c
  | .b c _ => some c
  | .bl c _ => some c
  | .mcrr c _ _ _ _ _ => some c
  | .mrrc c _ _ _ _ _ => some c
  | .stc c _ _ _ _ _ _ _ _ => some c
  | .ldc c _ _ _ _ _ _ _ _ => some c
  | .cdp c _ _ _ _ _ _ => some c
  | .mcr c _ _ _ _ _ _ => some c
  | .mrc c _ _ _ _ _ _ => some c
  | .swi c _ => some c
  | .undefinedWord _ => none
  | .unpredictableWord _ => none

/-- The registers that an instruction working on registers alone writes (R410, R450, R490, R540, R591); `none` for
every other instruction. -/
def destinationsOf : Instr → Option (List Reg)
  | .cps _ _ _ _ _ _ => none
  | .setend _ => none
  | .pldImm _ _ _ => none
  | .pldReg _ _ _ => none
  | .srs _ _ _ => none
  | .rfe _ _ _ => none
  | .blx1 _ _ => none
  | .mcrr2 _ _ _ _ _ => none
  | .mrrc2 _ _ _ _ _ => none
  | .stc2 _ _ _ _ _ _ _ _ => none
  | .ldc2 _ _ _ _ _ _ _ _ => none
  | .cdp2 _ _ _ _ _ _ => none
  | .mcr2 _ _ _ _ _ _ => none
  | .mrc2 _ _ _ _ _ _ => none
  | .mul _ _ rd _ _ => some [rd]
  | .mla _ _ rd _ _ _ => some [rd]
  | .umaal _ rdHi rdLo _ _ => some [rdHi, rdLo]
  | .umull _ _ rdHi rdLo _ _ => some [rdHi, rdLo]
  | .umlal _ _ rdHi rdLo _ _ => some [rdHi, rdLo]
  | .smull _ _ rdHi rdLo _ _ => some [rdHi, rdLo]
  | .smlal _ _ rdHi rdLo _ _ => some [rdHi, rdLo]
  | .swp _ _ _ _ => none
  | .swpb _ _ _ _ => none
  | .strex _ _ _ _ => none
  | .ldrex _ _ _ => none
  | .strhReg _ _ _ _ _ _ => none
  | .strhImm _ _ _ _ _ _ => none
  | .ldrhReg _ _ _ _ _ _ => none
  | .ldrhImm _ _ _ _ _ _ => none
  | .ldrdReg _ _ _ _ _ _ => none
  | .ldrdImm _ _ _ _ _ _ => none
  | .ldrsbReg _ _ _ _ _ _ => none
  | .ldrsbImm _ _ _ _ _ _ => none
  | .strdReg _ _ _ _ _ _ => none
  | .strdImm _ _ _ _ _ _ => none
  | .ldrshReg _ _ _ _ _ _ => none
  | .ldrshImm _ _ _ _ _ _ => none
  | .mrs _ _ rd => some [rd]
  | .msrReg _ _ _ _ => none
  | .bx _ _ => none
  | .clz _ rd _ => some [rd]
  | .bxj _ _ => none
  | .blx2 _ _ => none
  | .qadd _ _ rd _ => some [rd]
  | .qsub _ _ rd _ => some [rd]
  | .qdadd _ _ rd _ => some [rd]
  | .qdsub _ _ rd _ => some [rd]
  | .bkpt _ => none
  | .smlaxy _ rd _ _ _ _ _ => some [rd]
  | .smlawy _ rd _ _ _ _ => some [rd]
  | .smulwy _ rd _ _ _ => some [rd]
  | .smlalxy _ rdHi rdLo _ _ _ _ => some [rdHi, rdLo]
  | .smulxy _ rd _ _ _ _ => some [rd]
  | .andShiftImm _ _ _ rd _ => some [rd]
  | .eorShiftImm _ _ _ rd _ => some [rd]
  | .subShiftImm _ _ _ rd _ => some [rd]
  | .rsbShiftImm _ _ _ rd _ => some [rd]
  | .addShiftImm _ _ _ rd _ => some [rd]
  | .adcShiftImm _ _ _ rd _ => some [rd]
  | .sbcShiftImm _ _ _ rd _ => some [rd]
  | .rscShiftImm _ _ _ rd _ => some [rd]
  | .tstShiftImm _ _ _ => some []
  | .teqShiftImm _ _ _ => some []
  | .cmpShiftImm _ _ _ => some []
  | .cmnShiftImm _ _ _ => some []
  | .orrShiftImm _ _ _ rd _ => some [rd]
  | .movShiftImm _ _ rd _ => some [rd]
  | .bicShiftImm _ _ _ rd _ => some [rd]
  | .mvnShiftImm _ _ rd _ => some [rd]
  | .andShiftReg _ _ _ rd _ => some [rd]
  | .eorShiftReg _ _ _ rd _ => some [rd]
  | .subShiftReg _ _ _ rd _ => some [rd]
  | .rsbShiftReg _ _ _ rd _ => some [rd]
  | .addShiftReg _ _ _ rd _ => some [rd]
  | .adcShiftReg _ _ _ rd _ => some [rd]
  | .sbcShiftReg _ _ _ rd _ => some [rd]
  | .rscShiftReg _ _ _ rd _ => some [rd]
  | .tstShiftReg _ _ _ => some []
  | .teqShiftReg _ _ _ => some []
  | .cmpShiftReg _ _ _ => some []
  | .cmnShiftReg _ _ _ => some []
  | .orrShiftReg _ _ _ rd _ => some [rd]
  | .movShiftReg _ _ rd _ => some [rd]
  | .bicShiftReg _ _ _ rd _ => some [rd]
  | .mvnShiftReg _ _ rd _ => some [rd]
  | .msrImm _ _ _ _ => none
  | .andImm _ _ _ rd _ => some [rd]
  | .eorImm _ _ _ rd _ => some [rd]
  | .subImm _ _ _ rd _ => some [rd]
  | .rsbImm _ _ _ rd _ => some [rd]
  | .addImm _ _ _ rd _ => some [rd]
  | .adcImm _ _ _ rd _ => some [rd]
  | .sbcImm _ _ _ rd _ => some [rd]
  | .rscImm _ _ _ rd _ => some [rd]
  | .tstImm _ _ _ => some []
  | .teqImm _ _ _ => some []
  | .cmpImm _ _ _ => some []
  | .cmnImm _ _ _ => some []
  | .orrImm _ _ _ rd _ => some [rd]
  | .movImm _ _ rd _ => some [rd]
  | .bicImm _ _ _ rd _ => some [rd]
  | .mvnImm _ _ rd _ => some [rd]
  | .strtImm _ _ _ _ _ => none
  | .ldrtImm _ _ _ _ _ => none
  | .strbtImm _ _ _ _ _ => none
  | .ldrbtImm _ _ _ _ _ => none
  | .strImm _ _ _ _ _ _ => none
  | .ldrImm _ _ _ _ _ _ => none
  | .strbImm _ _ _ _ _ _ => none
  | .ldrbImm _ _ _ _ _ _ => none
  | .strtReg _ _ _ _ _ => none
  | .ldrtReg _ _ _ _ _ => none
  | .strbtReg _ _ _ _ _ => none
  | .ldrbtReg _ _ _ _ _ => none
  | .strReg _ _ _ _ _ _ => none
  | .ldrReg _ _ _ _ _ _ => none
  | .strbReg _ _ _ _ _ _ => none
  | .ldrbReg _ _ _ _ _ _ => none
  | .sadd16 _ _ rd _ => some [rd]
  | .saddsubx _ _ rd _ => some [rd]
  | .ssubaddx _ _ rd _ => some [rd]
  | .ssub16 _ _ rd _ => some [rd]
  | .sadd8 _ _ rd _ => some [rd]
  | .ssub8 _ _ rd _ => some [rd]
  | .qadd16 _ _ rd _ => some [rd]
  | .qaddsubx _ _ rd _ => some [rd]
  | .qsubaddx _ _ rd _ => some [rd]
  | .qsub16 _ _ rd _ => some [rd]
  | .qadd8 _ _ rd _ => some [rd]
  | .qsub8 _ _ rd _ => some [rd]
  | .shadd16 _ _ rd _ => some [rd]
  | .shaddsubx _ _ rd _ => some [rd]
  | .shsubaddx _ _ rd _ => some [rd]
  | .shsub16 _ _ rd _ => some [rd]
  | .shadd8 _ _ rd _ => some [rd]
  | .shsub8 _ _ rd _ => some [rd]
  | .uadd16 _ _ rd _ => some [rd]
  | .uaddsubx _ _ rd _ => some [rd]
  | .usubaddx _ _ rd _ => some [rd]
  | .usub16 _ _ rd _ => some [rd]
  | .uadd8 _ _ rd _ => some [rd]
  | .usub8 _ _ rd _ => some [rd]
  | .uqadd16 _ _ rd _ => some [rd]
  | .uqaddsubx _ _ rd _ => some [rd]
  | .uqsubaddx _ _ rd _ => some [rd]
  | .uqsub16 _ _ rd _ => some [rd]
  | .uqadd8 _ _ rd _ => some [rd]
  | .uqsub8 _ _ rd _ => some [rd]
  | .uhadd16 _ _ rd _ => some [rd]
  | .uhaddsubx _ _ rd _ => some [rd]
  | .uhsubaddx _ _ rd _ => some [rd]
  | .uhsub16 _ _ rd _ => some [rd]
  | .uhadd8 _ _ rd _ => some [rd]
  | .uhsub8 _ _ rd _ => some [rd]
  | .pkhbt _ _ rd _ _ => some [rd]
  | .pkhtb _ _ rd _ _ => some [rd]
  | .ssat _ _ rd _ _ _ => some [rd]
  | .usat _ _ rd _ _ _ => some [rd]
  | .ssat16 _ _ rd _ => some [rd]
  | .usat16 _ _ rd _ => some [rd]
  | .rev _ rd _ => some [rd]
  | .rev16 _ rd _ => some [rd]
  | .revsh _ rd _ => some [rd]
  | .sel _ _ rd _ => some [rd]
  | .sxtb16 _ rd _ _ => some [rd]
  | .sxtab16 _ _ rd _ _ => some [rd]
  | .sxtb _ rd _ _ => some [rd]
  | .sxtab _ _ rd _ _ => some [rd]
  | .sxth _ rd _ _ => some [rd]
  | .sxtah _ _ rd _ _ => some [rd]
  | .uxtb16 _ rd _ _ => some [rd]
  | .uxtab16 _ _ rd _ _ => some [rd]
  | .uxtb _ rd _ _ => some [rd]
  | .uxtab _ _ rd _ _ => some [rd]
  | .uxth _ rd _ _ => some [rd]
  | .uxtah _ _ rd _ _ => some [rd]
  | .smuad _ rd _ _ _ => some [rd]
  | .smlad _ rd _ _ _ _ => some [rd]
  | .smusd _ rd _ _ _ => some [rd]
  | .smlsd _ rd _ _ _ _ => some [rd]
  | .smlald _ rdHi rdLo _ _ _ => some [rdHi, rdLo]
  | .smlsld _ rdHi rdLo _ _ _ => some [rdHi, rdLo]
  | .smmul _ rd _ _ _ => some [rd]
  | .smmla _ rd _ _ _ _ => some [rd]
  | .smmls _ rd _ _ _ _ => some [rd]
  | .usad8 _ rd _ _ => some [rd]
  | .usada8 _ rd _ _ _ => some [rd]
  | .ldm1 _ _ _ _ _ => none
  | .ldm3 _ _ _ _ _ => none
  | .ldm2 _ _ _ _ _ => none
  | .stm1 _ _ _ _ _ => none
  | .stm2 _ _ _ _ _ => none
  | .b _ _ => none
  | .bl _ _ => none
  | .mcrr _ _ _ _ _ _ => none
  | .mrrc _ _ _ _ _ _ => none
  | .stc _ _ _ _ _ _ _ _ _ => none
  | .ldc _ _ _ _ _ _ _ _ _ => none
  | .cdp _ _ _ _ _ _ _ => none
  | .mcr _ _ _ _ _ _ _ => none
  | .mrc _ _ _ _ _ _ _ => none
  | .swi _ _ => none
  | .undefinedWord _ => none
  | .unpredictableWord _ => none

/-- The instructions that can write the CPSR from a register, an immediate, an SPSR or memory: MSR to the CPSR, and the
returns from an exception (R51). -/
def loadsCpsr : Instr → Bool
  | .cps _ _ _ _ _ _ => false
  | .setend _ => false
  | .pldImm _ _ _ => false
  | .pldReg _ _ _ => false
  | .srs _ _ _ => false
  | .rfe _ _ _ => true
  | .blx1 _ _ => false
  | .mcrr2 _ _ _ _ _ => false
  | .mrrc2 _ _ _ _ _ => false
  | .stc2 _ _ _ _ _ _ _ _ => false
  | .ldc2 _ _ _ _ _ _ _ _ => false
  | .cdp2 _ _ _ _ _ _ => false
  | .mcr2 _ _ _ _ _ _ => false
  | .mrc2 _ _ _ _ _ _ => false
  | .mul _ _ _ _ _ => false
  | .mla _ _ _ _ _ _ => false
  | .umaal _ _ _ _ _ => false
  | .umull _ _ _ _ _ _ => false
  | .umlal _ _ _ _ _ _ => false
  | .smull _ _ _ _ _ _ => false
  | .smlal _ _ _ _ _ _ => false
  | .swp _ _ _ _ => false
  | .swpb _ _ _ _ => false
  | .strex _ _ _ _ => false
  | .ldrex _ _ _ => false
  | .strhReg _ _ _ _ _ _ => false
  | .strhImm _ _ _ _ _ _ => false
  | .ldrhReg _ _ _ _ _ _ => false
  | .ldrhImm _ _ _ _ _ _ => false
  | .ldrdReg _ _ _ _ _ _ => false
  | .ldrdImm _ _ _ _ _ _ => false
  | .ldrsbReg _ _ _ _ _ _ => false
  | .ldrsbImm _ _ _ _ _ _ => false
  | .strdReg _ _ _ _ _ _ => false
  | .strdImm _ _ _ _ _ _ => false
  | .ldrshReg _ _ _ _ _ _ => false
  | .ldrshImm _ _ _ _ _ _ => false
  | .mrs _ _ _ => false
  | .msrReg _ r _ _ => !r
  | .bx _ _ => false
  | .clz _ _ _ => false
  | .bxj _ _ => false
  | .blx2 _ _ => false
  | .qadd _ _ _ _ => false
  | .qsub _ _ _ _ => false
  | .qdadd _ _ _ _ => false
  | .qdsub _ _ _ _ => false
  | .bkpt _ => false
  | .smlaxy _ _ _ _ _ _ _ => false
  | .smlawy _ _ _ _ _ _ => false
  | .smulwy _ _ _ _ _ => false
  | .smlalxy _ _ _ _ _ _ _ => false
  | .smulxy _ _ _ _ _ _ => false
  | .andShiftImm _ s _ rd _ => s && rd == 15#4
  | .eorShiftImm _ s _ rd _ => s && rd == 15#4
  | .subShiftImm _ s _ rd _ => s && rd == 15#4
  | .rsbShiftImm _ s _ rd _ => s && rd == 15#4
  | .addShiftImm _ s _ rd _ => s && rd == 15#4
  | .adcShiftImm _ s _ rd _ => s && rd == 15#4
  | .sbcShiftImm _ s _ rd _ => s && rd == 15#4
  | .rscShiftImm _ s _ rd _ => s && rd == 15#4
  | .tstShiftImm _ _ _ => false
  | .teqShiftImm _ _ _ => false
  | .cmpShiftImm _ _ _ => false
  | .cmnShiftImm _ _ _ => false
  | .orrShiftImm _ s _ rd _ => s && rd == 15#4
  | .movShiftImm _ s rd _ => s && rd == 15#4
  | .bicShiftImm _ s _ rd _ => s && rd == 15#4
  | .mvnShiftImm _ s rd _ => s && rd == 15#4
  | .andShiftReg _ s _ rd _ => s && rd == 15#4
  | .eorShiftReg _ s _ rd _ => s && rd == 15#4
  | .subShiftReg _ s _ rd _ => s && rd == 15#4
  | .rsbShiftReg _ s _ rd _ => s && rd == 15#4
  | .addShiftReg _ s _ rd _ => s && rd == 15#4
  | .adcShiftReg _ s _ rd _ => s && rd == 15#4
  | .sbcShiftReg _ s _ rd _ => s && rd == 15#4
  | .rscShiftReg _ s _ rd _ => s && rd == 15#4
  | .tstShiftReg _ _ _ => false
  | .teqShiftReg _ _ _ => false
  | .cmpShiftReg _ _ _ => false
  | .cmnShiftReg _ _ _ => false
  | .orrShiftReg _ s _ rd _ => s && rd == 15#4
  | .movShiftReg _ s rd _ => s && rd == 15#4
  | .bicShiftReg _ s _ rd _ => s && rd == 15#4
  | .mvnShiftReg _ s rd _ => s && rd == 15#4
  | .msrImm _ r _ _ => !r
  | .andImm _ s _ rd _ => s && rd == 15#4
  | .eorImm _ s _ rd _ => s && rd == 15#4
  | .subImm _ s _ rd _ => s && rd == 15#4
  | .rsbImm _ s _ rd _ => s && rd == 15#4
  | .addImm _ s _ rd _ => s && rd == 15#4
  | .adcImm _ s _ rd _ => s && rd == 15#4
  | .sbcImm _ s _ rd _ => s && rd == 15#4
  | .rscImm _ s _ rd _ => s && rd == 15#4
  | .tstImm _ _ _ => false
  | .teqImm _ _ _ => false
  | .cmpImm _ _ _ => false
  | .cmnImm _ _ _ => false
  | .orrImm _ s _ rd _ => s && rd == 15#4
  | .movImm _ s rd _ => s && rd == 15#4
  | .bicImm _ s _ rd _ => s && rd == 15#4
  | .mvnImm _ s rd _ => s && rd == 15#4
  | .strtImm _ _ _ _ _ => false
  | .ldrtImm _ _ _ _ _ => false
  | .strbtImm _ _ _ _ _ => false
  | .ldrbtImm _ _ _ _ _ => false
  | .strImm _ _ _ _ _ _ => false
  | .ldrImm _ _ _ _ _ _ => false
  | .strbImm _ _ _ _ _ _ => false
  | .ldrbImm _ _ _ _ _ _ => false
  | .strtReg _ _ _ _ _ => false
  | .ldrtReg _ _ _ _ _ => false
  | .strbtReg _ _ _ _ _ => false
  | .ldrbtReg _ _ _ _ _ => false
  | .strReg _ _ _ _ _ _ => false
  | .ldrReg _ _ _ _ _ _ => false
  | .strbReg _ _ _ _ _ _ => false
  | .ldrbReg _ _ _ _ _ _ => false
  | .sadd16 _ _ _ _ => false
  | .saddsubx _ _ _ _ => false
  | .ssubaddx _ _ _ _ => false
  | .ssub16 _ _ _ _ => false
  | .sadd8 _ _ _ _ => false
  | .ssub8 _ _ _ _ => false
  | .qadd16 _ _ _ _ => false
  | .qaddsubx _ _ _ _ => false
  | .qsubaddx _ _ _ _ => false
  | .qsub16 _ _ _ _ => false
  | .qadd8 _ _ _ _ => false
  | .qsub8 _ _ _ _ => false
  | .shadd16 _ _ _ _ => false
  | .shaddsubx _ _ _ _ => false
  | .shsubaddx _ _ _ _ => false
  | .shsub16 _ _ _ _ => false
  | .shadd8 _ _ _ _ => false
  | .shsub8 _ _ _ _ => false
  | .uadd16 _ _ _ _ => false
  | .uaddsubx _ _ _ _ => false
  | .usubaddx _ _ _ _ => false
  | .usub16 _ _ _ _ => false
  | .uadd8 _ _ _ _ => false
  | .usub8 _ _ _ _ => false
  | .uqadd16 _ _ _ _ => false
  | .uqaddsubx _ _ _ _ => false
  | .uqsubaddx _ _ _ _ => false
  | .uqsub16 _ _ _ _ => false
  | .uqadd8 _ _ _ _ => false
  | .uqsub8 _ _ _ _ => false
  | .uhadd16 _ _ _ _ => false
  | .uhaddsubx _ _ _ _ => false
  | .uhsubaddx _ _ _ _ => false
  | .uhsub16 _ _ _ _ => false
  | .uhadd8 _ _ _ _ => false
  | .uhsub8 _ _ _ _ => false
  | .pkhbt _ _ _ _ _ => false
  | .pkhtb _ _ _ _ _ => false
  | .ssat _ _ _ _ _ _ => false
  | .usat _ _ _ _ _ _ => false
  | .ssat16 _ _ _ _ => false
  | .usat16 _ _ _ _ => false
  | .rev _ _ _ => false
  | .rev16 _ _ _ => false
  | .revsh _ _ _ => false
  | .sel _ _ _ _ => false
  | .sxtb16 _ _ _ _ => false
  | .sxtab16 _ _ _ _ _ => false
  | .sxtb _ _ _ _ => false
  | .sxtab _ _ _ _ _ => false
  | .sxth _ _ _ _ => false
  | .sxtah _ _ _ _ _ => false
  | .uxtb16 _ _ _ _ => false
  | .uxtab16 _ _ _ _ _ => false
  | .uxtb _ _ _ _ => false
  | .uxtab _ _ _ _ _ => false
  | .uxth _ _ _ _ => false
  | .uxtah _ _ _ _ _ => false
  | .smuad _ _ _ _ _ => false
  | .smlad _ _ _ _ _ _ => false
  | .smusd _ _ _ _ _ => false
  | .smlsd _ _ _ _ _ _ => false
  | .smlald _ _ _ _ _ _ => false
  | .smlsld _ _ _ _ _ _ => false
  | .smmul _ _ _ _ _ => false
  | .smmla _ _ _ _ _ _ => false
  | .smmls _ _ _ _ _ _ => false
  | .usad8 _ _ _ _ => false
  | .usada8 _ _ _ _ _ => false
  | .ldm1 _ _ _ _ _ => false
  | .ldm3 _ _ _ _ _ => true
  | .ldm2 _ _ _ _ _ => false
  | .stm1 _ _ _ _ _ => false
  | .stm2 _ _ _ _ _ => false
  | .b _ _ => false
  | .bl _ _ => false
  | .mcrr _ _ _ _ _ _ => false
  | .mrrc _ _ _ _ _ _ => false
  | .stc _ _ _ _ _ _ _ _ _ => false
  | .ldc _ _ _ _ _ _ _ _ _ => false
  | .cdp _ _ _ _ _ _ _ => false
  | .mcr _ _ _ _ _ _ _ => false
  | .mrc _ _ _ _ _ _ _ => false
  | .swi _ _ => false
  | .undefinedWord _ => false
  | .unpredictableWord _ => false

/-- The operand combinations that the instruction itself calls UNPREDICTABLE: R15 where it may not stand (R405, R425,
R451, R490, R540, R591, R592, R605, R613, R615, R620, R652, R670), equal destinations of a long result (R451), the base
of a writeback form (R605, R669), odd pairs (R629), an empty register list and the base R15 (R669), a writeback of the
User bank forms (R662). -/
def restrictedOperands : Instr → Bool
  | .cps _ _ _ _ _ _ => false
  | .setend _ => false
  | .pldImm _ _ _ => false
  | .pldReg _ _ _ => false
  | .srs _ _ _ => false
  | .rfe _ _ _ => false
  | .blx1 _ _ => false
  | .mcrr2 _ _ _ _ _ => false
  | .mrrc2 _ _ _ _ _ => false
  | .stc2 _ _ _ _ _ _ _ _ => false
  | .ldc2 _ _ _ _ _ _ _ _ => false
  | .cdp2 _ _ _ _ _ _ => false
  | .mcr2 _ _ _ _ _ _ => false
  | .mrc2 _ _ _ _ _ _ => false
  | .mul _ _ rd rs rm => [rd, rs, rm].contains 15#4
  | .mla _ _ rd rn rs rm => [rd, rn, rs, rm].contains 15#4
  | .umaal _ rdHi rdLo rs rm => [rdHi, rdLo, rs, rm].contains 15#4 || rdHi == rdLo
  | .umull _ _ rdHi rdLo rs rm => [rdHi, rdLo, rs, rm].contains 15#4 || rdHi == rdLo
  | .umlal _ _ rdHi rdLo rs rm => [rdHi, rdLo, rs, rm].contains 15#4 || rdHi == rdLo
  | .smull _ _ rdHi rdLo rs rm => [rdHi, rdLo, rs, rm].contains 15#4 || rdHi == rdLo
  | .smlal _ _ rdHi rdLo rs rm => [rdHi, rdLo, rs, rm].contains 15#4 || rdHi == rdLo
  | .swp _ rn rd rm => [rn, rd, rm].contains 15#4 || rn == rm || rn == rd
  | .swpb _ rn rd rm => [rn, rd, rm].contains 15#4 || rn == rm || rn == rd
  | .strex _ rn rd rm => [rn, rd, rm].contains 15#4 || rd == rn || rd == rm
  | .ldrex _ rn rd => [rn, rd].contains 15#4
  | .strhReg _ idx _ rn rd rm =>
    [rd].contains 15#4 || rm == 15#4 || (idx != .offset && (rn == 15#4 || rn == rd || rm == rn))
  | .strhImm _ idx _ rn rd _ => [rd].contains 15#4 || (idx != .offset && (rn == 15#4 || rn == rd))
  | .ldrhReg _ idx _ rn rd rm =>
    [rd].contains 15#4 || rm == 15#4 || (idx != .offset && (rn == 15#4 || rn == rd || rm == rn))
  | .ldrhImm _ idx _ rn rd _ => [rd].contains 15#4 || (idx != .offset && (rn == 15#4 || rn == rd))
  | .ldrdReg _ idx _ rn rd rm =>
    rd.getLsbD 0 || rd == 14#4 || rm == 15#4 || rm == rd || rm == rd + 1 || (idx != .offset && (rn == 15#4 || rn == rd || rn == rd + 1 || rm == rn))
  | .ldrdImm _ idx _ rn rd _ =>
    rd.getLsbD 0 || rd == 14#4 || (idx != .offset && (rn == 15#4 || rn == rd || rn == rd + 1))
  | .ldrsbReg _ idx _ rn rd rm =>
    [rd].contains 15#4 || rm == 15#4 || (idx != .offset && (rn == 15#4 || rn == rd || rm == rn))
  | .ldrsbImm _ idx _ rn rd _ => [rd].contains 15#4 || (idx != .offset && (rn == 15#4 || rn == rd))
  | .strdReg _ idx _ rn rd rm =>
    rd.getLsbD 0 || rd == 14#4 || rm == 15#4 || (idx != .offset && (rn == 15#4 || rn == rd || rn == rd + 1 || rm == rn))
  | .strdImm _ idx _ rn rd _ =>
    rd.getLsbD 0 || rd == 14#4 || (idx != .offset && (rn == 15#4 || rn == rd || rn == rd + 1))
  | .ldrshReg _ idx _ rn rd rm =>
    [rd].contains 15#4 || rm == 15#4 || (idx != .offset && (rn == 15#4 || rn == rd || rm == rn))
  | .ldrshImm _ idx _ rn rd _ => [rd].contains 15#4 || (idx != .offset && (rn == 15#4 || rn == rd))
  | .mrs _ _ rd => [rd].contains 15#4
  | .msrReg _ _ _ rm => [rm].contains 15#4
  | .bx _ _ => false
  | .clz _ rd rm => [rd, rm].contains 15#4
  | .bxj _ _ => false
  | .blx2 _ rm => [rm].contains 15#4
  | .qadd _ rn rd rm => [rn, rd, rm].contains 15#4
  | .qsub _ rn rd rm => [rn, rd, rm].contains 15#4
  | .qdadd _ rn rd rm => [rn, rd, rm].contains 15#4
  | .qdsub _ rn rd rm => [rn, rd, rm].contains 15#4
  | .bkpt _ => false
  | .smlaxy _ rd rn rs _ _ rm => [rd, rn, rs, rm].contains 15#4
  | .smlawy _ rd rn rs _ rm => [rd, rn, rs, rm].contains 15#4
  | .smulwy _ rd rs _ rm => [rd, rs, rm].contains 15#4
  | .smlalxy _ rdHi rdLo rs _ _ rm => [rdHi, rdLo, rs, rm].contains 15#4 || rdHi == rdLo
  | .smulxy _ rd rs _ _ rm => [rd, rs, rm].contains 15#4
  | .andShiftImm _ _ _ _ _ => false
  | .eorShiftImm _ _ _ _ _ => false
  | .subShiftImm _ _ _ _ _ => false
  | .rsbShiftImm _ _ _ _ _ => false
  | .addShiftImm _ _ _ _ _ => false
  | .adcShiftImm _ _ _ _ _ => false
  | .sbcShiftImm _ _ _ _ _ => false
  | .rscShiftImm _ _ _ _ _ => false
  | .tstShiftImm _ _ _ => false
  | .teqShiftImm _ _ _ => false
  | .cmpShiftImm _ _ _ => false
  | .cmnShiftImm _ _ _ => false
  | .orrShiftImm _ _ _ _ _ => false
  | .movShiftImm _ _ _ _ => false
  | .bicShiftImm _ _ _ _ _ => false
  | .mvnShiftImm _ _ _ _ => false
  | .andShiftReg _ _ rn rd op => [rn, rd, op.rm, op.rs].contains 15#4
  | .eorShiftReg _ _ rn rd op => [rn, rd, op.rm, op.rs].contains 15#4
  | .subShiftReg _ _ rn rd op => [rn, rd, op.rm, op.rs].contains 15#4
  | .rsbShiftReg _ _ rn rd op => [rn, rd, op.rm, op.rs].contains 15#4
  | .addShiftReg _ _ rn rd op => [rn, rd, op.rm, op.rs].contains 15#4
  | .adcShiftReg _ _ rn rd op => [rn, rd, op.rm, op.rs].contains 15#4
  | .sbcShiftReg _ _ rn rd op => [rn, rd, op.rm, op.rs].contains 15#4
  | .rscShiftReg _ _ rn rd op => [rn, rd, op.rm, op.rs].contains 15#4
  | .tstShiftReg _ rn op => [rn, op.rm, op.rs].contains 15#4
  | .teqShiftReg _ rn op => [rn, op.rm, op.rs].contains 15#4
  | .cmpShiftReg _ rn op => [rn, op.rm, op.rs].contains 15#4
  | .cmnShiftReg _ rn op => [rn, op.rm, op.rs].contains 15#4
  | .orrShiftReg _ _ rn rd op => [rn, rd, op.rm, op.rs].contains 15#4
  | .movShiftReg _ _ rd op => [rd, op.rm, op.rs].contains 15#4
  | .bicShiftReg _ _ rn rd op => [rn, rd, op.rm, op.rs].contains 15#4
  | .mvnShiftReg _ _ rd op => [rd, op.rm, op.rs].contains 15#4
  | .msrImm _ _ _ _ => false
  | .andImm _ _ _ _ _ => false
  | .eorImm _ _ _ _ _ => false
  | .subImm _ _ _ _ _ => false
  | .rsbImm _ _ _ _ _ => false
  | .addImm _ _ _ _ _ => false
  | .adcImm _ _ _ _ _ => false
  | .sbcImm _ _ _ _ _ => false
  | .rscImm _ _ _ _ _ => false
  | .tstImm _ _ _ => false
  | .teqImm _ _ _ => false
  | .cmpImm _ _ _ => false
  | .cmnImm _ _ _ => false
  | .orrImm _ _ _ _ _ => false
  | .movImm _ _ _ _ => false
  | .bicImm _ _ _ _ _ => false
  | .mvnImm _ _ _ _ => false
  | .strtImm _ _ rn rd _ => [rd].contains 15#4 || rn == 15#4 || rn == rd
  | .ldrtImm _ _ rn rd _ => [rd].contains 15#4 || rn == 15#4 || rn == rd
  | .strbtImm _ _ rn rd _ => [rd].contains 15#4 || rn == 15#4 || rn == rd
  | .ldrbtImm _ _ rn rd _ => [rd].contains 15#4 || rn == 15#4 || rn == rd
  | .strImm _ idx _ rn rd _ => (idx != .offset && (rn == 15#4 || rn == rd))
  | .ldrImm _ idx _ rn rd _ => (idx != .offset && (rn == 15#4 || rn == rd))
  | .strbImm _ idx _ rn rd _ => [rd].contains 15#4 || (idx != .offset && (rn == 15#4 || rn == rd))
  | .ldrbImm _ idx _ rn rd _ => [rd].contains 15#4 || (idx != .offset && (rn == 15#4 || rn == rd))
  | .strtReg _ _ rn rd op => [rd].contains 15#4 || op.rm == 15#4 || rn == 15#4 || rn == rd || op.rm == rn
  | .ldrtReg _ _ rn rd op => [rd].contains 15#4 || op.rm == 15#4 || rn == 15#4 || rn == rd || op.rm == rn
  | .strbtReg _ _ rn rd op => [rd].contains 15#4 || op.rm == 15#4 || rn == 15#4 || rn == rd || op.rm == rn
  | .ldrbtReg _ _ rn rd op => [rd].contains 15#4 || op.rm == 15#4 || rn == 15#4 || rn == rd || op.rm == rn
  | .strReg _ idx _ rn rd op => op.rm == 15#4 || (idx != .offset && (rn == 15#4 || rn == rd || op.rm == rn))
  | .ldrReg _ idx _ rn rd op => op.rm == 15#4 || (idx != .offset && (rn == 15#4 || rn == rd || op.rm == rn))
  | .strbReg _ idx _ rn rd op =>
    [rd].contains 15#4 || op.rm == 15#4 || (idx != .offset && (rn == 15#4 || rn == rd || op.rm == rn))
  | .ldrbReg _ idx _ rn rd op =>
    [rd].contains 15#4 || op.rm == 15#4 || (idx != .offset && (rn == 15#4 || rn == rd || op.rm == rn))
  | .sadd16 _ rn rd rm => [rn, rd, rm].contains 15#4
  | .saddsubx _ rn rd rm => [rn, rd, rm].contains 15#4
  | .ssubaddx _ rn rd rm => [rn, rd, rm].contains 15#4
  | .ssub16 _ rn rd rm => [rn, rd, rm].contains 15#4
  | .sadd8 _ rn rd rm => [rn, rd, rm].contains 15#4
  | .ssub8 _ rn rd rm => [rn, rd, rm].contains 15#4
  | .qadd16 _ rn rd rm => [rn, rd, rm].contains 15#4
  | .qaddsubx _ rn rd rm => [rn, rd, rm].contains 15#4
  | .qsubaddx _ rn rd rm => [rn, rd, rm].contains 15#4
  | .qsub16 _ rn rd rm => [rn, rd, rm].contains 15#4
  | .qadd8 _ rn rd rm => [rn, rd, rm].contains 15#4
  | .qsub8 _ rn rd rm => [rn, rd, rm].contains 15#4
  | .shadd16 _ rn rd rm => [rn, rd, rm].contains 15#4
  | .shaddsubx _ rn rd rm => [rn, rd, rm].contains 15#4
  | .shsubaddx _ rn rd rm => [rn, rd, rm].contains 15#4
  | .shsub16 _ rn rd rm => [rn, rd, rm].contains 15#4
  | .shadd8 _ rn rd rm => [rn, rd, rm].contains 15#4
  | .shsub8 _ rn rd rm => [rn, rd, rm].contains 15#4
  | .uadd16 _ rn rd rm => [rn, rd, rm].contains 15#4
  | .uaddsubx _ rn rd rm => [rn, rd, rm].contains 15#4
  | .usubaddx _ rn rd rm => [rn, rd, rm].contains 15#4
  | .usub16 _ rn rd rm => [rn, rd, rm].contains 15#4
  | .uadd8 _ rn rd rm => [rn, rd, rm].contains 15#4
  | .usub8 _ rn rd rm => [rn, rd, rm].contains 15#4
  | .uqadd16 _ rn rd rm => [rn, rd, rm].contains 15#4
  | .uqaddsubx _ rn rd rm => [rn, rd, rm].contains 15#4
  | .uqsubaddx _ rn rd rm => [rn, rd, rm].contains 15#4
  | .uqsub16 _ rn rd rm => [rn, rd, rm].contains 15#4
  | .uqadd8 _ rn rd rm => [rn, rd, rm].contains 15#4
  | .uqsub8 _ rn rd rm => [rn, rd, rm].contains 15#4
  | .uhadd16 _ rn rd rm => [rn, rd, rm].contains 15#4
  | .uhaddsubx _ rn rd rm => [rn, rd, rm].contains 15#4
  | .uhsubaddx _ rn rd rm => [rn, rd, rm].contains 15#4
  | .uhsub16 _ rn rd rm => [rn, rd, rm].contains 15#4
  | .uhadd8 _ rn rd rm => [rn, rd, rm].contains 15#4
  | .uhsub8 _ rn rd rm => [rn, rd, rm].contains 15#4
  | .pkhbt _ rn rd _ rm => [rn, rd, rm].contains 15#4
  | .pkhtb _ rn rd _ rm => [rn, rd, rm].contains 15#4
  | .ssat _ _ rd _ _ rm => [rd, rm].contains 15#4
  | .usat _ _ rd _ _ rm => [rd, rm].contains 15#4
  | .ssat16 _ _ rd rm => [rd, rm].contains 15#4
  | .usat16 _ _ rd rm => [rd, rm].contains 15#4
  | .rev _ rd rm => [rd, rm].contains 15#4
  | .rev16 _ rd rm => [rd, rm].contains 15#4
  | .revsh _ rd rm => [rd, rm].contains 15#4
  | .sel _ rn rd rm => [rn, rd, rm].contains 15#4
  | .sxtb16 _ rd _ rm => [rd, rm].contains 15#4
  | .sxtab16 _ rn rd _ rm => [rn, rd, rm].contains 15#4
  | .sxtb _ rd _ rm => [rd, rm].contains 15#4
  | .sxtab _ rn rd _ rm => [rn, rd, rm].contains 15#4
  | .sxth _ rd _ rm => [rd, rm].contains 15#4
  | .sxtah _ rn rd _ rm => [rn, rd, rm].contains 15#4
  | .uxtb16 _ rd _ rm => [rd, rm].contains 15#4
  | .uxtab16 _ rn rd _ rm => [rn, rd, rm].contains 15#4
  | .uxtb _ rd _ rm => [rd, rm].contains 15#4
  | .uxtab _ rn rd _ rm => [rn, rd, rm].contains 15#4
  | .uxth _ rd _ rm => [rd, rm].contains 15#4
  | .uxtah _ rn rd _ rm => [rn, rd, rm].contains 15#4
  | .smuad _ rd rs _ rm => [rd, rs, rm].contains 15#4
  | .smlad _ rd rn rs _ rm => [rd, rn, rs, rm].contains 15#4
  | .smusd _ rd rs _ rm => [rd, rs, rm].contains 15#4
  | .smlsd _ rd rn rs _ rm => [rd, rn, rs, rm].contains 15#4
  | .smlald _ rdHi rdLo rs _ rm => [rdHi, rdLo, rs, rm].contains 15#4 || rdHi == rdLo
  | .smlsld _ rdHi rdLo rs _ rm => [rdHi, rdLo, rs, rm].contains 15#4 || rdHi == rdLo
  | .smmul _ rd rs _ rm => [rd, rs, rm].contains 15#4
  | .smmla _ rd rn rs _ rm => [rd, rn, rs, rm].contains 15#4
  | .smmls _ rd rn rs _ rm => [rd, rn, rs, rm].contains 15#4
  | .usad8 _ rd rs rm => [rd, rs, rm].contains 15#4
  | .usada8 _ rd rn rs rm => [rd, rn, rs, rm].contains 15#4
  | .ldm1 _ _ wb rn list => list == 0 || rn == 15#4 || (wb && list.getLsbD rn.toNat)
  | .ldm3 _ _ wb rn list => rn == 15#4 || (wb && list.getLsbD rn.toNat)
  | .ldm2 _ _ wb rn list => list == 0 || rn == 15#4 || wb
  | .stm1 _ _ wb rn list => list == 0 || rn == 15#4 || (wb && list.getLsbD rn.toNat && list.toNat % 2 ^ rn.toNat != 0)
  | .stm2 _ _ wb rn list => list == 0 || rn == 15#4 || wb
  | .b _ _ => false
  | .bl _ _ => false
  | .mcrr _ _ _ _ _ _ => false
  | .mrrc _ _ _ _ _ _ => false
  | .stc _ _ _ _ _ _ _ _ _ => false
  | .ldc _ _ _ _ _ _ _ _ _ => false
  | .cdp _ _ _ _ _ _ _ => false
  | .mcr _ _ _ _ _ _ _ => false
  | .mrc _ _ _ _ _ _ _ => false
  | .swi _ _ => false
  | .undefinedWord _ => false
  | .unpredictableWord _ => false

/-! ### What a step leaves alone -/

/-- Every physical register but the listed ones is unchanged. -/
def SameRegs (s t : State) (written : List PhysReg) : Prop := ∀ p, p ∉ written → t.regs.get p = s.regs.get p

/-- Every byte of memory reads as before. -/
def SameMemory (s t : State) : Prop := ∀ a, t.mem.read a = s.mem.read a

/-- The registers an exception saves into, the CP15 registers, the monitor and the parameters are unchanged. -/
def SameSystem (s t : State) : Prop :=
  t.spsr = s.spsr ∧ t.sctlr = s.sctlr ∧ t.ttbr0 = s.ttbr0 ∧ t.ttbr0Writes = s.ttbr0Writes ∧ t.ttbr1 = s.ttbr1
    ∧ t.ttbcr = s.ttbcr ∧ t.dacr = s.dacr ∧ t.contextId = s.contextId ∧ t.dfsr = s.dfsr ∧ t.ifsr = s.ifsr ∧ t.far = s.far ∧ t.wfar = s.wfar
    ∧ t.ifar = s.ifar ∧ t.excl = s.excl ∧ t.cfg = s.cfg

/-- An instruction's own accesses change nothing else than what the TLB holds, which answer of the memory system, which
replacement and which window member comes next, how many free values are drawn, and the imprecise aborts pending. -/
def SameButTlb (s t : State) : Prop :=
  t = { s with
    tlbD := t.tlbD, tlbI := t.tlbI, responses := t.responses, replacements := t.replacements, picks := t.picks,
    draws := t.draws, pendingImprecise := t.pendingImprecise, pendingParity := t.pendingParity }

/-- The physical addresses of the words that a store of several words writes, one after the other (R664, R673). -/
def storeAddresses (s : State) (va : Word) (user : Bool) : List Word → List Nat
  | [] => []
  | v :: vs =>
    match dataAddress s va .word .write user, memWrite s va .word v user with
    | .ok pa _, .ok _ t => pa.toNat :: storeAddresses t (va + 4) user vs
    | _, _ => []

/-- An access stored `n` bytes at each of the addresses `pas` and changed nothing else but what `SameButTlb` names. -/
def OnlyStored (s t : State) (pas : List Nat) (n : Nat) : Prop :=
  SameButTlb { s with mem := t.mem } t ∧ ∀ a, (∀ pa ∈ pas, a < pa ∨ pa + n ≤ a) → t.mem.read a = s.mem.read a

end Sys2Proof.Machine
end

