-- ==== Sys2Proof/Certificates/Slice0/Obligations.lean ====
section
/-!
DEFINITION. The statements for the provers. Each says which rules of the spec it formalises; where it rests on a choice
of the model, the docstring says so and names the log entry.
-/

open Sys2Proof Sys2Proof.Machine

/-! ### Encoding and the step -/

/-- Decoding the word an instruction encodes to gives the instruction back, for every operand the encoding admits
(R268 to R302). -/
def Obligations.DecodeEncode : Prop :=
  ∀ i : Instr, i.wellFormed = true → (∀ w, i ≠ .undefinedWord w) → (∀ w, i ≠ .unpredictableWord w) →
    decode (encode i) = i

/-- Every word has one meaning: what it decodes to is well-formed and encodes to that word again (R268, R270). -/
def Obligations.EncodeDecode : Prop :=
  ∀ w : Word, (decode w).wellFormed = true ∧ encode (decode w) = w

/-- Words written out from the encodings of the spec decode to their instructions (R409, R426, R453, R494, R553, R591,
R611, R664, R690, R694). -/
def Obligations.DecodedWords : Prop :=
  decode 0xEA000002#32 = .b .al 2#24
    ∧ decode 0xE21100FF#32 = .andImm .al true 1#4 0#4 ⟨0#4, 0xFF#8⟩
    ∧ decode 0xE0040192#32 = .mul .al false 4#4 1#4 2#4
    ∧ decode 0xE6110F12#32 = .sadd16 .al 1#4 0#4 2#4
    ∧ decode 0xE16F0F11#32 = .clz .al 0#4 1#4
    ∧ decode 0xE10F0000#32 = .mrs .al false 0#4
    ∧ decode 0xE5938004#32 = .ldrImm .al .offset true 3#4 8#4 4#12
    ∧ decode 0xE92D5FFF#32 = .stm1 .al .db true 13#4 0x5FFF#16
    ∧ decode 0xEF123456#32 = .swi .al 0x123456#24
    ∧ decode 0xEE030F10#32 = .mcr .al 0#3 3#4 0#4 15#4 0#3 0#4
    ∧ decode 0xE7F000F0#32 = .undefinedWord 0xE7F000F0#32
    ∧ decode 0xE10F0800#32 = .unpredictableWord 0xE10F0800#32

/-- With nothing signalled and no unmasked imprecise abort pending, a step whose fetch reads a word runs the instruction
the word decodes to, in the state the fetch leaves (R11, R141), and a step whose fetch aborts takes the Prefetch Abort
that AbortRecords describes (R727). -/
def Obligations.StepRunsDecoded : Prop :=
  ∀ (s t : State) (w : Word) (i : Instr) (a : AbortInfo),
    s.inputs = [] → (s.pendingImprecise = 0 ∨ s.cpsr.a = true) →
      (fetch s = .ok w t → decode w = i → step s = exec i t)
        ∧ (fetch s = .abort a t → step s = .next (t.prefetchAbort a) ∧ SameButTlb s t)

/-- The order of events at a boundary: Reset, FIQ, IRQ, a pending imprecise abort, and only then an instruction (R745,
R760). The inputs come from the list of entry 12; an imprecise abort raised at the boundary is pending there, and is
lost when as many are pending as the implementation holds (the model's reading, entry 11); the links at the end of the
address space are modulo 2^32 (the model's reading, entry 8). -/
def Obligations.BoundaryPriority : Prop :=
  ∀ (s : State) (b : Boundary) (rest : List Boundary), s.inputs = b :: rest →
    let n := if b.imprecise && s.cfg.extImprecise then min (s.pendingImprecise + 1) s.cfg.imprecisePendMax
      else s.pendingImprecise
    let t := { s with inputs := rest, pendingImprecise := n }
    (b.reset = true → step s = .next t.resetInput)
      ∧ (b.reset = false → b.fiq = true → s.cpsr.f = false →
          step s = .next (t.takeException .fiq (s.pc + 4)))
      ∧ (b.reset = false → (b.fiq = false ∨ s.cpsr.f = true) → b.irq = true → s.cpsr.i = false →
          step s = .next (t.takeException .irq (s.pc + 4)))
      ∧ (b.reset = false → (b.fiq = false ∨ s.cpsr.f = true) → (b.irq = false ∨ s.cpsr.i = true) →
          0 < n → s.cpsr.a = false → step s = .next t.impreciseAbort)
      ∧ (b.reset = false → (b.fiq = false ∨ s.cpsr.f = true) → (b.irq = false ∨ s.cpsr.i = true) →
          (n = 0 ∨ s.cpsr.a = true) → step s = stepInstruction t)

/-! ### Invariants -/

/-- Every step keeps the canonical memory, a legal mode, ARM state and an aligned pc (R43, R56, R57). -/
def Obligations.InvKept : Prop := ∀ s t : State, s.Inv → step s = .next t → t.Inv

/-- Every step keeps the parameters (R14), the slots of the TLBs and their lockdown registers (R76, R244, R246, R248),
the width of the physical addresses in them (R80), and the bounds on pending aborts: no more than the implementation
holds, and zero where it provides no imprecise aborts (R82, R733); and that the writes of TTBR0 on record are of values
it may still take, the last one of its current value (R337, R812, the record is entry 28). That the lockdown base names a slot after a Reset
input too is the model's choice (entry 2: R800 leaves these registers arbitrary, and R245 makes a larger base
UNPREDICTABLE), and so is that parity errors are a part of the pending aborts (entry 10). -/
def Obligations.BoundedKept : Prop :=
  ∀ s t : State, s.Bounded → step s = .next t → t.Bounded ∧ t.cfg = s.cfg

/-- The state right after reset: it meets the invariants, and holds what the spec fixes (R800, R845): the pc, the mode
and the masks, ARM state, the byte order, the control register bits M, V, EE, 21, 22 and 24 clear and bit 3 set, N of
the TTBCR, closed windows, no write of TTBR0 on record, no locked TLB entry (R802), the monitor open and no abort
pending. That the pc, V, EE, E and
bit 3 have these values rests on the default parameters that the model gives `State.reset` (entry 5). Registers the spec
leaves open hold the model's values (entry 1) and are not mentioned. -/
def Obligations.ResetValues : Prop :=
  (State.reset.Inv ∧ State.reset.Bounded)
    ∧ State.reset.pc = 0 ∧ State.reset.mode = .svc ∧ State.reset.cpsr.t = false ∧ State.reset.cpsr.j = false
    ∧ State.reset.cpsr.f = true ∧ State.reset.cpsr.i = true ∧ State.reset.cpsr.a = true
    ∧ State.reset.cpsr.e = false
    ∧ ctlM State.reset.sctlr.current = false ∧ ctlV State.reset.sctlr.current = false
    ∧ ctlEE State.reset.sctlr.current = false ∧ State.reset.sctlr.current.getLsbD 3 = true
    ∧ State.reset.sctlr.current &&& 0x01600000#32 = 0
    ∧ State.reset.ttbcr.current = 0 ∧ State.reset.closeWindows = State.reset ∧ State.reset.ttbr0Writes = []
    ∧ (∀ e ∈ State.reset.tlbD.entries ++ State.reset.tlbI.entries, e.locked = false)
    ∧ State.reset.excl = none ∧ State.reset.pendingImprecise = 0

/-- The Reset input in the middle of a run (R800, R801, R802): whatever the state, the pc, the mode, the masks, ARM
state, the byte order, the control register bits M, V, EE, 21, 22, 24 and, without a W bit, 3, and N of the TTBCR are as
R800 says; the windows are closed, no write of TTBR0 is on record (entry 28), no TLB entry is locked and no two of one TLB could match one access; memory is kept,
the monitor is open and no abort is pending. The other registers are the free values of entry 2. The inputs come from
the list of entry 12. -/
def Obligations.ResetInput : Prop :=
  ∀ (s : State) (b : Boundary) (rest : List Boundary), s.inputs = b :: rest → b.reset = true →
    ∃ t, step s = .next t
      ∧ t.pc = (if s.cfg.hivecsAtReset then 0xFFFF0000#32 else 0#32)
      ∧ t.cpsr.m = 0b10011#5 ∧ t.cpsr.t = false ∧ t.cpsr.j = false ∧ t.cpsr.f = true ∧ t.cpsr.i = true
      ∧ t.cpsr.a = true ∧ t.cpsr.e = s.cfg.eeAtReset ∧ ctlM t.sctlr.current = false
      ∧ ctlV t.sctlr.current = s.cfg.hivecsAtReset ∧ ctlEE t.sctlr.current = s.cfg.eeAtReset
      ∧ t.sctlr.current &&& 0x01600000#32 = 0 ∧ (s.cfg.hasWBit = false → t.sctlr.current.getLsbD 3 = true)
      ∧ t.ttbcr.current = 0 ∧ t.closeWindows = t ∧ t.ttbr0Writes = []
      ∧ (∀ e ∈ t.tlbD.entries ++ t.tlbI.entries, e.locked = false)
      ∧ t.tlbD.entries.Pairwise (fun x y => entriesOverlap x y = false)
      ∧ t.tlbI.entries.Pairwise (fun x y => entriesOverlap x y = false)
      ∧ t.excl = none ∧ t.pendingImprecise = 0 ∧ t.mem = s.mem ∧ t.cfg = s.cfg

/-! ### Conditions -/

/-- The sixteen rows of the condition table (R262): the code, its condition and when that is true; the code 1111 is no
condition. -/
def Obligations.ConditionTable : Prop :=
  ∀ p : Psr,
    let row := fun (b : BitVec 4) (c : Cond) (passes : Prop) =>
      Cond.ofBits b = some c ∧ (condPassed c p = true ↔ passes)
    row 0b0000#4 .eq (p.z = true) ∧ row 0b0001#4 .ne (p.z = false)
      ∧ row 0b0010#4 .cs (p.c = true) ∧ row 0b0011#4 .cc (p.c = false)
      ∧ row 0b0100#4 .mi (p.n = true) ∧ row 0b0101#4 .pl (p.n = false)
      ∧ row 0b0110#4 .vs (p.v = true) ∧ row 0b0111#4 .vc (p.v = false)
      ∧ row 0b1000#4 .hi (p.c = true ∧ p.z = false) ∧ row 0b1001#4 .ls (p.c = false ∨ p.z = true)
      ∧ row 0b1010#4 .ge (p.n = p.v) ∧ row 0b1011#4 .lt (p.n ≠ p.v)
      ∧ row 0b1100#4 .gt (p.z = false ∧ p.n = p.v) ∧ row 0b1101#4 .le (p.z = true ∨ p.n ≠ p.v)
      ∧ row 0b1110#4 .al True ∧ Cond.ofBits 0b1111#4 = none

/-- What only advances the pc: an instruction whose condition fails (R263), an undefined or unpredictable word whose
condition fails (R264), and PLD, which has no effect on any state (R640). -/
def Obligations.OnlyAdvances : Prop :=
  (∀ (s : State) (c : Cond), condPassed c s.cpsr = false → s.pc ≠ 0xFFFFFFFC#32 →
    (∀ i, conditionOf i = some c → Ends i s s)
      ∧ (∀ w : Word, Cond.ofBits (w.extractLsb' 28 4) = some c →
          Ends (.undefinedWord w) s s ∧ Ends (.unpredictableWord w) s s))
  ∧ ∀ (s : State) (u : Bool) (rn : Reg) (n : BitVec 12) (op : ImmShift), s.pc ≠ 0xFFFFFFFC#32 →
      Ends (.pldImm u rn n) s s ∧ (op.rm ≠ 15#4 → Ends (.pldReg u rn op) s s)

/-! ### Data processing -/

/-- The shifts of R411 as arithmetic on integers; the shifter operand by a register amount (R417, R419, R421, R423): its
value, and as carry the last bit shifted out; the immediate amounts (R415, R416, R418, R420, R422, R424), where 0 stands
for no shift, for 32, or for the rotation through the carry; the immediate operand (R414): eight bits rotated right by
twice `rot`, with the old carry when `rot` is 0 and else bit 31 of the result. The register forms shift Rm with the C
flag as the carry in, by the immediate amount or by the low byte of Rs. -/
def Obligations.ShiftResults : Prop :=
  ∀ (s : State) (x : Word) (n : Nat) (a : BitVec 8) (k : BitVec 5) (c : Bool) (o : RotImm)
    (byImm : ImmShift) (byReg : RegShift),
    ((shiftLsl x n).toNat = x.toNat * 2 ^ n % 2 ^ 32 ∧ (shiftLsr x n).toNat = x.toNat / 2 ^ n
      ∧ (shiftAsr x n).toInt = x.toInt / 2 ^ n ∧ (n % 32 = 0 → shiftRor x n = x)
      ∧ (n % 32 ≠ 0 → shiftRor x n = shiftLsr x (n % 32) ||| shiftLsl x (32 - n % 32))
      ∧ (shiftRrx x c).toNat = c.toNat * 2 ^ 31 + x.toNat / 2)
    ∧ (a = 0 → ∀ ty, shiftByReg ty a x c = ⟨x, c⟩)
    ∧ (a ≠ 0 →
        shiftByReg .lsl a x c = ⟨shiftLsl x a.toNat, decide (a.toNat ≤ 32) && x.getLsbD (32 - a.toNat)⟩
          ∧ shiftByReg .lsr a x c = ⟨shiftLsr x a.toNat, x.getLsbD (a.toNat - 1)⟩
          ∧ shiftByReg .asr a x c = ⟨shiftAsr x a.toNat, x.getLsbD (min (a.toNat - 1) 31)⟩
          ∧ shiftByReg .ror a x c = ⟨shiftRor x a.toNat, (shiftRor x a.toNat).getLsbD 31⟩)
    ∧ (k ≠ 0 → ∀ ty, shiftByImm ty k x c = shiftByReg ty (k.setWidth 8) x c)
    ∧ (k = 0 → shiftByImm .lsl k x c = ⟨x, c⟩ ∧ shiftByImm .lsr k x c = ⟨0, x.getLsbD 31⟩
        ∧ shiftByImm .asr k x c = ⟨if x.getLsbD 31 then 0xFFFFFFFF#32 else 0, x.getLsbD 31⟩
        ∧ shiftByImm .ror k x c = ⟨shiftRrx x c, x.getLsbD 0⟩)
    ∧ (o.rot = 0 → rotImmOperand o c = ⟨o.imm.setWidth 32, c⟩)
    ∧ (o.rot ≠ 0 →
        let v := shiftLsr (o.imm.setWidth 32) (2 * o.rot.toNat) ||| shiftLsl (o.imm.setWidth 32) (32 - 2 * o.rot.toNat)
        rotImmOperand o c = ⟨v, v.getLsbD 31⟩)
    ∧ immShiftOperand s byImm = shiftByImm byImm.ty byImm.amount (s.readReg byImm.rm) s.cpsr.c
    ∧ regShiftOperand s byReg
      = shiftByReg byReg.ty (BitVec.ofNat 8 ((s.readReg byReg.rs).toNat % 2 ^ 8)) (s.readReg byReg.rm) s.cpsr.c

/-- AND, EOR, ORR, BIC, MOV and MVN in all three forms (R426, R427, R438 to R441): the result; with S set N and Z from
it, C the shifter carry-out, V unchanged; and the branch and the exception return of Rd = R15 (R410, R413), with its
refusals (R49, R56, R57, in the order of entry 23). That bits[1:0] of the result are ignored there is the model's
reading (R43 against U22, entry 24). -/
def Obligations.LogicalResults : Prop :=
  ∀ (s : State) (c : Cond) (sf : Bool) (rn rd : Reg) (so : Shifted) (i : Instr), condPassed c s.cpsr = true →
    let x := s.readReg rn
    let flags := fun v : Word => { s.cpsr with n := v.getLsbD 31, z := v == 0, c := so.carry }
    (DataForms s [rn, rd] (.andImm c sf rn rd) (.andShiftImm c sf rn rd) (.andShiftReg c sf rn rd) so i →
        DataEnds i s sf rd (x &&& so.value) (flags (x &&& so.value)))
      ∧ (DataForms s [rn, rd] (.eorImm c sf rn rd) (.eorShiftImm c sf rn rd) (.eorShiftReg c sf rn rd) so i →
        DataEnds i s sf rd (x ^^^ so.value) (flags (x ^^^ so.value)))
      ∧ (DataForms s [rn, rd] (.orrImm c sf rn rd) (.orrShiftImm c sf rn rd) (.orrShiftReg c sf rn rd) so i →
        DataEnds i s sf rd (x ||| so.value) (flags (x ||| so.value)))
      ∧ (DataForms s [rn, rd] (.bicImm c sf rn rd) (.bicShiftImm c sf rn rd) (.bicShiftReg c sf rn rd) so i →
        DataEnds i s sf rd (x &&& ~~~so.value) (flags (x &&& ~~~so.value)))
      ∧ (DataForms s [rd] (.movImm c sf rd) (.movShiftImm c sf rd) (.movShiftReg c sf rd) so i →
        DataEnds i s sf rd so.value (flags so.value))
      ∧ (DataForms s [rd] (.mvnImm c sf rd) (.mvnShiftImm c sf rd) (.mvnShiftReg c sf rd) so i →
        DataEnds i s sf rd (~~~so.value) (flags (~~~so.value)))

/-- SUB, RSB, ADD, ADC, SBC and RSC in all three forms (R428 to R433): the exact sum or difference cut to 32 bits; with
S set C is the carry out of an addition and NOT borrow of a subtraction, V says that the exact result does not fit
(R412); Rd = R15 branches, or with S set returns from an exception, with its refusals (R413, in the order of entry 23).
That bits[1:0] of the result are ignored there is the model's reading (R43 against U22, entry 24). -/
def Obligations.ArithmeticResults : Prop :=
  ∀ (s : State) (c : Cond) (sf : Bool) (rn rd : Reg) (so : Shifted) (i : Instr), condPassed c s.cpsr = true →
    let x := s.readReg rn
    let y := so.value
    let k := s.cpsr.c.toNat
    let b := 1 - k
    let ends := fun (e : Int) (carry : Prop) [Decidable carry] =>
      DataEnds i s sf rd (BitVec.ofInt 32 e) (exactFlags s.cpsr e (decide carry))
    (DataForms s [rn, rd] (.subImm c sf rn rd) (.subShiftImm c sf rn rd) (.subShiftReg c sf rn rd) so i →
        ends (x.toInt - y.toInt) (y.toNat ≤ x.toNat))
      ∧ (DataForms s [rn, rd] (.rsbImm c sf rn rd) (.rsbShiftImm c sf rn rd) (.rsbShiftReg c sf rn rd) so i →
        ends (y.toInt - x.toInt) (x.toNat ≤ y.toNat))
      ∧ (DataForms s [rn, rd] (.addImm c sf rn rd) (.addShiftImm c sf rn rd) (.addShiftReg c sf rn rd) so i →
        ends (x.toInt + y.toInt) (2 ^ 32 ≤ x.toNat + y.toNat))
      ∧ (DataForms s [rn, rd] (.adcImm c sf rn rd) (.adcShiftImm c sf rn rd) (.adcShiftReg c sf rn rd) so i →
        ends (x.toInt + y.toInt + k) (2 ^ 32 ≤ x.toNat + y.toNat + k))
      ∧ (DataForms s [rn, rd] (.sbcImm c sf rn rd) (.sbcShiftImm c sf rn rd) (.sbcShiftReg c sf rn rd) so i →
        ends (x.toInt - y.toInt - b) (y.toNat + b ≤ x.toNat))
      ∧ (DataForms s [rn, rd] (.rscImm c sf rn rd) (.rscShiftImm c sf rn rd) (.rscShiftReg c sf rn rd) so i →
        ends (y.toInt - x.toInt - b) (x.toNat + b ≤ y.toNat))

/-- TST, TEQ, CMP and CMN in all three forms (R434 to R437): only the flags are written, and no register. -/
def Obligations.CompareResults : Prop :=
  ∀ (s : State) (c : Cond) (rn : Reg) (so : Shifted) (i : Instr), Runs c s →
    let x := s.readReg rn
    let y := so.value
    let test := fun v : Word => Ends i s { s with cpsr := { s.cpsr with n := v.getLsbD 31, z := v == 0, c := so.carry } }
    (DataForms s [rn] (.tstImm c rn) (.tstShiftImm c rn) (.tstShiftReg c rn) so i → test (x &&& y))
      ∧ (DataForms s [rn] (.teqImm c rn) (.teqShiftImm c rn) (.teqShiftReg c rn) so i → test (x ^^^ y))
      ∧ (DataForms s [rn] (.cmpImm c rn) (.cmpShiftImm c rn) (.cmpShiftReg c rn) so i →
        Ends i s { s with cpsr := exactFlags s.cpsr (x.toInt - y.toInt) (decide (y.toNat ≤ x.toNat)) })
      ∧ (DataForms s [rn] (.cmnImm c rn) (.cmnShiftImm c rn) (.cmnShiftReg c rn) so i →
        Ends i s { s with cpsr := exactFlags s.cpsr (x.toInt + y.toInt) (decide (2 ^ 32 ≤ x.toNat + y.toNat)) })

/-! ### Multiplies -/

/-- MUL and MLA (R453, R454): the low 32 bits of the exact value; with S set N and Z only. UMULL, UMLAL, SMULL, SMLAL
and UMAAL (R455 to R459): the 64-bit value in the pair; with S set N and Z from all 64 bits; UMAAL writes no flag.
SMMUL, SMMLA and SMMLS (R465 to R467): the top word of the 64-bit value, rounded when R is set; no flag. -/
def Obligations.WordMultiply : Prop :=
  (∀ (s : State) (c : Cond) (sf : Bool) (hi lo rd rn rs rm : Reg), Runs c s → 15#4 ∉ [hi, lo, rd, rn, rs, rm] →
    let x := s.readReg rm
    let y := s.readReg rs
    let old := s.readReg hi ++ s.readReg lo
    let word := fun (i : Instr) (v : Word) =>
      Ends i s { s.writeReg rd v with
        cpsr := if sf then { s.cpsr with n := v.getLsbD 31, z := v == 0 } else s.cpsr }
    let long := fun (i : Instr) (e : Int) => hi ≠ lo →
      Ends i s { s.withPair hi lo e with
        cpsr := if sf then { s.cpsr with n := (BitVec.ofInt 64 e).getLsbD 63, z := BitVec.ofInt 64 e == 0 }
          else s.cpsr }
    word (.mul c sf rd rs rm) (BitVec.ofNat 32 (x.toNat * y.toNat))
      ∧ word (.mla c sf rd rn rs rm) (BitVec.ofNat 32 (x.toNat * y.toNat + (s.readReg rn).toNat))
      ∧ long (.umull c sf hi lo rs rm) (x.toNat * y.toNat)
      ∧ long (.umlal c sf hi lo rs rm) (x.toNat * y.toNat + old.toNat)
      ∧ long (.smull c sf hi lo rs rm) (x.toInt * y.toInt)
      ∧ long (.smlal c sf hi lo rs rm) (x.toInt * y.toInt + old.toInt)
      ∧ (hi ≠ lo → Ends (.umaal c hi lo rs rm) s
          (s.withPair hi lo (x.toNat * y.toNat + (s.readReg lo).toNat + (s.readReg hi).toNat))))
  ∧ ∀ (s : State) (c : Cond) (r : Bool) (rd rn rs rm : Reg), Runs c s → 15#4 ∉ [rd, rn, rs, rm] →
    let p := (s.readReg rm).toInt * (s.readReg rs).toInt
    let n := (s.readReg rn).toInt * 2 ^ 32
    let round : Int := if r then 2 ^ 31 else 0
    Ends (.smmul c rd rs r rm) s (s.writeReg rd (BitVec.ofInt 32 ((p + round) / 2 ^ 32)))
      ∧ Ends (.smmla c rd rn rs r rm) s (s.writeReg rd (BitVec.ofInt 32 ((n + p + round) / 2 ^ 32)))
      ∧ Ends (.smmls c rd rn rs r rm) s (s.writeReg rd (BitVec.ofInt 32 ((n - p + round) / 2 ^ 32)))

/-- SMULxy, SMLAxy, SMLALxy, SMULWy and SMLAWy (R460 to R464): x picks the half of Rm and y the half of Rs; the two
accumulations set Q when the exact sum does not fit, and are not saturated (R452). SMUAD, SMUSD, SMLAD, SMLSD, SMLALD
and SMLSLD (R468 to R473): with X the halves of Rs are exchanged; `p` is the bottom product and `q` the top one; SMUAD,
SMLAD and SMLSD set Q on overflow (R452). -/
def Obligations.HalfwordMultiply : Prop :=
  (∀ (s : State) (c : Cond) (x y : Bool) (rd rn lo rs rm : Reg), Runs c s → 15#4 ∉ [rd, rn, lo, rs, rm] → rd ≠ lo →
    let a := signedHalf (s.readReg rm) x
    let b := signedHalf (s.readReg rs) y
    let w := (s.readReg rm).toInt * b / 2 ^ 16
    let n := (s.readReg rn).toInt
    let accumulates := fun (i : Instr) (e : Int) =>
      Ends i s { s.writeReg rd (BitVec.ofInt 32 e) with
        cpsr := { s.cpsr with q := s.cpsr.q || decide (e < -2 ^ 31 ∨ 2 ^ 31 ≤ e) } }
    Ends (.smulxy c rd rs y x rm) s (s.writeReg rd (BitVec.ofInt 32 (a * b)))
      ∧ accumulates (.smlaxy c rd rn rs y x rm) (a * b + n)
      ∧ Ends (.smlalxy c rd lo rs y x rm) s
          (s.withPair rd lo (a * b + (s.readReg rd ++ s.readReg lo).toInt))
      ∧ Ends (.smulwy c rd rs y rm) s (s.writeReg rd (BitVec.ofInt 32 w))
      ∧ accumulates (.smlawy c rd rn rs y rm) (w + n))
  ∧ ∀ (s : State) (c : Cond) (x : Bool) (rd rn lo rs rm : Reg), Runs c s → 15#4 ∉ [rd, rn, lo, rs, rm] → rd ≠ lo →
    let op2 := if x then shiftRor (s.readReg rs) 16 else s.readReg rs
    let p := signedHalf (s.readReg rm) false * signedHalf op2 false
    let q := signedHalf (s.readReg rm) true * signedHalf op2 true
    let n := (s.readReg rn).toInt
    let old := (s.readReg rd ++ s.readReg lo).toInt
    let accumulates := fun (i : Instr) (e : Int) =>
      Ends i s { s.writeReg rd (BitVec.ofInt 32 e) with
        cpsr := { s.cpsr with q := s.cpsr.q || decide (e < -2 ^ 31 ∨ 2 ^ 31 ≤ e) } }
    accumulates (.smuad c rd rs x rm) (p + q)
      ∧ Ends (.smusd c rd rs x rm) s (s.writeReg rd (BitVec.ofInt 32 (p - q)))
      ∧ accumulates (.smlad c rd rn rs x rm) (n + p + q)
      ∧ accumulates (.smlsd c rd rn rs x rm) (n + p - q)
      ∧ Ends (.smlald c rd lo rs x rm) s (s.withPair rd lo (old + p + q))
      ∧ Ends (.smlsld c rd lo rs x rm) s (s.withPair rd lo (old + p - q))

/-! ### Parallel addition and subtraction -/

/-- The exact result of a lane (R492): the sum or difference of the two fields, read as signed integers with the
prefixes S, Q and SH and as unsigned ones with U, UQ and UH. S and U write GE, by this condition on it (R53, R491): for
signed arithmetic and for unsigned subtraction that it is not negative, for unsigned addition that it reaches 2^w. What
a prefix makes of it (R493), in the words of the table: modulo for S and U, clamped for Q and UQ, halved toward minus
infinity for SH and UH, where nothing is lost (a negative UH difference keeps its sign bit). -/
def Obligations.LaneFields : Prop :=
  ∀ (w : Nat) (sub : Bool) (a b : BitVec w), 0 < w →
    let e : Int := if sub then a.toInt - b.toInt else a.toInt + b.toInt
    let u : Int := if sub then (a.toNat : Int) - b.toNat else (a.toNat : Int) + b.toNat
    (∀ p : ParallelPrefix, p.writesGE = true ↔ p = .s ∨ p = .u)
      ∧ (∀ p ∈ [ParallelPrefix.s, .q, .sh], laneExact p sub a b = e)
      ∧ (∀ p ∈ [ParallelPrefix.u, .uq, .uh], laneExact p sub a b = u)
      ∧ (laneGE .s sub w e = true ↔ 0 ≤ e)
      ∧ (sub = true → (laneGE .u sub w u = true ↔ b.toNat ≤ a.toNat))
      ∧ (sub = false → (laneGE .u sub w u = true ↔ 2 ^ w ≤ a.toNat + b.toNat))
      ∧ (laneField .s w e = if sub then a - b else a + b)
      ∧ (laneField .u w u = if sub then a - b else a + b)
      ∧ (laneField .q w e).toInt = max (-2 ^ (w - 1)) (min e (2 ^ (w - 1) - 1))
      ∧ ((laneField .uq w u).toNat : Int) = max 0 (min u (2 ^ w - 1))
      ∧ (laneField .sh w e).toInt = e / 2
      ∧ (sub = false → ((laneField .uh w u).toNat : Int) = u / 2)
      ∧ (sub = true → (laneField .uh w u).toInt = u / 2)

/-- The twenty-four halfword instructions (R490 to R529): the two lanes of R492, each made by its prefix (R493); S and U
write both GE pairs (R491), the other prefixes write no flag. LaneFields says what the lane functions are. -/
def Obligations.ParallelHalfwords : Prop :=
  ∀ (s : State) (c : Cond) (rn rd rm : Reg), Runs c s → 15#4 ∉ [rn, rd, rm] →
    ∀ e ∈ [(ParallelPrefix.s, Instr.sadd16 c rn rd rm, Instr.saddsubx c rn rd rm, Instr.ssubaddx c rn rd rm,
          Instr.ssub16 c rn rd rm),
        (.q, .qadd16 c rn rd rm, .qaddsubx c rn rd rm, .qsubaddx c rn rd rm, .qsub16 c rn rd rm),
        (.sh, .shadd16 c rn rd rm, .shaddsubx c rn rd rm, .shsubaddx c rn rd rm, .shsub16 c rn rd rm),
        (.u, .uadd16 c rn rd rm, .uaddsubx c rn rd rm, .usubaddx c rn rd rm, .usub16 c rn rd rm),
        (.uq, .uqadd16 c rn rd rm, .uqaddsubx c rn rd rm, .uqsubaddx c rn rd rm, .uqsub16 c rn rd rm),
        (.uh, .uhadd16 c rn rd rm, .uhaddsubx c rn rd rm, .uhsubaddx c rn rd rm, .uhsub16 c rn rd rm)],
      let p := e.1
      let top := fun w : Word => w.extractLsb' 16 16
      let bottom := fun w : Word => w.extractLsb' 0 16
      let a := s.readReg rn
      let b := s.readReg rm
      let ends := fun (i : Instr) (hsub : Bool) (h : Int) (lsub : Bool) (l : Int) =>
        ∃ d g, Ends i s { s.writeReg rd d with cpsr := { s.cpsr with ge := g } }
          ∧ top d = laneField p 16 h ∧ bottom d = laneField p 16 l
          ∧ (p.writesGE = true →
              g.getLsbD 3 = laneGE p hsub 16 h ∧ g.getLsbD 2 = laneGE p hsub 16 h
                ∧ g.getLsbD 1 = laneGE p lsub 16 l ∧ g.getLsbD 0 = laneGE p lsub 16 l)
          ∧ (p.writesGE = false → g = s.cpsr.ge)
      ends e.2.1 false (laneExact p false (top a) (top b)) false (laneExact p false (bottom a) (bottom b))
        ∧ ends e.2.2.1 false (laneExact p false (top a) (bottom b)) true (laneExact p true (bottom a) (top b))
        ∧ ends e.2.2.2.1 true (laneExact p true (top a) (bottom b)) false (laneExact p false (bottom a) (top b))
        ∧ ends e.2.2.2.2 true (laneExact p true (top a) (top b)) true (laneExact p true (bottom a) (bottom b))

/-- The twelve byte instructions (R490 to R529): four lanes, and one GE bit for each with the prefixes S and U.
LaneFields says what the lane functions are. -/
def Obligations.ParallelBytes : Prop :=
  ∀ (s : State) (c : Cond) (rn rd rm : Reg), Runs c s → 15#4 ∉ [rn, rd, rm] →
    ∀ e ∈ [(ParallelPrefix.s, Instr.sadd8 c rn rd rm, Instr.ssub8 c rn rd rm),
        (.q, .qadd8 c rn rd rm, .qsub8 c rn rd rm), (.sh, .shadd8 c rn rd rm, .shsub8 c rn rd rm),
        (.u, .uadd8 c rn rd rm, .usub8 c rn rd rm), (.uq, .uqadd8 c rn rd rm, .uqsub8 c rn rd rm),
        (.uh, .uhadd8 c rn rd rm, .uhsub8 c rn rd rm)],
      let p := e.1
      let ends := fun (i : Instr) (sub : Bool) =>
        ∃ d g, Ends i s { s.writeReg rd d with cpsr := { s.cpsr with ge := g } }
          ∧ (∀ k, k < 4 →
              let x := laneExact p sub (byteOf (s.readReg rn) k) (byteOf (s.readReg rm) k)
              byteOf d k = laneField p 8 x ∧ (p.writesGE = true → g.getLsbD k = laneGE p sub 8 x))
          ∧ (p.writesGE = false → g = s.cpsr.ge)
      ends e.2.1 false ∧ ends e.2.2 true

/-! ### Extend, pack, reverse, select, saturate -/

/-- The twelve extend instructions (R540 to R552): a rotated byte or halfword, or two bytes, extended by sign or by
zeros, and added to Rn in the accumulating forms; no flag. -/
def Obligations.ExtendResults : Prop :=
  ∀ (s : State) (c : Cond) (rn rd rm : Reg) (rot : BitVec 2), Runs c s → 15#4 ∉ [rn, rd, rm] →
    let r := shiftRor (s.readReg rm) (8 * rot.toNat)
    let n := s.readReg rn
    let b0 := byteOf r 0
    let b2 := byteOf r 2
    let h0 : BitVec 16 := r.setWidth 16
    let nTop := n.extractLsb' 16 16
    let nBottom := n.extractLsb' 0 16
    let ends := fun (i : Instr) (v : Word) => Ends i s (s.writeReg rd v)
    ends (.sxtb c rd rot rm) (b0.signExtend 32) ∧ ends (.uxtb c rd rot rm) (b0.setWidth 32)
      ∧ ends (.sxth c rd rot rm) (h0.signExtend 32) ∧ ends (.uxth c rd rot rm) (h0.setWidth 32)
      ∧ ends (.sxtb16 c rd rot rm) (b2.signExtend 16 ++ b0.signExtend 16)
      ∧ ends (.uxtb16 c rd rot rm) (r &&& 0x00FF00FF#32)
      ∧ ends (.sxtab c rn rd rot rm) (n + b0.signExtend 32) ∧ ends (.uxtab c rn rd rot rm) (n + b0.setWidth 32)
      ∧ ends (.sxtah c rn rd rot rm) (n + h0.signExtend 32) ∧ ends (.uxtah c rn rd rot rm) (n + h0.setWidth 32)
      ∧ ends (.sxtab16 c rn rd rot rm) ((nTop + b2.signExtend 16) ++ (nBottom + b0.signExtend 16))
      ∧ ends (.uxtab16 c rn rd rot rm) ((nTop + b2.setWidth 16) ++ (nBottom + b0.setWidth 16))

/-- PKHBT, PKHTB, REV, REV16, REVSH, SEL, USAD8 and USADA8 (R554 to R560, R562): byte by byte and half by half, with no
flag written; CLZ (R553): the number of zero bits above the first one, or 32. -/
def Obligations.ByteAndBitResults : Prop :=
  ∀ (s : State) (c : Cond) (rn rd rs rm : Reg) (imm : BitVec 5), Runs c s → 15#4 ∉ [rn, rd, rs, rm] →
    let m := s.readReg rm
    let n := s.readReg rn
    let sum := ((List.range 4).map fun k => max (byteOf m k).toNat (byteOf (s.readReg rs) k).toNat
      - min (byteOf m k).toNat (byteOf (s.readReg rs) k).toNat).sum
    let ends := fun (i : Instr) (v : Word) => Ends i s (s.writeReg rd v)
    (∃ v, ends (.pkhbt c rn rd imm rm) v ∧ v.extractLsb' 0 16 = n.extractLsb' 0 16
        ∧ v.extractLsb' 16 16 = (m <<< imm.toNat).extractLsb' 16 16)
      ∧ (∃ v, ends (.pkhtb c rn rd imm rm) v ∧ v.extractLsb' 16 16 = n.extractLsb' 16 16
        ∧ v.extractLsb' 0 16 = (m.sshiftRight (if imm = 0 then 32 else imm.toNat)).extractLsb' 0 16)
      ∧ (∃ v, ends (.rev c rd rm) v ∧ ∀ k, k < 4 → byteOf v k = byteOf m (3 - k))
      ∧ (∃ v, ends (.rev16 c rd rm) v
        ∧ byteOf v 0 = byteOf m 1 ∧ byteOf v 1 = byteOf m 0 ∧ byteOf v 2 = byteOf m 3 ∧ byteOf v 3 = byteOf m 2)
      ∧ ends (.revsh c rd rm) ((byteOf m 0 ++ byteOf m 1).signExtend 32)
      ∧ (∃ v, ends (.sel c rn rd rm) v
        ∧ ∀ k, k < 4 → byteOf v k = if s.cpsr.ge.getLsbD k then byteOf n k else byteOf m k)
      ∧ ends (.usad8 c rd rs rm) (BitVec.ofNat 32 sum)
      ∧ ends (.usada8 c rd rn rs rm) (n + BitVec.ofNat 32 sum)
      ∧ (∃ k : Nat, ends (.clz c rd rm) (BitVec.ofNat 32 k) ∧ (m = 0 → k = 32)
        ∧ (m ≠ 0 → k < 32 ∧ 2 ^ (31 - k) ≤ m.toNat ∧ m.toNat < 2 ^ (32 - k)))

/-- The saturation helpers (R561): the nearest value in the range, and whether it differs. QADD, QSUB, QDADD, QDSUB,
SSAT, USAT, SSAT16 and USAT16 (R563 to R571): the saturated value, and Q set when something saturated and otherwise kept
(R570). -/
def Obligations.SaturatingResults : Prop :=
  (∀ (x : Int) (n : Nat),
    (1 ≤ n → n ≤ 32 → (signedSat x n).value = min (max x (-2 ^ (n - 1))) (2 ^ (n - 1) - 1)
      ∧ ((signedSat x n).sat = true ↔ x < -2 ^ (n - 1) ∨ 2 ^ (n - 1) - 1 < x))
    ∧ (n ≤ 31 → (unsignedSat x n).value = min (max x 0) (2 ^ n - 1)
      ∧ ((unsignedSat x n).sat = true ↔ x < 0 ∨ 2 ^ n - 1 < x)))
  ∧ ∀ (s : State) (c : Cond) (rn rd rm : Reg) (k5 imm : BitVec 5) (k4 : BitVec 4) (sh : Bool),
    Runs c s → 15#4 ∉ [rn, rd, rm] →
    let m := (s.readReg rm).toInt
    let n := (s.readReg rn).toInt
    let d := signedSat (2 * n) 32
    let v := if sh then (s.readReg rm).toInt / 2 ^ (if imm = 0 then 32 else imm.toNat)
      else ((s.readReg rm) <<< imm.toNat).toInt
    let top := signedHalf (s.readReg rm) true
    let bottom := signedHalf (s.readReg rm) false
    let ends := fun (i : Instr) (w : Word) (q : Bool) =>
      Ends i s { s.writeReg rd w with cpsr := { s.cpsr with q := s.cpsr.q || q } }
    let word := fun (i : Instr) (r : Saturated) => ends i (BitVec.ofInt 32 r.value) r.sat
    let halves := fun (i : Instr) (t b : Saturated) =>
      ends i (BitVec.ofInt 16 t.value ++ BitVec.ofInt 16 b.value) (t.sat || b.sat)
    word (.qadd c rn rd rm) (signedSat (m + n) 32) ∧ word (.qsub c rn rd rm) (signedSat (m - n) 32)
      ∧ ends (.qdadd c rn rd rm) (BitVec.ofInt 32 (signedSat (m + d.value) 32).value)
          (d.sat || (signedSat (m + d.value) 32).sat)
      ∧ ends (.qdsub c rn rd rm) (BitVec.ofInt 32 (signedSat (m - d.value) 32).value)
          (d.sat || (signedSat (m - d.value) 32).sat)
      ∧ word (.ssat c k5 rd imm sh rm) (signedSat v (k5.toNat + 1))
      ∧ word (.usat c k5 rd imm sh rm) (unsignedSat v k5.toNat)
      ∧ halves (.ssat16 c k4 rd rm) (signedSat top (k4.toNat + 1)) (signedSat bottom (k4.toNat + 1))
      ∧ halves (.usat16 c k4 rd rm) (unsignedSat top k4.toNat) (unsignedSat bottom k4.toNat)

/-- Every operand combination an instruction calls UNPREDICTABLE is refused when the condition passes (R405, R425, R451,
R490, R540, R591, R592, R605, R613, R615, R620, R629, R652, R662, R669, R670); PLD and RFE (R667) are unconditional.
That PLD with Rm = R15 is one of them is the model's reading (entry 21); that SMMLS with bits[15:12] = 1111 is one
follows R451 and R467 (entry 29); which refusal is named where several grounds hold is the model's choice (entry 23). -/
def Obligations.RestrictedForms : Prop :=
  (∀ (i : Instr) (c : Cond) (s : State), conditionOf i = some c → condPassed c s.cpsr = true →
      restrictedOperands i = true → exec i s = .refused .unpredictableOperands)
    ∧ (∀ (s : State) (u wb : Bool) (rn : Reg) (op : ImmShift) (am : AddrMode4),
        (op.rm = 15#4 → exec (.pldReg u rn op) s = .refused .unpredictableOperands)
          ∧ (s.mode ≠ .usr → exec (.rfe am wb 15#4) s = .refused .unpredictableOperands)
          ∧ (s.mode = .usr → exec (.rfe am wb rn) s = .refused .unpredictableInMode))

/-- The frame of every instruction that works on registers alone (`destinationsOf`: data processing, multiplies,
parallel, media, MRS): when it ends with the next instruction, no register but its destinations changes, no byte of
memory, no special register, no privileged bit and no E bit. Rd = R15 is left to the result statements. And what a
register is (R31, R35, R41): the mode of the CPSR picks the bank, R15 reads as the address of the instruction plus 8,
and a write changes the one register it names. -/
def Obligations.RegisterFrame : Prop :=
  (∀ (i : Instr) (s t : State) (ds : List Reg), destinationsOf i = some ds → 15#4 ∉ ds → exec i s = .next t →
    SameRegs s t (ds.map (bankedReg s.mode)) ∧ SameMemory s t ∧ SameSystem s t
      ∧ t.tlbD = s.tlbD ∧ t.tlbI = s.tlbI ∧ t.pendingImprecise = s.pendingImprecise
      ∧ t.pendingParity = s.pendingParity ∧ t.pc = s.pc + 4
      ∧ t.cpsr = { s.cpsr with
          n := t.cpsr.n, z := t.cpsr.z, c := t.cpsr.c, v := t.cpsr.v, q := t.cpsr.q, ge := t.cpsr.ge })
  ∧ ∀ (s : State) (m : Mode) (n : Reg) (v : Word),
    s.readReg 15#4 = s.pc + 8 ∧ (n ≠ 15#4 → s.readReg n = s.readBank s.mode n) ∧ s.writeReg n v = s.writeBank s.mode n v
      ∧ (s.cpsr.m = m.bits → s.mode = m)
      ∧ [Mode.usr, .fiq, .irq, .svc, .abt, .und, .sys].map Mode.bits
        = [0b10000#5, 0b10001#5, 0b10010#5, 0b10011#5, 0b10111#5, 0b11011#5, 0b11111#5]
      ∧ [0#4, 1#4, 2#4, 3#4, 4#4, 5#4, 6#4, 7#4].map (s.readBank m)
        = [s.regs.r0, s.regs.r1, s.regs.r2, s.regs.r3, s.regs.r4, s.regs.r5, s.regs.r6, s.regs.r7]
      ∧ [8#4, 9#4, 10#4, 11#4, 12#4].map (s.readBank m)
        = (if m = .fiq then [s.regs.r8fiq, s.regs.r9fiq, s.regs.r10fiq, s.regs.r11fiq, s.regs.r12fiq]
          else [s.regs.r8usr, s.regs.r9usr, s.regs.r10usr, s.regs.r11usr, s.regs.r12usr])
      ∧ [13#4, 14#4].map (s.readBank m) = (match m with
        | .usr => [s.regs.r13usr, s.regs.r14usr]
        | .sys => [s.regs.r13usr, s.regs.r14usr]
        | .svc => [s.regs.r13svc, s.regs.r14svc]
        | .abt => [s.regs.r13abt, s.regs.r14abt]
        | .und => [s.regs.r13und, s.regs.r14und]
        | .irq => [s.regs.r13irq, s.regs.r14irq]
        | .fiq => [s.regs.r13fiq, s.regs.r14fiq])
      ∧ (s.writeBank m n v).readBank m n = v ∧ SameRegs s (s.writeBank m n v) [bankedReg m n]
      ∧ { s.writeBank m n v with regs := s.regs } = s

/-- Q is sticky (R52, R570): an instruction that does not load the CPSR never clears it. -/
def Obligations.QSticky : Prop :=
  ∀ (i : Instr) (s t : State), loadsCpsr i = false → exec i s = .next t → s.cpsr.q = true → t.cpsr.q = true

/-! ### Branches -/

/-- B and BL (R400 to R402): the target is the address plus 8 plus four times the signed offset; BL leaves the address
of the instruction after it in R14 of the current mode, modulo 2^32 (the model's reading, entry 8); a target outside
the address space is refused. -/
def Obligations.BranchResults : Prop :=
  ∀ (s : State) (c : Cond) (imm : BitVec 24), condPassed c s.cpsr = true →
    let target : Int := (s.pc.toNat : Int) + 8 + 4 * imm.toInt
    (0 ≤ target → target < 2 ^ 32 →
      exec (.b c imm) s = .next { s with pc := BitVec.ofInt 32 target }
        ∧ exec (.bl c imm) s = .next { s.writeReg 14#4 (s.pc + 4) with pc := BitVec.ofInt 32 target })
      ∧ (target < 0 ∨ 2 ^ 32 ≤ target →
        exec (.b c imm) s = .refused .pcWrap ∧ exec (.bl c imm) s = .refused .pcWrap)

/-- BX, BLX (2) and BXJ (R404 to R406): Rm is read before R14 is written; bit[0] set would enter Thumb state and is
refused, and so is bits[1:0] = 10; BXJ is BX. The link of BLX (2) is modulo 2^32 (the model's reading, entry 8). -/
def Obligations.BranchExchangeResults : Prop :=
  ∀ (s : State) (c : Cond) (rm : Reg), condPassed c s.cpsr = true →
    let v := s.readReg rm
    (v.extractLsb' 0 2 = 0#2 →
      exec (.bx c rm) s = .next { s with pc := v } ∧ exec (.bxj c rm) s = .next { s with pc := v }
        ∧ (rm ≠ 15#4 → exec (.blx2 c rm) s = .next { s.writeReg 14#4 (s.pc + 4) with pc := v }))
      ∧ (v.getLsbD 0 = true →
        exec (.bx c rm) s = .refused .thumbState ∧ exec (.bxj c rm) s = .refused .thumbState
          ∧ (rm ≠ 15#4 → exec (.blx2 c rm) s = .refused .thumbState))
      ∧ (v.extractLsb' 0 2 = 2#2 →
        exec (.bx c rm) s = .refused .unpredictableOperands ∧ exec (.bxj c rm) s = .refused .unpredictableOperands
          ∧ exec (.blx2 c rm) s = .refused .unpredictableOperands)

/-- BLX (1) is always refused, because it enters Thumb state (R403). -/
def Obligations.BlxAddressRefused : Prop :=
  ∀ (s : State) (h : Bool) (imm : BitVec 24), exec (.blx1 h imm) s = .refused .thumbState

/-! ### Status registers -/

/-- MRS (R591): the CPSR in every mode, and the SPSR of an exception mode; in User and System mode the SPSR form is
refused (R49). The word read has the fields at their places and zero elsewhere, and a word written back keeps exactly
those bits (R46, R47). -/
def Obligations.MrsResults : Prop :=
  (∀ (s : State) (c : Cond) (rd : Reg), Runs c s → rd ≠ 15#4 →
    Ends (.mrs c false rd) s (s.writeReg rd s.cpsr.toWord)
      ∧ (∀ p, s.spsr.get s.mode = some p → Ends (.mrs c true rd) s (s.writeReg rd p.toWord))
      ∧ (s.mode = .usr ∨ s.mode = .sys → exec (.mrs c true rd) s = .refused .noSpsr))
  ∧ ∀ (p : Psr) (w : Word),
    Psr.ofWord p.toWord = p ∧ (Psr.ofWord w).toWord = w &&& 0xF90F03FF#32
      ∧ p.toWord.getLsbD 31 = p.n ∧ p.toWord.getLsbD 30 = p.z ∧ p.toWord.getLsbD 29 = p.c
      ∧ p.toWord.getLsbD 28 = p.v ∧ p.toWord.getLsbD 27 = p.q ∧ p.toWord.getLsbD 24 = p.j
      ∧ p.toWord.extractLsb' 16 4 = p.ge ∧ p.toWord.getLsbD 9 = p.e ∧ p.toWord.getLsbD 8 = p.a
      ∧ p.toWord.getLsbD 7 = p.i ∧ p.toWord.getLsbD 6 = p.f ∧ p.toWord.getLsbD 5 = p.t
      ∧ p.toWord.extractLsb' 0 5 = p.m

/-- MSR, both forms (R592, R593): to the CPSR it writes the selected bits the mode may write, in User mode N, Z, C, V,
Q, GE and E only; to the SPSR it writes every selected bit but the reserved ones. In a privileged mode ones for J or T
are refused (R48), and so is an illegal mode (R56); the SPSR form is refused in User and System mode (R49). Each of the
four mask bits selects one byte (R593). -/
def Obligations.MsrResults : Prop :=
  (∀ (mask : BitVec 4) (k : Nat), k < 32 → (byteMask mask).getLsbD k = mask.getLsbD (k / 8))
  ∧ ∀ (s : State) (c : Cond) (mask : BitVec 4) (operand : Word) (i : Bool → Instr), Runs c s →
    ((∃ rm, rm ≠ 15#4 ∧ operand = s.readReg rm ∧ i = fun r => .msrReg c r mask rm)
      ∨ (∃ op, operand = (rotImmOperand op s.cpsr.c).value ∧ i = fun r => .msrImm c r mask op)) →
    let written := fun (old m : Word) => (old &&& ~~~(byteMask mask &&& m)) ||| (operand &&& byteMask mask &&& m)
    let p := Psr.ofWord (written s.cpsr.toWord 0xF80F03DF#32)
    let stateBits := operand &&& byteMask mask &&& 0x01000020#32
    (s.mode = .usr → (Mode.ofBits s.cpsr.m).isSome = true →
        Ends (i false) s { s with cpsr := Psr.ofWord (written s.cpsr.toWord 0xF80F0200#32) })
      ∧ (s.mode ≠ .usr → stateBits = 0 → (Mode.ofBits p.m).isSome = true → Ends (i false) s { s with cpsr := p })
      ∧ (s.mode ≠ .usr → stateBits = 0 → Mode.ofBits p.m = none → exec (i false) s = .refused .illegalMode)
      ∧ (s.mode ≠ .usr → stateBits ≠ 0 → exec (i false) s = .refused .executionStateBits)
      ∧ (∀ q, s.spsr.get s.mode = some q →
          Ends (i true) s { s with spsr := s.spsr.set s.mode (Psr.ofWord (written q.toWord 0xF90F03FF#32)) })
      ∧ (s.mode = .usr ∨ s.mode = .sys → exec (i true) s = .refused .noSpsr)

/-- CPS (R594): in a privileged mode it writes the named mask bits and the mode, in User mode nothing; the four field
combinations that are UNPREDICTABLE are refused in every mode, and an illegal mode in the privileged ones (R56). -/
def Obligations.CpsResults : Prop :=
  ∀ (s : State) (imod : BitVec 2) (mmod a i f : Bool) (mode : BitVec 5), s.pc ≠ 0xFFFFFFFC#32 →
    let bad := imod = 1#2 ∨ (imod = 0#2 ∧ mmod = false) ∨ (imod.getLsbD 1 = true ∧ (a || i || f) = false)
      ∨ (imod.getLsbD 1 = false ∧ (a || i || f) = true) ∨ (mmod = false ∧ mode ≠ 0)
    (bad → exec (.cps imod mmod a i f mode) s = .refused .unpredictableOperands)
      ∧ (¬bad → s.mode = .usr → Ends (.cps imod mmod a i f mode) s s)
      ∧ (¬bad → s.mode ≠ .usr → (mmod = true → (Mode.ofBits mode).isSome = true) →
          Ends (.cps imod mmod a i f mode) s { s with
            cpsr := { s.cpsr with
              a := if a then imod.getLsbD 0 else s.cpsr.a
              i := if i then imod.getLsbD 0 else s.cpsr.i
              f := if f then imod.getLsbD 0 else s.cpsr.f
              m := if mmod then mode else s.cpsr.m } })
      ∧ (¬bad → s.mode ≠ .usr → mmod = true → Mode.ofBits mode = none →
          exec (.cps imod mmod a i f mode) s = .refused .illegalMode)

/-- SETEND writes E and nothing else, in every mode; its two words (R596). -/
def Obligations.SetendResult : Prop :=
  decode 0xF1010200#32 = .setend true ∧ decode 0xF1010000#32 = .setend false
    ∧ ∀ (s : State) (e : Bool), s.pc ≠ 0xFFFFFFFC#32 →
      Ends (.setend e) s { s with cpsr := { s.cpsr with e := e } }

/-- What User mode cannot do (R32, R331, R775): an instruction run there either leaves the mode, the A, I and F bits,
every SPSR, the control register, TTBR0 with the record of its writes, TTBR1, TTBCR, DACR, ContextID, DFSR, IFSR, FAR, WFAR, IFAR, base and P of both
lockdown registers (their victim counts TLB misses and may move, R246) and every banked register of another mode as they
are, or enters an exception at its vector with the old CPSR saved. -/
def Obligations.UserModeConfined : Prop :=
  ∀ (i : Instr) (s t : State), s.cpsr.m = 0b10000#5 → exec i s = .next t →
    (t.cpsr.m = s.cpsr.m ∧ t.cpsr.a = s.cpsr.a ∧ t.cpsr.i = s.cpsr.i ∧ t.cpsr.f = s.cpsr.f
      ∧ t.spsr = s.spsr ∧ t.sctlr = s.sctlr ∧ t.ttbr0 = s.ttbr0 ∧ t.ttbr0Writes = s.ttbr0Writes
      ∧ t.ttbr1 = s.ttbr1 ∧ t.ttbcr = s.ttbcr ∧ t.dacr = s.dacr ∧ t.contextId = s.contextId ∧ t.dfsr = s.dfsr ∧ t.ifsr = s.ifsr ∧ t.far = s.far
      ∧ t.wfar = s.wfar ∧ t.ifar = s.ifar
      ∧ t.tlbD.base = s.tlbD.base ∧ t.tlbD.p = s.tlbD.p ∧ t.tlbI.base = s.tlbI.base ∧ t.tlbI.p = s.tlbI.p
      ∧ ∀ p, (∀ n, bankedReg .usr n ≠ p) → t.regs.get p = s.regs.get p)
    ∨ (∃ k : ExceptionKind, t.cpsr.m = k.mode.bits ∧ t.spsr.get k.mode = some s.cpsr
        ∧ t.pc = vectorBase s.sctlr.current + k.offset)

/-! ### Memory -/

/-- A store of bytes reads back at its own addresses and leaves every other byte, and two memories in canonical form
that read alike are the same data (R86). -/
def Obligations.MemoryLaws : Prop :=
  (∀ (m : Memory) (a : Nat) (bs : List Byte), m.wf = true →
    (m.writeBytes a bs).readBytes a bs.length = bs
      ∧ ∀ b, b < a ∨ a + bs.length ≤ b → (m.writeBytes a bs).read b = m.read b)
  ∧ ∀ m n : Memory, m.wf = true → n.wf = true → (∀ a, m.read a = n.read a) → m = n

/-- Plain accesses that memory serves (R127, R128, R140, R141, R146): a read gives the bytes at the address in the byte
order of CPSR.E and changes nothing, a write stores them in that order, a fetch is always little-endian. With the MMU
off the address is the virtual one; in every state the access is made at the physical address that `dataAddress` or
`fetchAddress` gives, in the state it leaves, and an address that aborts aborts the access. -/
def Obligations.FlatAccess : Prop :=
  ∀ (s t : State) (va : Word) (user : Bool) (pa : BitVec 40) (a : AbortInfo),
    let quiet := fun n : Nat => backed t.cfg pa.toNat n = true ∧ t.responses = [] ∧ parityError t.cfg pa.toNat n = false
    let b := fun k => s.mem.read (va.toNat + k)
    let bytes := fun (size : AccessSize) (v : Word) => (List.range size.bytes).map fun k => byteOf v k
    (Flat s va .byte → memRead s va .byte user = .ok ((b 0).setWidth 32) s)
      ∧ (Flat s va .half → memRead s va .half user = .ok
          (if s.cpsr.e then (b 0 ++ b 1).setWidth 32 else (b 1 ++ b 0).setWidth 32) s)
      ∧ (Flat s va .word → memRead s va .word user = .ok
          (if s.cpsr.e then b 0 ++ b 1 ++ b 2 ++ b 3 else b 3 ++ b 2 ++ b 1 ++ b 0) s)
      ∧ (∀ size v, Flat s va size → memWrite s va size v user = .ok () { s with
          mem := s.mem.writeBytes va.toNat (if s.cpsr.e then (bytes size v).reverse else bytes size v) })
      ∧ (Flat s va .word → s.pc = va → fetch s = .ok (b 3 ++ b 2 ++ b 1 ++ b 0) s)
      ∧ (∀ size, dataAddress s va size .read user = .ok pa t → quiet size.bytes →
          memRead s va size user = .ok (assemble t.cpsr.e (t.mem.readBytes pa.toNat size.bytes)) t)
      ∧ (∀ size v, dataAddress s va size .write user = .ok pa t → quiet size.bytes →
          memWrite s va size v user = .ok () { t with mem := t.mem.writeBytes pa.toNat (split t.cpsr.e size v) })
      ∧ (fetchAddress s = .ok pa t → quiet 4 → fetch s = .ok (assemble false (t.mem.readBytes pa.toNat 4)) t)
      ∧ (∀ size, dataAddress s va size .read user = .abort a t → memRead s va size user = .abort a t)
      ∧ (∀ size v, dataAddress s va size .write user = .abort a t → memWrite s va size v user = .abort a t)
      ∧ (fetchAddress s = .abort a t → fetch s = .abort a t)
      ∧ (∀ (b : Byte) (bs : List Byte), assemble false [] = 0
          ∧ assemble false (b :: bs) = (assemble false bs <<< 8) ||| b.setWidth 32
          ∧ assemble true (b :: bs) = assemble false (bs.reverse ++ [b]))
      ∧ ∀ size v, split s.cpsr.e size v = if s.cpsr.e then (bytes size v).reverse else bytes size v

/-- The external memory system (R124, R742), for an access to memory that it answers with an error and for one outside
memory: where the implementation has the external abort of its kind, a data access takes a precise one with the status
01000, or goes on and leaves an imprecise one pending (a read then has a free value, and a write changes nothing but its
own bytes, the model's choice, entry 9; one too many is lost, the model's reading, entry 11); a fetch takes a Prefetch
Abort with that status, a table walk the abort of its level. Where it has none, an access outside memory is a fault, and
an error is no answer (the model's choice, entry 9). With parity checking a read or a fetch that is answered with a
parity error, or that touches a range with bad parity, takes a precise abort with the status 11000, and a read answered
with a late one goes on with an imprecise parity error pending where the implementation provides imprecise aborts, and
else takes the precise abort (the model's reading, entry 10); an external error ranks above them (R735). Writes and walks are not checked, and nothing is without parity checking. The answers come from the
list of entry 12. -/
def Obligations.ExternalAborts : Prop :=
  ∀ (s u : State) (pa : Nat) (va v : Word) (size : AccessSize) (big : Bool) (i : AbortInfo),
    let answered := fun (r : MemoryResponse) (n : Nat) => backed s.cfg pa n = true
      ∧ ∃ rest, s.responses = r :: rest ∧ u = { s with responses := rest }
    let outside := fun n : Nat => backed s.cfg pa n = false ∧ u = s
    let error := fun n : Nat => outside n ∨ answered .error n
    let parity := fun n : Nat => answered .parity n ∨ answered .lateParity n
    let imprecise := s.cfg.extData = .imprecise ∨ s.cfg.extImprecise = true
    let unremarked := fun n : Nat => answered .served n ∨ (backed s.cfg pa n = true ∧ s.responses = [] ∧ u = s)
    let bad := fun n : Nat => s.cfg.parity = true
      ∧ ∃ r ∈ s.cfg.parityBad, ∃ k, k < n ∧ r.base ≤ pa + k ∧ pa + k < r.base + r.size
    let pending := { u with pendingImprecise := min (u.pendingImprecise + 1) u.cfg.imprecisePendMax }
    let late := { pending with
      pendingParity := if u.pendingImprecise < u.cfg.imprecisePendMax then u.pendingParity + 1 else u.pendingParity }
    let read : Res Word := .ok (assemble s.cpsr.e (s.mem.readBytes pa size.bytes)) u
    let written : Res Unit := .ok () { u with mem := s.mem.writeBytes pa (split s.cpsr.e size v) }
    let fetched : Res Word := .ok (assemble false (s.mem.readBytes pa 4)) u
    let walked : Res Word := .ok (assemble big (s.mem.readBytes pa 4)) u
    (s.cfg.extData = .precise → error size.bytes →
        readAt s pa va size = .abort ⟨0b01000#5, none, va, false, true⟩ u
          ∧ writeAt s pa va size v = .abort ⟨0b01000#5, none, va, true, true⟩ u)
      ∧ (s.cfg.extData = .imprecise → error size.bytes →
        (∃ w n, readAt s pa va size = .ok w { pending with draws := n })
          ∧ ∃ m n, writeAt s pa va size v = .ok () { pending with mem := m, draws := n }
            ∧ ∀ a, a < pa ∨ pa + size.bytes ≤ a → m.read a = s.mem.read a)
      ∧ (s.cfg.extData = .none →
        (answered .error size.bytes → (¬bad size.bytes → readAt s pa va size = read) ∧ writeAt s pa va size v = written)
        ∧ (outside size.bytes →
          readAt s pa va size = .fault (.noMemory pa) ∧ writeAt s pa va size v = .fault (.noMemory pa)))
      ∧ (s.cfg.extFetch = true → error 4 → fetchAt s pa = .abort ⟨0b01000#5, none, s.pc, false, false⟩ u)
      ∧ (s.cfg.extFetch = false →
        (outside 4 → fetchAt s pa = .fault (.noMemory pa))
          ∧ (answered .error 4 → ¬bad 4 → fetchAt s pa = fetched))
      ∧ (s.cfg.extWalk = true → error 4 → walkRead s pa big i = .abort i u)
      ∧ (s.cfg.extWalk = false →
        (outside 4 → walkRead s pa big i = .fault (.noMemory pa)) ∧ (answered .error 4 → walkRead s pa big i = walked))
      ∧ (s.cfg.parity = true →
        (answered .parity size.bytes → readAt s pa va size = .abort ⟨0b11000#5, none, va, false, false⟩ u)
          ∧ (answered .lateParity size.bytes → imprecise → ∃ w n, readAt s pa va size = .ok w { late with draws := n })
          ∧ (answered .lateParity size.bytes → ¬imprecise →
            readAt s pa va size = .abort ⟨0b11000#5, none, va, false, false⟩ u)
          ∧ (parity 4 → fetchAt s pa = .abort ⟨0b11000#5, none, s.pc, false, false⟩ u))
      ∧ (bad size.bytes → unremarked size.bytes →
        readAt s pa va size = .abort ⟨0b11000#5, none, va, false, false⟩ u)
      ∧ (bad 4 → unremarked 4 → fetchAt s pa = .abort ⟨0b11000#5, none, s.pc, false, false⟩ u)
      ∧ (s.cfg.parity = false →
        (parity size.bytes → readAt s pa va size = read) ∧ (parity 4 → fetchAt s pa = fetched))
      ∧ (unremarked size.bytes ∨ parity size.bytes → writeAt s pa va size v = written)
      ∧ (unremarked 4 ∨ parity 4 → walkRead s pa big i = walked)
      ∧ (unremarked size.bytes → ¬bad size.bytes → readAt s pa va size = read)
      ∧ (unremarked 4 → ¬bad 4 → fetchAt s pa = fetched)

/-- A misaligned halfword or word access aborts with the alignment fault when the MMU and A are on, before any
translation, and is refused otherwise (R133); a pair of words is refused when its address is a multiple of 4 but not
of 8. -/
def Obligations.Misaligned : Prop :=
  ∀ (s : State) (va : Word) (size : AccessSize) (k : AccessKind) (user : Bool), s.sctlr.window = [] →
    let info : AbortInfo := ⟨0b00001#5, none, va, k == .write, true⟩
    let checked := ctlM s.sctlr.current = true ∧ ctlA s.sctlr.current = true
    (aligned size va = false → va.toNat + size.bytes ≤ 2 ^ 32 →
      (checked → dataAddress s va size k user = .abort info s)
        ∧ (¬checked → dataAddress s va size k user = .refused .misaligned))
    ∧ (va.toNat + 8 ≤ 2 ^ 32 →
      (va.extractLsb' 0 2 ≠ 0#2 → checked → checkPair s va k = .abort info s)
        ∧ (va.extractLsb' 0 2 ≠ 0#2 → ¬checked → checkPair s va k = .refused .misaligned)
        ∧ (va.extractLsb' 0 3 = 4#3 → checkPair s va k = .refused .misaligned))
    ∧ (2 ^ 32 < va.toNat + size.bytes → dataAddress s va size k user = .fault .addressWrap)

/-! ### Addressing modes -/

/-- The addresses and the base register of addressing modes 2 and 3 (R606 to R610, R621 to R624): U adds or subtracts,
post-indexed forms use the base itself, and the sum goes to the base in the pre-indexed and post-indexed forms. The
scaled offset (R608), where an amount of 0 stands for 32, or for the rotation through the carry. Addressing mode 4
(R660): the start address and the new base of a transfer of `n` words, and the registers of a list, lowest number first.
All arithmetic is modulo 2^32. -/
def Obligations.AddressingModes : Prop :=
  ∀ (s : State) (u : Bool) (base offset : Word) (rn r : Reg) (op : ImmShift) (n : Nat) (list : BitVec 16),
    let sum := BitVec.ofInt 32 (if u then (base.toNat : Int) + offset.toNat else (base.toNat : Int) - offset.toNat)
    let x := s.readReg op.rm
    let k := op.amount.toNat
    let at4 := fun d : Int => BitVec.ofInt 32 ((base.toNat : Int) + d)
    (indexAddress .offset u base offset = sum ∧ indexAddress .pre u base offset = sum
        ∧ indexAddress .post u base offset = base)
      ∧ (s.baseWritten .offset u rn base offset = s ∧ s.baseWritten .pre u rn base offset = s.writeReg rn sum
        ∧ s.baseWritten .post u rn base offset = s.writeReg rn sum)
      ∧ (op.ty = .lsl → scaledOffset s op = BitVec.ofNat 32 (x.toNat * 2 ^ k))
      ∧ (op.ty = .lsr → (scaledOffset s op).toNat = x.toNat / 2 ^ (if k = 0 then 32 else k))
      ∧ (op.ty = .asr → (scaledOffset s op).toInt = x.toInt / 2 ^ (if k = 0 then 32 else k))
      ∧ (op.ty = .ror → k ≠ 0 → (scaledOffset s op).toNat = x.toNat / 2 ^ k + x.toNat % 2 ^ k * 2 ^ (32 - k))
      ∧ (op.ty = .ror → k = 0 → (scaledOffset s op).toNat = s.cpsr.c.toNat * 2 ^ 31 + x.toNat / 2)
      ∧ multipleStart .ia base n = base ∧ multipleStart .ib base n = at4 4
      ∧ multipleStart .da base n = at4 (-4 * n + 4) ∧ multipleStart .db base n = at4 (-4 * n)
      ∧ multipleWriteback .ia base n = at4 (4 * n) ∧ multipleWriteback .ib base n = at4 (4 * n)
      ∧ multipleWriteback .da base n = at4 (-4 * n) ∧ multipleWriteback .db base n = at4 (-4 * n)
      ∧ (r ∈ listRegs list ↔ list.getLsbD r.toNat = true)
      ∧ (listRegs list).Pairwise fun a b => a.toNat < b.toNat

/-- The accesses of a transfer of several words (R660, R664, R673): one word is one access, and a longer transfer is its
first part followed by the rest four bytes further for each word of the first part; so word k is at the start address
plus 4k, in ascending order, and the transfer stops at the first access that does not complete. With the MMU off a
transfer from memory reads the words that stand there. -/
def Obligations.WordSequences : Prop :=
  ∀ (s : State) (va v : Word) (user : Bool) (m n : Nat) (vs ws : List Word),
    (readWords s va user 1 = (memRead s va .word user).bind fun v t => .ok [v] t)
      ∧ readWords s va user (m + n) = (readWords s va user m).bind (fun vs t =>
          (readWords t (va + BitVec.ofNat 32 (4 * m)) user n).bind fun ws u => .ok (vs ++ ws) u)
      ∧ writeWords s va user [v] = memWrite s va .word v user
      ∧ writeWords s va user (vs ++ ws) = (writeWords s va user vs).bind (fun _ t =>
          writeWords t (va + BitVec.ofNat 32 (4 * vs.length)) user ws)
      ∧ ((∀ k, k < n → Flat s (va + BitVec.ofNat 32 (4 * k)) .word) →
          readWords s va user n = .ok ((List.range n).map fun k =>
            assemble s.cpsr.e (s.mem.readBytes (va + BitVec.ofNat 32 (4 * k)).toNat 4)) s)

/-! ### Loads and stores -/

/-- LDR, LDRB, LDRH, LDRSB and LDRSH in every addressing form, and LDRT and LDRBT (R605 to R628): when the access reads
a value, the base is written back if the form says so and Rd receives the value, extended. The T forms access with User
permissions (R620). LDR with Rd = R15 branches to a word-aligned value; bit[0] set would enter Thumb state and is
refused, and so is bits[1:0] = 10 (R612). The access itself changes no register and no memory (`SameButTlb`). -/
def Obligations.LoadResults : Prop :=
  ∀ (s t : State) (c : Cond) (idx : IndexMode) (u : Bool) (rn rd : Reg) (offset v : Word) (i : Instr),
    condPassed c s.cpsr = true → BaseAllowed idx rn [rd] →
    let base := s.readReg rn
    let t' := t.baseWritten idx u rn base offset
    let ends := fun w : Word => rd ≠ 15#4 → s.pc ≠ 0xFFFFFFFC#32 → Ends i s (t'.writeReg rd w) ∧ SameButTlb s t
    let read := fun (size : AccessSize) (user : Bool) => memRead s (indexAddress idx u base offset) size user = .ok v t
    (OffsetForms2 s idx rn (.ldrImm c idx u rn rd) (.ldrReg c idx u rn rd) offset i → read .word s.user →
        ends v
          ∧ (rd = 15#4 →
              (v.extractLsb' 0 2 = 0#2 → exec i s = .next { t' with pc := v } ∧ SameButTlb s t)
                ∧ (v.getLsbD 0 = true → exec i s = .refused .thumbState)
                ∧ (v.extractLsb' 0 2 = 2#2 → exec i s = .refused .unpredictableOperands)))
      ∧ (OffsetForms2 s idx rn (.ldrbImm c idx u rn rd) (.ldrbReg c idx u rn rd) offset i → read .byte s.user →
          ends ((v.setWidth 8).setWidth 32))
      ∧ (OffsetForms3 s idx rn (.ldrhImm c idx u rn rd) (.ldrhReg c idx u rn rd) offset i → read .half s.user →
          ends ((v.setWidth 16).setWidth 32))
      ∧ (OffsetForms3 s idx rn (.ldrsbImm c idx u rn rd) (.ldrsbReg c idx u rn rd) offset i → read .byte s.user →
          ends ((v.setWidth 8).signExtend 32))
      ∧ (OffsetForms3 s idx rn (.ldrshImm c idx u rn rd) (.ldrshReg c idx u rn rd) offset i → read .half s.user →
          ends ((v.setWidth 16).signExtend 32))
      ∧ (idx = .post → OffsetForms2 s idx rn (.ldrtImm c u rn rd) (.ldrtReg c u rn rd) offset i → read .word true →
          ends v)
      ∧ (idx = .post → OffsetForms2 s idx rn (.ldrbtImm c u rn rd) (.ldrbtReg c u rn rd) offset i → read .byte true →
          ends ((v.setWidth 8).setWidth 32))

/-- STR, STRB, STRH, STRT and STRBT (R614, R615, R618, R619, R628): the register's value, or for STR with Rd = R15 the
address plus the parameter of R44, is written, then the base if the form says so; no byte outside the stored ones
changes, at the physical address the model computes, and no register but the base. -/
def Obligations.StoreResults : Prop :=
  ∀ (s t : State) (c : Cond) (idx : IndexMode) (u : Bool) (rn rd : Reg) (offset : Word) (i : Instr),
    Runs c s → BaseAllowed idx rn [rd] →
    let base := s.readReg rn
    let va := indexAddress idx u base offset
    let v := if rd = 15#4 then s.pc + (if s.cfg.pcStoreOffset12 then 12 else 8) else s.readReg rd
    let ends := fun (size : AccessSize) (user : Bool) => memWrite s va size v user = .ok () t →
      Ends i s (t.baseWritten idx u rn base offset)
        ∧ ∀ pa t', dataAddress s va size .write user = .ok pa t' → OnlyStored s t [pa.toNat] size.bytes
    (OffsetForms2 s idx rn (.strImm c idx u rn rd) (.strReg c idx u rn rd) offset i → ends .word s.user)
      ∧ (rd ≠ 15#4 → OffsetForms2 s idx rn (.strbImm c idx u rn rd) (.strbReg c idx u rn rd) offset i →
          ends .byte s.user)
      ∧ (rd ≠ 15#4 → OffsetForms3 s idx rn (.strhImm c idx u rn rd) (.strhReg c idx u rn rd) offset i →
          ends .half s.user)
      ∧ (rd ≠ 15#4 → idx = .post → OffsetForms2 s idx rn (.strtImm c u rn rd) (.strtReg c u rn rd) offset i →
          ends .word true)
      ∧ (rd ≠ 15#4 → idx = .post → OffsetForms2 s idx rn (.strbtImm c u rn rd) (.strbtReg c u rn rd) offset i →
          ends .byte true)

/-- A single-register load or store, an exclusive or a swap whose access aborts takes the Data Abort with no register
written, neither Rd nor the base, no memory, and the exclusive monitor as it was (R605, R751). The T forms access with
User permissions (R620); LDR and STR take it with Rd = R15 as well. -/
def Obligations.AccessAborts : Prop :=
  ∀ (s t : State) (c : Cond) (idx : IndexMode) (u : Bool) (rn rd rm : Reg) (offset : Word) (a : AbortInfo) (i : Instr),
    condPassed c s.cpsr = true →
    let va := indexAddress idx u (s.readReg rn) offset
    let v := if rd = 15#4 then s.pc + (if s.cfg.pcStoreOffset12 then 12 else 8) else s.readReg rd
    let aborts := fun i : Instr => exec i s = .next (t.dataAbort a) ∧ SameButTlb s t
    let loads := fun (size : AccessSize) (user : Bool) => memRead s va size user = .abort a t → aborts i
    let stores := fun (size : AccessSize) (user : Bool) => memWrite s va size v user = .abort a t → aborts i
    (BaseAllowed idx rn [rd] →
      (OffsetForms2 s idx rn (.ldrImm c idx u rn rd) (.ldrReg c idx u rn rd) offset i → loads .word s.user)
      ∧ (OffsetForms2 s idx rn (.strImm c idx u rn rd) (.strReg c idx u rn rd) offset i → stores .word s.user)
      ∧ (rd ≠ 15#4 →
        (OffsetForms2 s idx rn (.ldrbImm c idx u rn rd) (.ldrbReg c idx u rn rd) offset i → loads .byte s.user)
        ∧ (OffsetForms3 s idx rn (.ldrhImm c idx u rn rd) (.ldrhReg c idx u rn rd) offset i → loads .half s.user)
        ∧ (OffsetForms3 s idx rn (.ldrsbImm c idx u rn rd) (.ldrsbReg c idx u rn rd) offset i → loads .byte s.user)
        ∧ (OffsetForms3 s idx rn (.ldrshImm c idx u rn rd) (.ldrshReg c idx u rn rd) offset i → loads .half s.user)
        ∧ (OffsetForms2 s idx rn (.strbImm c idx u rn rd) (.strbReg c idx u rn rd) offset i → stores .byte s.user)
        ∧ (OffsetForms3 s idx rn (.strhImm c idx u rn rd) (.strhReg c idx u rn rd) offset i → stores .half s.user)
        ∧ (idx = .post →
          (OffsetForms2 s idx rn (.ldrtImm c u rn rd) (.ldrtReg c u rn rd) offset i → loads .word true)
          ∧ (OffsetForms2 s idx rn (.ldrbtImm c u rn rd) (.ldrbtReg c u rn rd) offset i → loads .byte true)
          ∧ (OffsetForms2 s idx rn (.strtImm c u rn rd) (.strtReg c u rn rd) offset i → stores .word true)
          ∧ (OffsetForms2 s idx rn (.strbtImm c u rn rd) (.strbtReg c u rn rd) offset i → stores .byte true))))
    ∧ (15#4 ∉ [rn, rd] → memRead s (s.readReg rn) .word s.user = .abort a t → aborts (.ldrex c rn rd))
    ∧ (15#4 ∉ [rn, rd, rm] → rd ≠ rn → rd ≠ rm →
        dataAddress s (s.readReg rn) .word .write s.user = .abort a t
          ∨ (∃ pa t', dataAddress s (s.readReg rn) .word .write s.user = .ok pa t' ∧ s.excl = some pa.toNat
            ∧ writeAt t' pa.toNat (s.readReg rn) .word (s.readReg rm) = .abort a t) →
        aborts (.strex c rn rd rm))
    ∧ (15#4 ∉ [rn, rd, rm] → rn ≠ rd → rn ≠ rm →
        ∀ e ∈ [(AccessSize.word, Instr.swp c rn rd rm), (.byte, .swpb c rn rd rm)],
          memRead s (s.readReg rn) e.1 s.user = .abort a t
            ∨ (∃ old t', memRead s (s.readReg rn) e.1 s.user = .ok old t'
              ∧ memWrite t' (s.readReg rn) e.1 (s.readReg rm) s.user = .abort a t) →
          aborts e.2)

/-- LDRD and STRD (R629, R630): two words at consecutive addresses, the pair Rd and the register after it, then the base
if the form says so; LDRD changes no memory, STRD only the eight bytes at the addresses the model computes. -/
def Obligations.DoublewordResults : Prop :=
  ∀ (s t1 t2 : State) (c : Cond) (idx : IndexMode) (u : Bool) (rn rd : Reg) (offset d0 d1 : Word) (i : Instr),
    Runs c s → rd.getLsbD 0 = false → rd ≠ 14#4 → BaseAllowed idx rn [rd, rd + 1] →
    let base := s.readReg rn
    let va := indexAddress idx u base offset
    let values := [s.readReg rd, s.readReg (rd + 1)]
    va.extractLsb' 0 3 = 0#3 → va.toNat + 8 ≤ 2 ^ 32 →
      (OffsetForms3 s idx rn (.ldrdImm c idx u rn rd) (.ldrdReg c idx u rn rd) offset i →
        (∀ rm, i = .ldrdReg c idx u rn rd rm → rm ≠ rd ∧ rm ≠ rd + 1) →
        memRead s va .word s.user = .ok d0 t1 → memRead t1 (va + 4) .word s.user = .ok d1 t2 →
          Ends i s (((t2.baseWritten idx u rn base offset).writeReg rd d0).writeReg (rd + 1) d1) ∧ SameButTlb s t2)
      ∧ (OffsetForms3 s idx rn (.strdImm c idx u rn rd) (.strdReg c idx u rn rd) offset i →
        writeWords s va s.user values = .ok () t2 →
          Ends i s (t2.baseWritten idx u rn base offset)
            ∧ OnlyStored s t2 (storeAddresses s va s.user values) 4)

/-- LDREX and STREX (R650 to R652): LDREX loads the word and tags its physical address; STREX stores and answers 0 when
the tag is the address of its store, stores nothing and answers 1 otherwise, and always clears the tag. SWP and SWPB
(R670, R671): the old value goes to Rd and the value of Rm to memory, so that one register names an exchange; no byte
changes outside the one address. -/
def Obligations.SemaphoreResults : Prop :=
  (∀ (s t u : State) (c : Cond) (rn rd rm : Reg) (pa : BitVec 40) (v : Word), Runs c s → 15#4 ∉ [rn, rd, rm] →
    let va := s.readReg rn
    (dataAddress s va .word .read s.user = .ok pa t → readAt t pa.toNat va .word = .ok v u →
      Ends (.ldrex c rn rd) s { u.writeReg rd v with excl := some pa.toNat } ∧ SameButTlb s u)
    ∧ (rd ≠ rn → rd ≠ rm → dataAddress s va .word .write s.user = .ok pa t →
      (s.excl = some pa.toNat → writeAt t pa.toNat va .word (s.readReg rm) = .ok () u →
        Ends (.strex c rn rd rm) s { u.writeReg rd 0 with excl := none } ∧ OnlyStored s u [pa.toNat] 4)
      ∧ (s.excl ≠ some pa.toNat → Ends (.strex c rn rd rm) s { t.writeReg rd 1 with excl := none } ∧ SameButTlb s t)))
  ∧ ∀ (s t u : State) (c : Cond) (rn rd rm : Reg) (v : Word), Runs c s → 15#4 ∉ [rn, rd, rm] → rn ≠ rd → rn ≠ rm →
    let va := s.readReg rn
    let swaps := fun (i : Instr) (size : AccessSize) (old : Word) =>
      memRead s va size s.user = .ok v t → memWrite t va size (s.readReg rm) s.user = .ok () u →
        Ends i s (u.writeReg rd old)
          ∧ ∀ pa t', dataAddress t va size .write s.user = .ok pa t' → OnlyStored s u [pa.toNat] size.bytes
    swaps (.swp c rn rd rm) .word v ∧ swaps (.swpb c rn rd rm) .byte ((v.setWidth 8).setWidth 32)

/-! ### Load and store multiple -/

/-- LDM (1), (2) and (3) (R660 to R663): the words from the start address upwards go to the listed registers, the lowest
number first, of the current mode, or for LDM (2) of the User bank; the base is written back where W says so; with the
PC in the list LDM (1) branches to a word-aligned value, and LDM (3) restores the CPSR from the SPSR. No other register
changes and no memory. A PC word with bit[0] set, or with bits[1:0] = 10, and an SPSR that cannot go to the CPSR are
refused (R56, R57, R612, in the order of entry 23). That LDM (3) ignores bits[1:0] of the PC word is R663, and the
model's reading against U22 (entry 24). -/
def Obligations.LoadMultipleResults : Prop :=
  ∀ (s t : State) (c : Cond) (am : AddrMode4) (wb : Bool) (rn : Reg) (list : BitVec 16) (vs : List Word),
    Runs c s → rn ≠ 15#4 → list ≠ 0 → (wb = true → rn ∉ listRegs list) →
    let regs := listRegs list
    let start := multipleStart am (s.readReg rn) regs.length
    start.toNat + 4 * regs.length ≤ 2 ^ 32 → readWords s start s.user regs.length = .ok vs t →
    let loaded := fun (m : Mode) (x : State) =>
      (∀ k, k < regs.length → regs.getD k 0 ≠ 15#4 → x.readBank m (regs.getD k 0) = vs.getD k 0)
        ∧ (wb = true → x.readReg rn = multipleWriteback am (s.readReg rn) regs.length)
        ∧ SameRegs s x ((regs.filter (· ≠ 15#4)).map (bankedReg m) ++ if wb then [bankedReg s.mode rn] else [])
        ∧ x.mem = s.mem ∧ x.spsr = s.spsr ∧ x.excl = s.excl
    (list.getLsbD 15 = false →
        ∃ x, exec (.ldm1 c am wb rn list) s = .next x ∧ loaded s.mode x ∧ x.pc = s.pc + 4 ∧ x.cpsr = s.cpsr
          ∧ SameSystem s x)
      ∧ (list.getLsbD 15 = true → (vs.getLastD 0).extractLsb' 0 2 = 0#2 →
        ∃ x, exec (.ldm1 c am wb rn list) s = .next x ∧ loaded s.mode x ∧ x.pc = vs.getLastD 0 ∧ x.cpsr = s.cpsr
          ∧ SameSystem s x)
      ∧ (list.getLsbD 15 = true → (vs.getLastD 0).getLsbD 0 = true →
        exec (.ldm1 c am wb rn list) s = .refused .thumbState)
      ∧ (list.getLsbD 15 = true → (vs.getLastD 0).extractLsb' 0 2 = 2#2 →
        exec (.ldm1 c am wb rn list) s = .refused .unpredictableOperands)
      ∧ (list.getLsbD 15 = true → ∀ q, s.spsr.get s.mode = some q →
        RefusesReturn (.ldm3 c am wb rn (list.setWidth 15)) s q)
      ∧ (list.getLsbD 15 = false → wb = false → s.mode ≠ .usr → s.mode ≠ .sys →
        ∃ x, exec (.ldm2 c am wb rn (list.setWidth 15)) s = .next x ∧ loaded .usr x ∧ x.pc = s.pc + 4
          ∧ x.cpsr = s.cpsr ∧ SameSystem s x)
      ∧ (list.getLsbD 15 = false → wb = false → s.mode = .usr ∨ s.mode = .sys →
        exec (.ldm2 c am wb rn (list.setWidth 15)) s = .refused .unpredictableInMode)
      ∧ (list.getLsbD 15 = true → ∀ q, s.spsr.get s.mode = some q → q.returnable →
        ∃ x, exec (.ldm3 c am wb rn (list.setWidth 15)) s = .next x ∧ x.cpsr = q
          ∧ x.pc = vs.getLastD 0 &&& 0xFFFFFFFC#32 ∧ loaded s.mode { x with cpsr := s.cpsr })
      ∧ (list.getLsbD 15 = true → s.spsr.get s.mode = none →
        exec (.ldm3 c am wb rn (list.setWidth 15)) s = .refused .noSpsr)

/-- A load of several registers that aborts (R673, R751), LDM (1), (2) and (3), LDRD and RFE: it takes the Data Abort of
the access that failed; the base register, memory, the CPSR and every register that is not loaded keep their values, and
so does the one register of a list of one (the model's reading, entry 20); the other registers but the PC take free
values (entry 6). RFE changes no register. -/
def Obligations.MultipleLoadAborts : Prop :=
  ∀ (s t : State) (c : Cond) (am : AddrMode4) (wb u : Bool) (rn rd : Reg) (list : BitVec 16) (idx : IndexMode)
    (offset : Word) (a : AbortInfo) (i : Instr), condPassed c s.cpsr = true →
    let aborts := fun (i : Instr) (free : List PhysReg) => ∃ x, exec i s = .next (x.dataAbort a)
      ∧ SameRegs s x free ∧ (∀ p ∈ free, ∃ n, x.regs.get p = Config.anyWord n)
      ∧ x.mem = s.mem ∧ x.cpsr = s.cpsr ∧ SameSystem s x
    (rn ≠ 15#4 → list ≠ 0 → (wb = true → rn ∉ listRegs list) →
      let regs := listRegs list
      let start := multipleStart am (s.readReg rn) regs.length
      let free := fun m : Mode => if regs.length = 1 then []
        else ((regs.filter (· ≠ 15#4)).map (bankedReg m)).filter (· ≠ bankedReg s.mode rn)
      start.toNat + 4 * regs.length ≤ 2 ^ 32 → readWords s start s.user regs.length = .abort a t →
        aborts (.ldm1 c am wb rn list) (free s.mode)
          ∧ (list.getLsbD 15 = false → wb = false → s.mode ≠ .usr → s.mode ≠ .sys →
            aborts (.ldm2 c am wb rn (list.setWidth 15)) (free .usr))
          ∧ (list.getLsbD 15 = true → s.mode ≠ .usr → s.mode ≠ .sys →
            aborts (.ldm3 c am wb rn (list.setWidth 15)) (free s.mode)))
    ∧ (rd.getLsbD 0 = false → rd ≠ 14#4 → BaseAllowed idx rn [rd, rd + 1] →
      OffsetForms3 s idx rn (.ldrdImm c idx u rn rd) (.ldrdReg c idx u rn rd) offset i →
      (∀ rm, i = .ldrdReg c idx u rn rd rm → rm ≠ rd ∧ rm ≠ rd + 1) →
      let va := indexAddress idx u (s.readReg rn) offset
      checkPair s va .read = .abort a t
        ∨ (∃ t1, checkPair s va .read = .ok () t1 ∧ readWords t1 va s.user 2 = .abort a t) →
        aborts i (([rd, rd + 1].filter (· ≠ rn)).map (bankedReg s.mode)))
    ∧ (s.mode ≠ .usr → rn ≠ 15#4 →
      let start := multipleStart am (s.readReg rn) 2
      start.toNat + 8 ≤ 2 ^ 32 → readWords s start s.user 2 = .abort a t →
        exec (.rfe am wb rn) s = .next (t.dataAbort a) ∧ SameButTlb s t)

/-- A store of several words that aborts (R673, R751), STM (1) and (2), STRD and SRS: it takes the Data Abort of the
access that failed, and changes no register. The words whose own write check passes are left open: the check of word k
is made in the state after the k words before it are stored, and for a word after the abort in the state the abort
leaves (entry 16). The words already stored are among them, and where there is memory each takes a free value (entry 6);
no other byte changes. -/
def Obligations.MultipleStoreAborts : Prop :=
  ∀ (s t : State) (c : Cond) (am : AddrMode4) (wb u : Bool) (rn rd : Reg) (list : BitVec 16) (idx : IndexMode)
    (offset : Word) (a : AbortInfo) (i : Instr) (m : Mode) (q : Psr), condPassed c s.cpsr = true →
    let aborts := fun (i : Instr) (start : Word) (values : List Word) =>
      writeWords s start s.user values = .abort a t →
        let pas := openWords s start s.user values
        (∃ x, exec i s = .next (x.dataAbort a) ∧ OnlyStored s x pas 4
          ∧ (s.mem.wf = true → ∀ pa ∈ pas, backed s.cfg pa 4 = true →
            ∃ n, x.mem.readBytes pa 4 = split s.cpsr.e .word (Config.anyWord n)))
          ∧ storeAddresses s start s.user values <+: pas
          ∧ ∀ pa, pa ∈ pas ↔ ∃ (x y : State) (k : Nat) (b : BitVec 40), k < values.length ∧ b.toNat = pa
            ∧ (writeWords s start s.user (values.take k) = .ok () x
              ∨ (writeWords s start s.user (values.take k) = .abort a t ∧ x = t))
            ∧ dataAddress x (start + BitVec.ofNat 32 (4 * k)) .word .write s.user = .ok b y
    (rn ≠ 15#4 → list ≠ 0 → (wb = true → rn ∈ listRegs list → (listRegs list).head? = some rn) →
      let regs := listRegs list
      let start := multipleStart am (s.readReg rn) regs.length
      let values := fun m : Mode => regs.map fun r =>
        if r = 15#4 then s.pc + (if s.cfg.pcStoreOffset12 then 12 else 8) else s.readBank m r
      start.toNat + 4 * regs.length ≤ 2 ^ 32 →
        aborts (.stm1 c am wb rn list) start (values s.mode)
          ∧ (wb = false → s.mode ≠ .usr → s.mode ≠ .sys → aborts (.stm2 c am wb rn list) start (values .usr)))
    ∧ (rd.getLsbD 0 = false → rd ≠ 14#4 → BaseAllowed idx rn [rd, rd + 1] →
      OffsetForms3 s idx rn (.strdImm c idx u rn rd) (.strdReg c idx u rn rd) offset i →
      let va := indexAddress idx u (s.readReg rn) offset
      (va.extractLsb' 0 3 = 0#3 → va.toNat + 8 ≤ 2 ^ 32 → aborts i va [s.readReg rd, s.readReg (rd + 1)])
        ∧ (checkPair s va .write = .abort a t → exec i s = .next (t.dataAbort a) ∧ SameButTlb s t))
    ∧ (s.spsr.get s.mode = some q →
      let start := multipleStart am (s.readBank m 13#4) 2
      start.toNat + 8 ≤ 2 ^ 32 → aborts (.srs am wb m.bits) start [s.readReg 14#4, q.toWord])

/-- STM (1) and (2) (R660, R664, R665): the listed registers, of the current mode or for STM (2) of the User bank, are
stored from the start address upwards, R15 as the address plus the parameter of R44; then the base is written back
where W says so. No byte changes outside the stored words, at the addresses the model computes. -/
def Obligations.StoreMultipleResults : Prop :=
  ∀ (s t : State) (c : Cond) (am : AddrMode4) (wb : Bool) (rn : Reg) (list : BitVec 16),
    Runs c s → rn ≠ 15#4 → list ≠ 0 → (wb = true → rn ∈ listRegs list → (listRegs list).head? = some rn) →
    let regs := listRegs list
    let start := multipleStart am (s.readReg rn) regs.length
    let values := fun (m : Mode) => regs.map fun r =>
      if r = 15#4 then s.pc + (if s.cfg.pcStoreOffset12 then 12 else 8) else s.readBank m r
    let stored := fun (m : Mode) => OnlyStored s t (storeAddresses s start s.user (values m)) 4
    start.toNat + 4 * regs.length ≤ 2 ^ 32 →
      (writeWords s start s.user (values s.mode) = .ok () t →
        Ends (.stm1 c am wb rn list) s
            (if wb then t.writeReg rn (multipleWriteback am (s.readReg rn) regs.length) else t)
          ∧ stored s.mode)
      ∧ (wb = false → s.mode ≠ .usr → s.mode ≠ .sys → writeWords s start s.user (values .usr) = .ok () t →
          Ends (.stm2 c am wb rn list) s t ∧ stored .usr)
      ∧ (wb = false → s.mode = .usr ∨ s.mode = .sys → exec (.stm2 c am wb rn list) s = .refused .unpredictableInMode)

/-- SRS and RFE (R666, R667): SRS stores R14 and the SPSR of the current mode at two words of the named mode's stack and
moves its R13, and is refused where there is no SPSR, which is named first (the model's choice, entry 23), and where its
mode field holds none of the seven mode numbers; RFE loads the pc and the whole CPSR from two words, as a
synchronisation point, and moves its base, and is refused where the loaded status word cannot go to the CPSR (R56, R57,
in the order of entry 23). That RFE ignores bits[1:0] of the pc word is R667, and the model's reading against U22 (entry
24). -/
def Obligations.ReturnStateResults : Prop :=
  ∀ (s t : State) (am : AddrMode4) (wb : Bool) (rn : Reg) (m : Mode) (field : BitVec 5) (q : Psr)
    (pcWord psrWord : Word),
    s.pc ≠ 0xFFFFFFFC#32 →
    (s.spsr.get s.mode = some q →
      let base := s.readBank m 13#4
      let start := multipleStart am base 2
      let values := [s.readReg 14#4, q.toWord]
      start.toNat + 8 ≤ 2 ^ 32 → writeWords s start s.user values = .ok () t →
        Ends (.srs am wb m.bits) s (if wb then t.writeBank m 13#4 (multipleWriteback am base 2) else t)
          ∧ OnlyStored s t (storeAddresses s start s.user values) 4)
    ∧ (s.spsr.get s.mode = none → exec (.srs am wb field) s = .refused .noSpsr)
    ∧ (s.spsr.get s.mode = some q → Mode.ofBits field = none → exec (.srs am wb field) s = .refused .illegalMode)
    ∧ (s.mode ≠ .usr → rn ≠ 15#4 →
      let base := s.readReg rn
      let start := multipleStart am base 2
      start.toNat + 8 ≤ 2 ^ 32 → readWords s start s.user 2 = .ok [pcWord, psrWord] t →
      RefusesReturn (.rfe am wb rn) s (Psr.ofWord psrWord)
      ∧ ((Psr.ofWord psrWord).returnable →
        exec (.rfe am wb rn) s = .next
            { (if wb then t.writeReg rn (multipleWriteback am base 2) else t).closeWindows with
              cpsr := Psr.ofWord psrWord, pc := pcWord &&& 0xFFFFFFFC#32 }
          ∧ SameButTlb s t))

/-! ### Exceptions -/

/-- Taking an exception (R723): the link, the saved status, the mode of the exception (R721), ARM state, the masks, the
byte order from EE, the vector at the offset of the exception (R722); every other flag, every other register, memory and
everything else are unchanged, but that the CP15 windows close, because an entry is a synchronisation point. -/
def Obligations.ExceptionEntry : Prop :=
  ∀ (s : State) (k : ExceptionKind) (link : Word),
    let t := s.takeException k link
    (k.mode, k.mode.bits, k.offset) = (match k with
      | .undefined => (Mode.und, 0b11011#5, 0x04#32)
      | .swi => (.svc, 0b10011#5, 0x08#32)
      | .prefetchAbort => (.abt, 0b10111#5, 0x0C#32)
      | .dataAbort => (.abt, 0b10111#5, 0x10#32)
      | .irq => (.irq, 0b10010#5, 0x18#32)
      | .fiq => (.fiq, 0b10001#5, 0x1C#32))
      ∧ t.readBank k.mode 14#4 = link ∧ t.spsr.get k.mode = some s.cpsr
      ∧ t.cpsr = { s.cpsr with
          m := k.mode.bits, t := false, i := true, f := s.cpsr.f || (k == .fiq),
          a := s.cpsr.a || !(k == .undefined || k == .swi), e := ctlEE s.sctlr.current }
      ∧ t.pc = (if ctlV s.sctlr.current then 0xFFFF0000#32 else 0#32) + k.offset
      ∧ SameRegs s t [bankedReg k.mode 14#4] ∧ (∀ m, m ≠ k.mode → t.spsr.get m = s.spsr.get m)
      ∧ { t with regs := s.regs, spsr := s.spsr, cpsr := s.cpsr, pc := s.pc } = s.closeWindows

/-- SWI, BKPT and undefined words enter their exceptions with the address of the next instruction as the link (R690,
R691, R708); BKPT records the debug event status, and the IFAR, if there is one, is a free value (entry 6). An
instruction for a coprocessor that is not there takes the Undefined Instruction exception and does nothing else (R692 to
R706), whatever the mode and the operands (for the operands the model's reading, entry 17). The links are modulo 2^32
(the model's reading, entry 8). A word that is UNPREDICTABLE is refused (R270). -/
def Obligations.ExceptionInstructions : Prop :=
  ∀ (s : State) (c : Cond) (n : BitVec 24) (n16 : BitVec 16) (w : Word) (p u l wb : Bool) (rn rd : Reg)
    (a b d cp op : BitVec 4) (op1 op2 : BitVec 3) (off : BitVec 8), condPassed c s.cpsr = true →
    exec (.swi c n) s = .next (s.takeException .swi (s.pc + 4))
      ∧ (∃ t : State, exec (.bkpt n16) s = .next (t.takeException .prefetchAbort (s.pc + 4))
          ∧ t = { s with ifsr := 0b00010#32, ifar := t.ifar, draws := t.draws }
          ∧ (s.cfg.hasIfar = false → t.ifar = s.ifar))
      ∧ (Cond.ofBits (w.extractLsb' 28 4) = none ∨ Cond.ofBits (w.extractLsb' 28 4) = some c →
          exec (.undefinedWord w) s = .next (s.takeException .undefined (s.pc + 4))
            ∧ exec (.unpredictableWord w) s = .refused .unpredictableEncoding)
      ∧ (s.cfg.coprocessors.contains cp.toNat = false →
          ∀ i ∈ [Instr.cdp c a b d cp op2 op, .cdp2 a b d cp op2 op, .ldc c p u l wb rn d cp off,
              .ldc2 p u l wb rn d cp off, .stc c p u l wb rn d cp off, .stc2 p u l wb rn d cp off,
              .mcrr c rn rd cp op a, .mcrr2 rn rd cp op a, .mrrc c rn rd cp op a, .mrrc2 rn rd cp op a,
              .mcr c op1 a rd cp op2 b, .mcr2 op1 a rd cp op2 b, .mrc c op1 a rd cp op2 b, .mrc2 op1 a rd cp op2 b],
            exec i s = .next (s.takeException .undefined (s.pc + 4)))

/-- A precise Data Abort records its status, and its address where that is valid, and enters with the address plus 8
(R728, R737, R738); a Prefetch Abort records only the IFSR and the IFAR and enters with the address plus 4 (R727). An
imprecise abort (R733) is one fewer pending, records the status 10110 and leaves the FAR; it records 11000 when only
parity errors are pending (R737, the model's reading, entry 10). The links are modulo 2^32 (the model's reading, entry
8). -/
def Obligations.AbortRecords : Prop :=
  ∀ (s : State) (a : AbortInfo),
    let t := s.dataAbort a
    let p := s.prefetchAbort a
    (∀ d, a.domain = some d → t.dfsr.extractLsb' 4 4 = d)
      ∧ t.dfsr.getLsbD 11 = a.write ∧ t.dfsr.getLsbD 10 = a.fs.getLsbD 4
      ∧ t.dfsr.extractLsb' 0 4 = a.fs.extractLsb' 0 4 ∧ t.dfsr.extractLsb' 12 20 = 0 ∧ t.dfsr.extractLsb' 8 2 = 0
      ∧ (a.farValid = true → t.far = a.mva) ∧ t.ifsr = s.ifsr ∧ t.wfar = s.wfar
      ∧ t.readBank .abt 14#4 = s.pc + 8 ∧ t.spsr.abt = s.cpsr ∧ t.cpsr.m = Mode.abt.bits ∧ t.mem = s.mem
      ∧ p.ifsr.getLsbD 10 = a.fs.getLsbD 4 ∧ p.ifsr.extractLsb' 0 4 = a.fs.extractLsb' 0 4
      ∧ p.ifar = (if s.cfg.hasIfar then a.mva else s.ifar) ∧ p.dfsr = s.dfsr ∧ p.far = s.far
      ∧ p.readBank .abt 14#4 = s.pc + 4 ∧ p.spsr.abt = s.cpsr
      ∧ ∃ x : State, s.impreciseAbort = x.takeException .dataAbort (s.pc + 8)
        ∧ x = { s with
            dfsr := x.dfsr, draws := x.draws, pendingImprecise := s.pendingImprecise - 1
            pendingParity := if s.pendingParity < s.pendingImprecise then s.pendingParity else s.pendingParity - 1 }
        ∧ x.dfsr &&& 0xFFFFF70F#32 = if s.pendingParity < s.pendingImprecise then 0x00000406#32 else 0x00000408#32

/-! ### CP15 and translation -/

/-- MCR and MRC to coprocessor 15 in a privileged mode (R332, R694, R695): MCR gives Rd to the register, MRC puts the
register in Rd, or its top four bits in the flags when Rd is R15 (the model's reading against section 4 of
93_implementation_defined.md, entry 27); in User mode both are undefined (R331), and register 4 is refused in every
privileged mode (R344). -/
def Obligations.SystemTransfers : Prop :=
  ∀ (s t : State) (c : Cond) (crn crm : BitVec 4) (rd : Reg) (op1 op2 : BitVec 3) (v : Word),
    Runs c s → s.cfg.coprocessors.contains 15 = true →
    (s.mode = .usr →
      exec (.mcr c op1 crn rd 15#4 op2 crm) s = .next (s.takeException .undefined (s.pc + 4))
        ∧ exec (.mrc c op1 crn rd 15#4 op2 crm) s = .next (s.takeException .undefined (s.pc + 4)))
    ∧ (s.mode ≠ .usr →
      (rd ≠ 15#4 → cp15Write s crn crm op2 (s.readReg rd) = .ok () t → Ends (.mcr c 0#3 crn rd 15#4 op2 crm) s t)
      ∧ exec (.mcr c 0#3 crn 15#4 15#4 op2 crm) s = .refused .unpredictableOperands
      ∧ (cp15Read s crn crm op2 = .ok v t →
        (rd ≠ 15#4 → Ends (.mrc c 0#3 crn rd 15#4 op2 crm) s (t.writeReg rd v))
        ∧ Ends (.mrc c 0#3 crn 15#4 15#4 op2 crm) s
            { t with cpsr := { s.cpsr with
                n := v.getLsbD 31, z := v.getLsbD 30, c := v.getLsbD 29, v := v.getLsbD 28 } })
      ∧ (rd ≠ 15#4 → exec (.mcr c 0#3 4#4 rd 15#4 op2 crm) s = .refused .cp15Unpredictable)
      ∧ exec (.mrc c 0#3 4#4 rd 15#4 op2 crm) s = .refused .cp15Unpredictable)

/-- The CP15 registers that steer translation and exceptions (R334 to R343, R365, R366): MCR stores the value, with the
old one kept in the window, unless it sets a should-be-zero bit (N of the TTBCR gives the ones of TTBR0; IMP is one in
both, the model's reading, entry 25) or, for the control register, VE, bit 22 or FI; a write of TTBR0 goes on record as
well, and a write of the TTBCR adds its N to the later ones of each write on record (R337, the record is entry 28); MRC reads the current value, with a
free value where the bits are UNPREDICTABLE. The FCSE PID reads as zero and takes only zero. A use of such a register
takes the current value when its window is empty, else any value of the window or the current one (R812, the choice by
entry 14). A PrefetchFlush closes every window and keeps the last write of TTBR0, the Data Synchronization Barrier and the Data Memory Barrier change
nothing, and all three take only zero (R375). -/
def Obligations.SystemRegisters : Prop :=
  ∀ (s : State) (v : Word) (r : Synced),
    let write := fun (crn : BitVec 4) (op2 : BitVec 3) => cp15Write s crn 0#4 op2 v
    let read := fun (crn : BitVec 4) (op2 : BitVec 3) => cp15Read s crn 0#4 op2
    let written := fun r : Synced => (⟨v, r.current :: r.window⟩ : Synced)
    let readOpen := fun (crn : BitVec 4) (op2 : BitVec 3) (w unp : Word) =>
      ∃ x, read crn op2 = .ok x s.draw.2 ∧ x &&& ~~~unp = w &&& ~~~unp
    let low := BitVec.ofNat 32 (2 ^ (14 - (s.ttbcr.current.extractLsb' 0 3).toNat) - 32)
    (v &&& 0x01600000#32 = 0 → write 1#4 0#3 = .ok () { s with
        sctlr := ⟨if s.cfg.hasWBit then v else v ||| 8#32, s.sctlr.current :: s.sctlr.window⟩ })
      ∧ (v &&& 0x01600000#32 ≠ 0 → write 1#4 0#3 = .refused .controlBitOutsideModel)
      ∧ (v &&& (low ||| 4#32) = 0 → write 2#4 0#3 = .ok () { s with
          ttbr0 := written s.ttbr0, ttbr0Writes := ⟨v, []⟩ :: s.ttbr0Writes })
      ∧ (v &&& (low ||| 4#32) ≠ 0 → write 2#4 0#3 = .refused .cp15ShouldBeZero)
      ∧ (v &&& 0x00003FE4#32 = 0 → write 2#4 1#3 = .ok () { s with ttbr1 := written s.ttbr1 })
      ∧ (v &&& 0x00003FE4#32 ≠ 0 → write 2#4 1#3 = .refused .cp15ShouldBeZero)
      ∧ (v &&& 0xFFFFFFF8#32 = 0 → write 2#4 2#3 = .ok () { s with
          ttbcr := written s.ttbcr
          ttbr0Writes := s.ttbr0Writes.map fun x => ⟨x.value, x.laterN.insert v.toNat⟩ })
      ∧ (v &&& 0xFFFFFFF8#32 ≠ 0 → write 2#4 2#3 = .refused .cp15ShouldBeZero)
      ∧ write 3#4 0#3 = .ok () { s with dacr := written s.dacr }
      ∧ write 13#4 1#3 = .ok () { s with contextId := written s.contextId }
      ∧ (v = 0 → write 13#4 0#3 = .ok () s) ∧ (v ≠ 0 → write 13#4 0#3 = .refused .fcsePid)
      ∧ read 1#4 0#3 = .ok s.sctlr.current s ∧ readOpen 2#4 0#3 s.ttbr0.current low
      ∧ readOpen 2#4 1#3 s.ttbr1.current 0x00003FE0#32 ∧ readOpen 2#4 2#3 s.ttbcr.current 0xFFFFFFF8#32
      ∧ read 3#4 0#3 = .ok s.dacr.current s ∧ read 13#4 1#3 = .ok s.contextId.current s ∧ read 13#4 0#3 = .ok 0 s
      ∧ (r.window = [] → s.useSynced r = (r.current, s))
      ∧ (s.useSynced r).1 ∈ r.current :: r.window
      ∧ (∀ x ∈ r.current :: r.window, ∃ k, ({ s with picks := [k] }.useSynced r).1 = x)
      ∧ cp15Write s 7#4 5#4 4#3 0 = .ok () { s with
          sctlr := ⟨s.sctlr.current, []⟩, ttbr0 := ⟨s.ttbr0.current, []⟩, ttbr1 := ⟨s.ttbr1.current, []⟩,
          ttbr0Writes := s.ttbr0Writes.take 1, ttbcr := ⟨s.ttbcr.current, []⟩, dacr := ⟨s.dacr.current, []⟩, contextId := ⟨s.contextId.current, []⟩ }
      ∧ cp15Write s 7#4 10#4 4#3 0 = .ok () s ∧ cp15Write s 7#4 10#4 5#3 0 = .ok () s
      ∧ (v ≠ 0 → ∀ e ∈ [(5#4, 4#3), (10#4, 4#3), (10#4, 5#3)],
          cp15Write s 7#4 e.1 e.2 v = .refused .cp15ShouldBeZero)

/-- The fault registers (R345 to R349): DFSR and IFSR take a value whose should-be-zero bits are clear and read it back,
with free values in the UNPREDICTABLE bits; FAR, WFAR and, where there is one, IFAR hold what is written. The TLB type
register (R333). The lockdown registers (R76, R244, R248, R362, R363), of the data or unified TLB and of the instruction
TLB: a write takes base, victim and P from their fields of W bits, unless base or victim is not below the number of
entries and the lockable count (the model's reading, with D34 against the pseudocode of R363, entry 26); a fixed base
stays zero; a read gives them back. Without lockable entries, and for the second register of a unified TLB, both are
refused. -/
def Obligations.FaultAndLockdownRegisters : Prop :=
  ∀ (s : State) (v : Word) (side : Bool),
    let write := fun (crn : BitVec 4) (op2 : BitVec 3) => cp15Write s crn 0#4 op2 v
    let read := fun (crn : BitVec 4) (op2 : BitVec 3) => cp15Read s crn 0#4 op2
    let readOpen := fun (crn : BitVec 4) (op2 : BitVec 3) (w unp : Word) =>
      ∃ x, read crn op2 = .ok x s.draw.2 ∧ x &&& ~~~unp = w &&& ~~~unp
    let op2 := if side then 1#3 else 0#3
    let entries := s.cfg.tlbEntries
    let w := lockWidth entries
    let locks := if side then s.cfg.ilockN else s.cfg.dlockN
    let b := v.toNat / 2 ^ (32 - w)
    let c := v.toNat / 2 ^ (32 - 2 * w) % 2 ^ w
    let old := if side then s.tlbI else s.tlbD
    (v &&& 0xFFFFF300#32 = 0 → write 5#4 0#3 = .ok () { s with dfsr := v })
      ∧ (v &&& 0xFFFFF300#32 ≠ 0 → write 5#4 0#3 = .refused .cp15ShouldBeZero)
      ∧ (v &&& 0xFFFFFBF0#32 = 0 → write 5#4 1#3 = .ok () { s with ifsr := v })
      ∧ (v &&& 0xFFFFFBF0#32 ≠ 0 → write 5#4 1#3 = .refused .cp15ShouldBeZero)
      ∧ readOpen 5#4 0#3 (s.dfsr &&& 0xFFFFFEFF#32) 0xFFFFF200#32 ∧ readOpen 5#4 1#3 s.ifsr 0xFFFFFBF0#32
      ∧ write 6#4 0#3 = .ok () { s with far := v } ∧ read 6#4 0#3 = .ok s.far s
      ∧ write 6#4 1#3 = .ok () { s with wfar := v } ∧ read 6#4 1#3 = .ok s.wfar s
      ∧ (s.cfg.hasIfar = true → write 6#4 2#3 = .ok () { s with ifar := v } ∧ read 6#4 2#3 = .ok s.ifar s)
      ∧ (s.cfg.hasIfar = false →
        write 6#4 2#3 = .refused .cp15Undescribed ∧ read 6#4 2#3 = .refused .cp15Undescribed)
      ∧ (∃ x, read 0#4 3#3 = .ok x s ∧ (s.cfg.dlockN < 256 → s.cfg.ilockN < 256 →
        x.toNat / 2 ^ 16 = (if s.cfg.tlbUnified then 0 else s.cfg.ilockN) ∧ x.toNat / 2 ^ 8 % 2 ^ 8 = s.cfg.dlockN
          ∧ x.toNat % 2 ^ 8 = if s.cfg.tlbUnified then 0 else 1))
      ∧ (locks = 0 ∨ (s.cfg.tlbUnified = true ∧ side = true) →
        write 10#4 op2 = .refused .lockdown ∧ read 10#4 op2 = .refused .lockdown)
      ∧ (0 < locks → (s.cfg.tlbUnified = true → side = false) →
        (entries ≤ b ∨ entries ≤ c ∨ locks ≤ b ∨ locks ≤ c → write 10#4 op2 = .refused .lockdown)
        ∧ (b < entries → c < entries → b < locks → c < locks →
          ∃ t, write 10#4 op2 = .ok () t
            ∧ t = (let new := { old with
                base := if s.cfg.lockBaseFixedZero then 0 else b, victim := c, p := v.getLsbD 0 }
              if side then { s with tlbI := new } else { s with tlbD := new }))
        ∧ (old.Bounded s.cfg locks → 2 * w < 32 → ∃ x, read 10#4 op2 = .ok x s.draw.2
          ∧ x.toNat / 2 ^ (32 - w) = old.base ∧ x.toNat / 2 ^ (32 - 2 * w) % 2 ^ w = old.victim
          ∧ x.getLsbD 0 = old.p))

/-- The TLB operations on the whole TLB, on one address and on an ASID (R350 to R359): exactly the entries they name
leave the TLBs they act on, and locked ones survive the first. Every other entry stays in its slot, and base, victim and
P stay (R76). CRm = c7 acts on every TLB, c5 on the instruction TLB and c6 on the data TLB, and with a unified TLB all
three on that; nothing else changes. -/
def Obligations.TlbInvalidation : Prop :=
  ∀ (s : State) (v : Word) (crm : BitVec 4) (side : Bool), crm ∈ [5#4, 6#4, 7#4] →
    let named := if s.cfg.tlbUnified then side = false else crm = 7#4 ∨ (side = true ↔ crm = 5#4)
    let tlb := fun t : State => if side then t.tlbI else t.tlbD
    let thinned := fun (old new : List (Option TlbEntry)) (stays : TlbEntry → Prop) => new.length = old.length
      ∧ ∀ (i : Nat) (e : TlbEntry), new[i]? = some (some e) ↔ old[i]? = some (some e) ∧ stays e
    let keeps := fun (op2 : BitVec 3) (v : Word) (stays : TlbEntry → Prop) =>
      ∃ t, cp15Write s 8#4 crm op2 v = .ok () t ∧ t = { s with tlbD := t.tlbD, tlbI := t.tlbI }
        ∧ (named → tlb t = { tlb s with slots := (tlb t).slots, lockSlots := (tlb t).lockSlots }
          ∧ thinned (tlb s).slots (tlb t).slots stays ∧ thinned (tlb s).lockSlots (tlb t).lockSlots stays)
        ∧ (¬named → tlb t = tlb s)
    keeps 0#3 0 (fun e => e.locked = true)
    ∧ (ctlXP s.sctlr.current = true → v.extractLsb' 8 4 = 0#4 → keeps 1#3 v fun e =>
        ¬(entryCovers e (v &&& 0xFFFFF000#32) = true ∧ (e.global = true ∨ e.asid = v.setWidth 8)))
    ∧ (v.extractLsb' 8 24 = 0#24 → keeps 2#3 v fun e => e.global = true ∨ e.asid ≠ v.setWidth 8)

/-- The access check (R212, R215, R217, R229): no access faults, a manager checks nothing, a client follows the
permission table, row by row; execute-never stops a fetch in a client domain. The DACR value is the one this use takes
(R213, R812). -/
def Obligations.AccessCheck : Prop :=
  ∀ (s : State) (e : TlbEntry) (k : AccessKind) (user : Bool) (mva : Word),
    let t := (s.useSynced s.dacr).2
    let d := ((s.useSynced s.dacr).1 >>> (2 * e.domain.toNat)).setWidth 2
    let fault := fun first second : BitVec 5 =>
      checkAccess s e k user mva
        = .abort ⟨if e.level = .firstLevel then first else second, some e.domain, mva, k == .write, true⟩ t
    let read := k != .write
    let row := fun (sBit rBit apx : Bool) (ap : BitVec 2) (answer : Option Bool) =>
      e.sBit = sBit → e.rBit = rBit → e.apx = apx → e.ap = ap → permitted e user k = answer
    (d = 0#2 → fault 0b01001#5 0b01011#5)
      ∧ (d = 2#2 → checkAccess s e k user mva = .refused .reservedDomainAccess)
      ∧ (d = 3#2 → checkAccess s e k user mva = .ok () t)
      ∧ (d = 1#2 → permitted e user k = none → checkAccess s e k user mva = .refused .reservedPermission)
      ∧ (d = 1#2 → permitted e user k = some true → (k = .fetch → e.xn = false) →
          checkAccess s e k user mva = .ok () t)
      ∧ (d = 1#2 → permitted e user k = some false ∨ (permitted e user k = some true ∧ k = .fetch ∧ e.xn = true) →
          fault 0b01101#5 0b01111#5)
      ∧ row false false false 0#2 (some false)
      ∧ (∀ x y, row x y false 1#2 (some !user) ∧ row x y false 2#2 (some (!user || read))
          ∧ row x y false 3#2 (some true))
      ∧ row false false true 0#2 none ∧ row false false true 1#2 (some (!user && read))
      ∧ row false false true 2#2 (some read) ∧ row false false true 3#2 none
      ∧ row false true false 0#2 (some read) ∧ row true false false 0#2 (some (!user && read))
      ∧ row true true false 0#2 none
      ∧ ∀ ap, row false true true ap none ∧ row true false true ap none ∧ row true true true ap none

/-- The replacement mechanism and the lookup (R180 to R186, R246 to R248). A walk result goes to the victim slot, locked
as P says, and the next victim is the slot after it, wrapping to the base, or, when the victim is not below the base,
any slot from the base on (the choice by entry 13); where the base is fixed at zero and P is set, the victim is a
dedicated slot, and moves on within the ones its W bits can name (the model's reading, entry 19). Only unlocked entries
of slots at or above the base are forgotten. A lookup takes the one entry that matches and else walks, and two that
match are refused. The access then passes its check, and an entry with reserved attributes is refused (R150, R154); the
physical address is the block's with the low bits of the virtual one. With XP = 0 translation is refused (R239). With
the MMU on, data accesses and fetches are translated (R140, R141). A TLB without lockable entries behaves as with base
and P zero (R244). -/
def Obligations.TlbLookup : Prop :=
  (∀ (base victim entries choice : Nat), base < entries → victim < entries →
    let turn := if victim + 1 = entries then base else victim + 1
    nextVictim base victim entries none = turn
      ∧ (victim < base → nextVictim base victim entries (some choice) = turn)
      ∧ (base ≤ victim → base ≤ choice → choice < entries → nextVictim base victim entries (some choice) = choice)
      ∧ (base ≤ victim → ∀ o, base ≤ nextVictim base victim entries o ∧ nextVictim base victim entries o < entries))
  ∧ (∀ (t : Tlb) (base i : Nat) (drop : List Nat),
    let gone := i ∈ drop ∧ base ≤ i ∧ ∀ e, t.slots[i]? = some (some e) → e.locked = false
    (gone → ∀ e, (t.forget base drop).slots[i]? ≠ some (some e))
      ∧ (¬gone → (t.forget base drop).slots[i]? = t.slots[i]?)
      ∧ t.forget base drop = { t with slots := (t.forget base drop).slots })
  ∧ (∀ (t : Tlb) (c : Params) (side : Bool) (e : TlbEntry) (choice : Option Nat), lockable c side ≠ 0 →
    t.insert c side e choice =
      if c.lockBaseFixedZero && t.p then
        { t with
          lockSlots := t.lockSlots.set t.victim (some { e with locked := true })
          victim := nextVictim 0 t.victim (dedicatedSlots c t.lockSlots.length) choice }
      else
        { t with
          slots := t.slots.set t.victim (some { e with locked := t.p })
          victim := nextVictim (if c.lockBaseFixedZero then 0 else t.base) t.victim c.tlbEntries choice })
  ∧ (∀ (t : Tlb) (c : Params) (side : Bool) (e : TlbEntry) (choice : Option Nat), lockable c side = 0 →
    t.insert c side e choice = { t with
      slots := t.slots.set t.victim (some { e with locked := false })
      victim := nextVictim 0 t.victim c.tlbEntries choice })
  ∧ (∀ (e : TlbEntry) (va : Word),
    let n := match e.size with
      | .smallPage => 12
      | .largePage => 16
      | .section1MB => 20
      | .supersection16MB => 24
    blockLog e.size = n ∧ (entryCovers e va = true ↔ e.mva.toNat / 2 ^ n = va.toNat / 2 ^ n))
  ∧ (∀ (s : State) (va : Word) (size : AccessSize) (k : AccessKind) (user : Bool),
    s.sctlr.window = [] → ctlM s.sctlr.current = true →
      (aligned size va = true → va.toNat + size.bytes ≤ 2 ^ 32 →
        dataAddress s va size k user = translate s s.sctlr.current va k user)
      ∧ fetchAddress s = translate s s.sctlr.current s.pc .fetch s.user)
  ∧ (∀ (s t u : State) (va : Word) (k : AccessKind) (user : Bool) (ctl : Word) (e : TlbEntry) (a : AbortInfo),
    s.contextId.window = [] → s.replacements = [] →
    let side := k == .fetch && !s.cfg.tlbUnified
    let found := (s.tlb side).entries.filter fun e =>
      entryCovers e va && (e.global || e.asid == s.contextId.current.setWidth 8)
    (found = [e] → lookup s va k = .ok e s)
      ∧ (found = [] → walk s va k = .ok e t →
        lookup s va k = .ok e (t.setTlb side ((t.tlb side).insert s.cfg side e none)))
      ∧ (found = [] → walk s va k = .abort a t → lookup s va k = .abort a t)
      ∧ (2 ≤ found.length → lookup s va k = .refused .multipleTlbMatch)
      ∧ (ctlXP ctl = false → translate s ctl va k user = .refused .subpagesEnabled)
      ∧ (ctlXP ctl = true → lookup s va k = .abort a t → translate s ctl va k user = .abort a t)
      ∧ (ctlXP ctl = true → lookup s va k = .ok e t →
        (checkAccess t e k user va = .abort a u → translate s ctl va k user = .abort a u)
        ∧ (checkAccess t e k user va = .ok () u →
          let reserved := e.tex = 3#3
            ∨ (e.tex, e.c, e.b) ∈ [(1#3, false, true), (1#3, true, false), (2#3, false, true), (2#3, true, false),
              (2#3, true, true)]
          (reserved → translate s ctl va k user = .refused .reservedAttributes)
            ∧ (¬reserved → ∃ pa, translate s ctl va k user = .ok pa u
              ∧ pa.toNat = e.pa.toNat / 2 ^ blockLog e.size * 2 ^ blockLog e.size + va.toNat % 2 ^ blockLog e.size))))

/-- The table walk (R190 to R210, R255), with no CP15 write waiting and a memory system that serves it: which base
register is used, its refusals (RGN and IMP, R66; bits of TTBR0 below the base, where N comes from a TTBCR write after
the write of TTBR0, R337), the address of the first-level descriptor, of which the low bits of the base register are
otherwise no part (R192; that R337 is an exception to R192 for TTBR0 after these two writes alone is the model's
reading, entry 28), the faults, the reserved descriptors, and the entry that a section, a supersection, a large page or a
small page gives. The corner case of R337 end to end: after a write of TTBR0, a write of the TTBCR and a PrefetchFlush, a
walk through TTBR0 is refused for its insignificant bits exactly where one of them is set. And a section end to end
(R180, R198): with N = 0, an empty TLB and a domain that the program manages, the physical address is the section's base
with the low twenty bits of the virtual address. -/
def Obligations.TableWalk : Prop :=
  (∀ (s : State) (va d d2 : Word) (k : AccessKind),
    s.sctlr.window = [] → s.ttbr0.window = [] → s.ttbr1.window = [] → s.ttbcr.window = [] → s.contextId.window = [] →
    s.responses = [] →
    let n := (s.ttbcr.current.extractLsb' 0 3).toNat
    let first := n = 0 ∨ va.toNat < 2 ^ (32 - n)
    ∀ (ttbr : Word) (x : Nat), (first ∧ ttbr = s.ttbr0.current ∧ x = n) ∨ (¬first ∧ ttbr = s.ttbr1.current ∧ x = 0) →
    let bad := ttbr.extractLsb' 3 2 = 1#2 ∨ ttbr.getLsbD 2 = true
    let insignificant := first ∧ ttbr &&& BitVec.ofNat 32 (2 ^ (14 - n) - 32) ≠ 0
      ∧ ∃ w ∈ s.ttbr0Writes, w.value = ttbr ∧ n ∈ w.laterN
    let address := ttbr.toNat / 2 ^ (14 - x) * 2 ^ (14 - x) + va.toNat / 2 ^ 20 * 4
    let ee := ctlEE s.sctlr.current
    let abort := fun (fs : BitVec 5) (domain : Option (BitVec 4)) =>
      walk s va k = .abort ⟨fs, domain, va, k == .write, true⟩ s
    let block := fun (size : BlockSize) (domain : BitVec 4) (pa : Nat) => (
      { mva := (va >>> blockLog size) <<< blockLog size, size := size, pa := BitVec.ofNat 40 pa
        global := !d.getLsbD 17, asid := s.contextId.current.setWidth 8, domain := domain, apx := d.getLsbD 15
        ap := d.extractLsb' 10 2, sBit := ctlS s.sctlr.current, rBit := ctlR s.sctlr.current, xn := d.getLsbD 4
        tex := d.extractLsb' 12 3, c := d.getLsbD 3, b := d.getLsbD 2, shared := d.getLsbD 16
        level := .firstLevel, locked := false } : TlbEntry)
    let page := fun (size : BlockSize) (xn : Bool) (tex : BitVec 3) => (
      { mva := (va >>> blockLog size) <<< blockLog size, size := size
        pa := BitVec.ofNat 40 (d2.toNat / 2 ^ blockLog size * 2 ^ blockLog size), global := !d2.getLsbD 11
        asid := s.contextId.current.setWidth 8, domain := d.extractLsb' 5 4, apx := d2.getLsbD 9
        ap := d2.extractLsb' 4 2, sBit := ctlS s.sctlr.current, rBit := ctlR s.sctlr.current, xn := xn
        tex := tex, c := d2.getLsbD 3, b := d2.getLsbD 2, shared := d2.getLsbD 10
        level := .secondLevel, locked := false } : TlbEntry)
    (bad → walk s va k = .refused .tableBaseReserved)
      ∧ (¬bad → insignificant → walk s va k = .refused .tableBaseInsignificant)
      ∧ (¬bad → ¬insignificant → backed s.cfg address 4 = true → assemble ee (s.mem.readBytes address 4) = d →
        (d.extractLsb' 0 2 = 0#2 ∨ d.extractLsb' 0 2 = 3#2 → abort 0b00101#5 none)
        ∧ (d.extractLsb' 0 2 = 2#2 →
          (d.getLsbD 9 = true ∨ d.getLsbD 19 = true → walk s va k = .refused .descriptorReserved)
          ∧ (d.getLsbD 9 = false → d.getLsbD 19 = false →
            (d.getLsbD 18 = false → walk s va k
              = .ok (block .section1MB (d.extractLsb' 5 4) (d.toNat / 2 ^ 20 * 2 ^ 20)) s)
            ∧ (d.getLsbD 18 = true →
              let extra := (d.extractLsb' 5 4).toNat * 2 ^ 4 + (d.extractLsb' 20 4).toNat
              (s.cfg.supersections = true → extra < 2 ^ s.cfg.paExtraBits → walk s va k
                = .ok (block .supersection16MB 0#4 (extra * 2 ^ 32 + d.toNat / 2 ^ 24 * 2 ^ 24)) s)
              ∧ (s.cfg.supersections = false ∨ 2 ^ s.cfg.paExtraBits ≤ extra →
                walk s va k = .refused .supersectionUnsupported))))
        ∧ (d.extractLsb' 0 2 = 1#2 →
          let second := d.toNat / 2 ^ 10 * 2 ^ 10 + va.toNat / 2 ^ 12 % 2 ^ 8 * 4
          (d.getLsbD 9 = true ∨ d.extractLsb' 2 3 ≠ 0#3 → walk s va k = .refused .descriptorReserved)
          ∧ (d.getLsbD 9 = false → d.extractLsb' 2 3 = 0#3 → backed s.cfg second 4 = true →
            assemble ee (s.mem.readBytes second 4) = d2 →
            (d2.extractLsb' 0 2 = 0#2 → abort 0b00111#5 (some (d.extractLsb' 5 4)))
            ∧ (d2.extractLsb' 0 2 = 1#2 → d2.extractLsb' 6 3 ≠ 0#3 → walk s va k = .refused .descriptorReserved)
            ∧ (d2.extractLsb' 0 2 = 1#2 → d2.extractLsb' 6 3 = 0#3 →
              walk s va k = .ok (page .largePage (d2.getLsbD 15) (d2.extractLsb' 12 3)) s)
            ∧ (d2.getLsbD 1 = true → walk s va k = .ok (page .smallPage (d2.getLsbD 0) (d2.extractLsb' 6 3)) s)))))
  ∧ (∀ (s s1 s2 s3 : State) (v w va : Word) (k : AccessKind),
    cp15Write s 2#4 0#4 0#3 v = .ok () s1 → cp15Write s1 2#4 0#4 2#3 w = .ok () s2 →
    cp15Write s2 7#4 5#4 4#3 0 = .ok () s3 → v.extractLsb' 3 2 ≠ 1#2 → w = 0 ∨ va.toNat < 2 ^ (32 - w.toNat) →
      (walk s3 va k = .refused .tableBaseInsignificant ↔ v &&& BitVec.ofNat 32 (2 ^ (14 - w.toNat) - 32) ≠ 0))
  ∧ ∀ (s : State) (va d : Word) (k : AccessKind) (user : Bool),
    s.sctlr.window = [] → s.ttbr0.window = [] → s.ttbcr.window = [] → s.contextId.window = [] → s.dacr.window = [] →
    s.replacements = [] → s.responses = [] → s.cfg.tlbUnified = true → s.tlbD.entries = [] →
    ctlXP s.sctlr.current = true → s.ttbcr.current = 0 → s.ttbr0.current &&& 0x00003FFF#32 = 0 →
    let address := (s.ttbr0.current + (va >>> 20) * 4).toNat
    backed s.cfg address 4 = true → assemble (ctlEE s.sctlr.current) (s.mem.readBytes address 4) = d →
    d &&& 0x000C0203#32 = 2#32 → d.extractLsb' 12 3 = 0#3 →
    domainAccess s.dacr.current (d.extractLsb' 5 4) = 3#2 →
      ∃ t, translate s s.sctlr.current va k user
        = .ok (((d &&& 0xFFF00000#32) ||| (va &&& 0x000FFFFF#32)).setWidth 40) t
end

