-- ==== Sys2Proof/Laws/Memory.lean ====
section
/-!
SUPPORT. The laws of memory: the canonical form is kept by every operation, and reading after writing.
-/

namespace Sys2Proof.Machine

open Sys2Proof

/-- The canonical form says that no byte is zero and that the addresses rise. -/
theorem Memory.wf_iff (m : Memory) :
    m.wf = true ↔ (∀ c ∈ m, c.2 ≠ 0) ∧ m.Pairwise fun x y => x.1 < y.1 := by
  induction m with
  | nil => simp [Memory.wf]
  | cons x rest ih =>
    obtain ⟨a, v⟩ := x
    cases rest with
    | nil => simp [Memory.wf]
    | cons y rest =>
      obtain ⟨b, w⟩ := y
      simp only [Memory.wf, Bool.and_eq_true, bne_iff_ne, decide_eq_true_eq, ih, List.pairwise_cons, List.mem_cons,
        forall_eq_or_imp]
      constructor
      · rintro ⟨⟨hv, hab⟩, ⟨hw, hr⟩, hb, hp⟩
        exact ⟨⟨hv, hw, hr⟩, ⟨hab, fun c hc => lt_trans hab (hb c hc)⟩, hb, hp⟩
      · rintro ⟨⟨hv, hw, hr⟩, ⟨hab, _⟩, hb, hp⟩
        exact ⟨⟨hv, hab⟩, ⟨hw, hr⟩, hb, hp⟩

/-- What a write puts in the list: the written cell or an old one. -/
theorem Memory.mem_write {m : Memory} {a : Nat} {b : Byte} {c : Host.Cell} (h : c ∈ m.write a b) :
    (c = (a, b) ∧ b ≠ 0) ∨ c ∈ m := by
  induction m with
  | nil =>
    simp only [Memory.write] at h
    split at h
    · simp at h
    · exact .inl ⟨by simpa using h, ‹_›⟩
  | cons x rest ih =>
    obtain ⟨k, v⟩ := x
    simp only [Memory.write] at h
    split at h
    · split at h
      · exact .inr h
      · rcases List.mem_cons.1 h with h | h
        · exact .inl ⟨h, ‹_›⟩
        · exact .inr h
    · split at h
      · split at h
        · exact .inr (List.mem_cons_of_mem _ h)
        · rcases List.mem_cons.1 h with h | h
          · exact .inl ⟨h, ‹_›⟩
          · exact .inr (List.mem_cons_of_mem _ h)
      · rcases List.mem_cons.1 h with h | h
        · exact .inr (h ▸ List.mem_cons_self ..)
        · rcases ih h with h | h
          · exact .inl h
          · exact .inr (List.mem_cons_of_mem _ h)

/-- Writing one byte keeps the canonical form. -/
theorem Memory.write_wf (m : Memory) (a : Nat) (b : Byte) (h : m.wf = true) : (m.write a b).wf = true := by
  rw [Memory.wf_iff] at h ⊢
  refine ⟨fun c hc => ?_, ?_⟩
  · rcases Memory.mem_write hc with ⟨rfl, hb⟩ | hc
    · exact hb
    · exact h.1 c hc
  · obtain ⟨-, hp⟩ := h
    induction m with
    | nil => simp only [Memory.write]; split <;> simp
    | cons x rest ih =>
      obtain ⟨k, v⟩ := x
      have hp' := List.pairwise_cons.1 hp
      simp only [Memory.write]
      split
      · split
        · exact hp
        · refine List.pairwise_cons.2 ⟨?_, hp⟩
          intro c hc
          rcases List.mem_cons.1 hc with rfl | hc
          · assumption
          · exact lt_trans ‹_› (hp'.1 c hc)
      · split
        · split
          · exact hp'.2
          · subst_vars; exact List.pairwise_cons.2 ⟨hp'.1, hp'.2⟩
        · refine List.pairwise_cons.2 ⟨?_, ih hp'.2⟩
          intro c hc
          rcases Memory.mem_write hc with ⟨rfl, -⟩ | hc
          · simp only; omega
          · exact hp'.1 c hc

/-- Writing bytes keeps the canonical form. -/
theorem Memory.writeBytes_wf (bs : List Byte) (m : Memory) (a : Nat) (h : m.wf = true) :
    (m.writeBytes a bs).wf = true := by
  induction bs generalizing m a with
  | nil => exact h
  | cons b bs ih => exact ih _ _ (Memory.write_wf m a b h)

/-- An address below every listed one reads as zero. -/
theorem Memory.read_below (m : Memory) (a : Nat) (h : ∀ c ∈ m, a < c.1) : m.read a = 0 := by
  induction m with
  | nil => rfl
  | cons x rest ih =>
    obtain ⟨k, v⟩ := x
    have hk : a < k := h (k, v) (List.mem_cons_self ..)
    simp only [Memory.read, Nat.ne_of_gt hk, if_false]
    exact ih fun c hc => h c (List.mem_cons_of_mem _ hc)

/-- Reading one address after a write of one byte. -/
theorem Memory.read_write (m : Memory) (a : Nat) (b : Byte) (x : Nat) (h : m.wf = true) :
    (m.write a b).read x = if x = a then b else m.read x := by
  rw [Memory.wf_iff] at h
  obtain ⟨-, hp⟩ := h
  induction m with
  | nil =>
    simp only [Memory.write]
    by_cases hx : x = a
    · subst hx; split <;> simp_all [Memory.read]
    · split <;> simp [Memory.read, Ne.symm hx]
  | cons y rest ih =>
    obtain ⟨k, v⟩ := y
    have hp' := List.pairwise_cons.1 hp
    simp only [Memory.write]
    split
    · have hz : Memory.read ((k, v) :: rest) a = 0 := by
        refine Memory.read_below _ _ fun c hc => ?_
        rcases List.mem_cons.1 hc with rfl | hc
        · assumption
        · exact lt_trans ‹_› (hp'.1 c hc)
      by_cases hx : x = a
      · subst hx
        split
        · rw [hz, if_pos rfl]; exact Eq.symm ‹_›
        · simp [Memory.read]
      · rw [if_neg hx]
        split
        · rfl
        · simp [Memory.read, Ne.symm hx]
    · split
      · subst_vars
        have hz : Memory.read rest k = 0 := Memory.read_below _ _ hp'.1
        by_cases hx : x = k
        · subst hx
          split
          · rw [hz, if_pos rfl]; exact Eq.symm ‹_›
          · simp [Memory.read]
        · rw [if_neg hx]
          split <;> simp [Memory.read, Ne.symm hx]
      · simp only [Memory.read]
        rw [ih hp'.2]
        by_cases hx : x = a
        · subst hx
          rw [if_pos rfl, if_pos rfl, if_neg (Ne.symm ‹_›)]
        · rw [if_neg hx, if_neg hx]

/-- A write changes no other address, whatever form the list has. -/
theorem Memory.read_write_ne (m : Memory) {a x : Nat} (b : Byte) (h : x ≠ a) : (m.write a b).read x = m.read x := by
  induction m with
  | nil => simp only [Memory.write]; split <;> simp [Memory.read, Ne.symm h]
  | cons y rest ih =>
    obtain ⟨k, v⟩ := y
    simp only [Memory.write]
    split
    · split <;> simp [Memory.read, Ne.symm h]
    · split
      · subst_vars
        split <;> simp [Memory.read, Ne.symm h]
      · simp only [Memory.read, ih]

/-- Writing bytes changes no address outside them, whatever form the list has. -/
theorem Memory.read_writeBytes_ne (bs : List Byte) (m : Memory) {a x : Nat} (h : x < a ∨ a + bs.length ≤ x) :
    (m.writeBytes a bs).read x = m.read x := by
  induction bs generalizing m a with
  | nil => rfl
  | cons b bs ih =>
    simp only [List.length_cons] at h
    rw [Memory.writeBytes, ih _ (by omega), Memory.read_write_ne m b (by omega)]

theorem wordToBytes_length (v : Word) (n : Nat) : (wordToBytes v n).length = n := by
  induction n generalizing v with
  | zero => rfl
  | succ n ih => simp [wordToBytes, ih]

@[simp] theorem split_length (big : Bool) (size : AccessSize) (v : Word) : (split big size v).length = size.bytes := by
  cases big <;> simp [split, wordToBytes_length]

/-- The state after reset has the canonical form. -/
theorem State.reset_mem_wf : State.reset.mem.wf = true := rfl

end Sys2Proof.Machine
end

