-- ==== Sys2Proof/Laws/State.lean ====
section
/-!
SUPPORT. What each update of the state leaves of each field: one lemma for each, true by definition.
-/

namespace Sys2Proof.Machine

open Sys2Proof

/-! ### Registers -/

@[simp] theorem Regs.get_set (r : Regs) (p : PhysReg) (v : Word) : (r.set p v).get p = v := by cases p <;> rfl

/-- Writing one physical register leaves the others. -/
theorem Regs.get_set_ne (r : Regs) {p q : PhysReg} (v : Word) (h : q ≠ p) : (r.set p v).get q = r.get q := by
  cases p <;> cases q <;> first | rfl | exact absurd rfl h

/-- In one mode, two register numbers other than 15 name two registers. -/
theorem bankedReg_injective {m : Mode} {a b : Reg} (ha : a ≠ 15#4) (hb : b ≠ 15#4)
    (h : bankedReg m a = bankedReg m b) : a = b := by
  have all : ∀ a b : Reg, a ≠ 15#4 → b ≠ 15#4 → bankedReg m a = bankedReg m b → a = b := by cases m <;> decide
  exact all a b ha hb h

/-! ### `writeBank` -/

@[simp] theorem State.writeBank_cfg (s : State) (m : Mode) (n : Reg) (v : Word) : (s.writeBank m n v).cfg = s.cfg := rfl
@[simp] theorem State.writeBank_regs (s : State) (m : Mode) (n : Reg) (v : Word) :
    (s.writeBank m n v).regs = s.regs.set (bankedReg m n) v := rfl
@[simp] theorem State.writeBank_pc (s : State) (m : Mode) (n : Reg) (v : Word) : (s.writeBank m n v).pc = s.pc := rfl
@[simp] theorem State.writeBank_cpsr (s : State) (m : Mode) (n : Reg) (v : Word) : (s.writeBank m n v).cpsr = s.cpsr := rfl
@[simp] theorem State.writeBank_spsr (s : State) (m : Mode) (n : Reg) (v : Word) : (s.writeBank m n v).spsr = s.spsr := rfl
@[simp] theorem State.writeBank_sctlr (s : State) (m : Mode) (n : Reg) (v : Word) : (s.writeBank m n v).sctlr = s.sctlr := rfl
@[simp] theorem State.writeBank_ttbr0 (s : State) (m : Mode) (n : Reg) (v : Word) : (s.writeBank m n v).ttbr0 = s.ttbr0 := rfl
@[simp] theorem State.writeBank_ttbr0Writes (s : State) (m : Mode) (n : Reg) (v : Word) : (s.writeBank m n v).ttbr0Writes = s.ttbr0Writes := rfl
@[simp] theorem State.writeBank_ttbr1 (s : State) (m : Mode) (n : Reg) (v : Word) : (s.writeBank m n v).ttbr1 = s.ttbr1 := rfl
@[simp] theorem State.writeBank_ttbcr (s : State) (m : Mode) (n : Reg) (v : Word) : (s.writeBank m n v).ttbcr = s.ttbcr := rfl
@[simp] theorem State.writeBank_dacr (s : State) (m : Mode) (n : Reg) (v : Word) : (s.writeBank m n v).dacr = s.dacr := rfl
@[simp] theorem State.writeBank_contextId (s : State) (m : Mode) (n : Reg) (v : Word) : (s.writeBank m n v).contextId = s.contextId := rfl
@[simp] theorem State.writeBank_dfsr (s : State) (m : Mode) (n : Reg) (v : Word) : (s.writeBank m n v).dfsr = s.dfsr := rfl
@[simp] theorem State.writeBank_ifsr (s : State) (m : Mode) (n : Reg) (v : Word) : (s.writeBank m n v).ifsr = s.ifsr := rfl
@[simp] theorem State.writeBank_far (s : State) (m : Mode) (n : Reg) (v : Word) : (s.writeBank m n v).far = s.far := rfl
@[simp] theorem State.writeBank_wfar (s : State) (m : Mode) (n : Reg) (v : Word) : (s.writeBank m n v).wfar = s.wfar := rfl
@[simp] theorem State.writeBank_ifar (s : State) (m : Mode) (n : Reg) (v : Word) : (s.writeBank m n v).ifar = s.ifar := rfl
@[simp] theorem State.writeBank_tlbD (s : State) (m : Mode) (n : Reg) (v : Word) : (s.writeBank m n v).tlbD = s.tlbD := rfl
@[simp] theorem State.writeBank_tlbI (s : State) (m : Mode) (n : Reg) (v : Word) : (s.writeBank m n v).tlbI = s.tlbI := rfl
@[simp] theorem State.writeBank_excl (s : State) (m : Mode) (n : Reg) (v : Word) : (s.writeBank m n v).excl = s.excl := rfl
@[simp] theorem State.writeBank_pendingImprecise (s : State) (m : Mode) (n : Reg) (v : Word) : (s.writeBank m n v).pendingImprecise = s.pendingImprecise := rfl
@[simp] theorem State.writeBank_pendingParity (s : State) (m : Mode) (n : Reg) (v : Word) : (s.writeBank m n v).pendingParity = s.pendingParity := rfl
@[simp] theorem State.writeBank_mem (s : State) (m : Mode) (n : Reg) (v : Word) : (s.writeBank m n v).mem = s.mem := rfl
@[simp] theorem State.writeBank_inputs (s : State) (m : Mode) (n : Reg) (v : Word) : (s.writeBank m n v).inputs = s.inputs := rfl
@[simp] theorem State.writeBank_responses (s : State) (m : Mode) (n : Reg) (v : Word) : (s.writeBank m n v).responses = s.responses := rfl
@[simp] theorem State.writeBank_replacements (s : State) (m : Mode) (n : Reg) (v : Word) : (s.writeBank m n v).replacements = s.replacements := rfl
@[simp] theorem State.writeBank_picks (s : State) (m : Mode) (n : Reg) (v : Word) : (s.writeBank m n v).picks = s.picks := rfl
@[simp] theorem State.writeBank_draws (s : State) (m : Mode) (n : Reg) (v : Word) : (s.writeBank m n v).draws = s.draws := rfl

@[simp] theorem State.writeBank_mode (s : State) (m : Mode) (n : Reg) (v : Word) : (s.writeBank m n v).mode = s.mode := rfl
@[simp] theorem State.writeBank_user (s : State) (m : Mode) (n : Reg) (v : Word) : (s.writeBank m n v).user = s.user := rfl

/-! ### `writeReg` -/

@[simp] theorem State.writeReg_cfg (s : State) (n : Reg) (v : Word) : (s.writeReg n v).cfg = s.cfg := rfl
@[simp] theorem State.writeReg_regs (s : State) (n : Reg) (v : Word) :
    (s.writeReg n v).regs = s.regs.set (bankedReg s.mode n) v := rfl
@[simp] theorem State.writeReg_pc (s : State) (n : Reg) (v : Word) : (s.writeReg n v).pc = s.pc := rfl
@[simp] theorem State.writeReg_cpsr (s : State) (n : Reg) (v : Word) : (s.writeReg n v).cpsr = s.cpsr := rfl
@[simp] theorem State.writeReg_spsr (s : State) (n : Reg) (v : Word) : (s.writeReg n v).spsr = s.spsr := rfl
@[simp] theorem State.writeReg_sctlr (s : State) (n : Reg) (v : Word) : (s.writeReg n v).sctlr = s.sctlr := rfl
@[simp] theorem State.writeReg_ttbr0 (s : State) (n : Reg) (v : Word) : (s.writeReg n v).ttbr0 = s.ttbr0 := rfl
@[simp] theorem State.writeReg_ttbr0Writes (s : State) (n : Reg) (v : Word) : (s.writeReg n v).ttbr0Writes = s.ttbr0Writes := rfl
@[simp] theorem State.writeReg_ttbr1 (s : State) (n : Reg) (v : Word) : (s.writeReg n v).ttbr1 = s.ttbr1 := rfl
@[simp] theorem State.writeReg_ttbcr (s : State) (n : Reg) (v : Word) : (s.writeReg n v).ttbcr = s.ttbcr := rfl
@[simp] theorem State.writeReg_dacr (s : State) (n : Reg) (v : Word) : (s.writeReg n v).dacr = s.dacr := rfl
@[simp] theorem State.writeReg_contextId (s : State) (n : Reg) (v : Word) : (s.writeReg n v).contextId = s.contextId := rfl
@[simp] theorem State.writeReg_dfsr (s : State) (n : Reg) (v : Word) : (s.writeReg n v).dfsr = s.dfsr := rfl
@[simp] theorem State.writeReg_ifsr (s : State) (n : Reg) (v : Word) : (s.writeReg n v).ifsr = s.ifsr := rfl
@[simp] theorem State.writeReg_far (s : State) (n : Reg) (v : Word) : (s.writeReg n v).far = s.far := rfl
@[simp] theorem State.writeReg_wfar (s : State) (n : Reg) (v : Word) : (s.writeReg n v).wfar = s.wfar := rfl
@[simp] theorem State.writeReg_ifar (s : State) (n : Reg) (v : Word) : (s.writeReg n v).ifar = s.ifar := rfl
@[simp] theorem State.writeReg_tlbD (s : State) (n : Reg) (v : Word) : (s.writeReg n v).tlbD = s.tlbD := rfl
@[simp] theorem State.writeReg_tlbI (s : State) (n : Reg) (v : Word) : (s.writeReg n v).tlbI = s.tlbI := rfl
@[simp] theorem State.writeReg_excl (s : State) (n : Reg) (v : Word) : (s.writeReg n v).excl = s.excl := rfl
@[simp] theorem State.writeReg_pendingImprecise (s : State) (n : Reg) (v : Word) : (s.writeReg n v).pendingImprecise = s.pendingImprecise := rfl
@[simp] theorem State.writeReg_pendingParity (s : State) (n : Reg) (v : Word) : (s.writeReg n v).pendingParity = s.pendingParity := rfl
@[simp] theorem State.writeReg_mem (s : State) (n : Reg) (v : Word) : (s.writeReg n v).mem = s.mem := rfl
@[simp] theorem State.writeReg_inputs (s : State) (n : Reg) (v : Word) : (s.writeReg n v).inputs = s.inputs := rfl
@[simp] theorem State.writeReg_responses (s : State) (n : Reg) (v : Word) : (s.writeReg n v).responses = s.responses := rfl
@[simp] theorem State.writeReg_replacements (s : State) (n : Reg) (v : Word) : (s.writeReg n v).replacements = s.replacements := rfl
@[simp] theorem State.writeReg_picks (s : State) (n : Reg) (v : Word) : (s.writeReg n v).picks = s.picks := rfl
@[simp] theorem State.writeReg_draws (s : State) (n : Reg) (v : Word) : (s.writeReg n v).draws = s.draws := rfl

@[simp] theorem State.writeReg_mode (s : State) (n : Reg) (v : Word) : (s.writeReg n v).mode = s.mode := rfl
@[simp] theorem State.writeReg_user (s : State) (n : Reg) (v : Word) : (s.writeReg n v).user = s.user := rfl

/-- Reading a register that was just written. -/
theorem State.readReg_writeReg (s : State) {n : Reg} (v : Word) (h : n ≠ 15#4) : (s.writeReg n v).readReg n = v := by
  simp [State.readReg, h, State.readBank]

/-- Reading another register than the one written. -/
theorem State.readReg_writeReg_ne (s : State) {n k : Reg} (v : Word) (hn : n ≠ 15#4) (h : k ≠ n) :
    (s.writeReg n v).readReg k = s.readReg k := by
  by_cases hk : k = 15#4
  · simp [State.readReg, hk]
  · simp only [State.readReg, hk, if_false, State.readBank, State.writeReg_regs, State.writeReg_mode]
    exact Regs.get_set_ne _ _ fun e => h (bankedReg_injective hk hn e)

/-! ### `closeWindows` -/

@[simp] theorem State.closeWindows_cfg (s : State) : s.closeWindows.cfg = s.cfg := rfl
@[simp] theorem State.closeWindows_regs (s : State) : s.closeWindows.regs = s.regs := rfl
@[simp] theorem State.closeWindows_pc (s : State) : s.closeWindows.pc = s.pc := rfl
@[simp] theorem State.closeWindows_cpsr (s : State) : s.closeWindows.cpsr = s.cpsr := rfl
@[simp] theorem State.closeWindows_spsr (s : State) : s.closeWindows.spsr = s.spsr := rfl
@[simp] theorem State.closeWindows_sctlr (s : State) :
    s.closeWindows.sctlr = s.sctlr.close := rfl
@[simp] theorem State.closeWindows_ttbr0 (s : State) :
    s.closeWindows.ttbr0 = s.ttbr0.close := rfl
@[simp] theorem State.closeWindows_ttbr0Writes (s : State) :
    s.closeWindows.ttbr0Writes = s.ttbr0Writes.take 1 := rfl
@[simp] theorem State.closeWindows_ttbr1 (s : State) :
    s.closeWindows.ttbr1 = s.ttbr1.close := rfl
@[simp] theorem State.closeWindows_ttbcr (s : State) :
    s.closeWindows.ttbcr = s.ttbcr.close := rfl
@[simp] theorem State.closeWindows_dacr (s : State) :
    s.closeWindows.dacr = s.dacr.close := rfl
@[simp] theorem State.closeWindows_contextId (s : State) :
    s.closeWindows.contextId = s.contextId.close := rfl
@[simp] theorem State.closeWindows_dfsr (s : State) : s.closeWindows.dfsr = s.dfsr := rfl
@[simp] theorem State.closeWindows_ifsr (s : State) : s.closeWindows.ifsr = s.ifsr := rfl
@[simp] theorem State.closeWindows_far (s : State) : s.closeWindows.far = s.far := rfl
@[simp] theorem State.closeWindows_wfar (s : State) : s.closeWindows.wfar = s.wfar := rfl
@[simp] theorem State.closeWindows_ifar (s : State) : s.closeWindows.ifar = s.ifar := rfl
@[simp] theorem State.closeWindows_tlbD (s : State) : s.closeWindows.tlbD = s.tlbD := rfl
@[simp] theorem State.closeWindows_tlbI (s : State) : s.closeWindows.tlbI = s.tlbI := rfl
@[simp] theorem State.closeWindows_excl (s : State) : s.closeWindows.excl = s.excl := rfl
@[simp] theorem State.closeWindows_pendingImprecise (s : State) : s.closeWindows.pendingImprecise = s.pendingImprecise := rfl
@[simp] theorem State.closeWindows_pendingParity (s : State) : s.closeWindows.pendingParity = s.pendingParity := rfl
@[simp] theorem State.closeWindows_mem (s : State) : s.closeWindows.mem = s.mem := rfl
@[simp] theorem State.closeWindows_inputs (s : State) : s.closeWindows.inputs = s.inputs := rfl
@[simp] theorem State.closeWindows_responses (s : State) : s.closeWindows.responses = s.responses := rfl
@[simp] theorem State.closeWindows_replacements (s : State) : s.closeWindows.replacements = s.replacements := rfl
@[simp] theorem State.closeWindows_picks (s : State) : s.closeWindows.picks = s.picks := rfl
@[simp] theorem State.closeWindows_draws (s : State) : s.closeWindows.draws = s.draws := rfl

@[simp] theorem State.closeWindows_mode (s : State) : s.closeWindows.mode = s.mode := rfl
@[simp] theorem State.closeWindows_user (s : State) : s.closeWindows.user = s.user := rfl

/-! ### `draw` -/

@[simp] theorem State.draw_cfg (s : State) : s.draw.2.cfg = s.cfg := rfl
@[simp] theorem State.draw_regs (s : State) : s.draw.2.regs = s.regs := rfl
@[simp] theorem State.draw_pc (s : State) : s.draw.2.pc = s.pc := rfl
@[simp] theorem State.draw_cpsr (s : State) : s.draw.2.cpsr = s.cpsr := rfl
@[simp] theorem State.draw_spsr (s : State) : s.draw.2.spsr = s.spsr := rfl
@[simp] theorem State.draw_sctlr (s : State) : s.draw.2.sctlr = s.sctlr := rfl
@[simp] theorem State.draw_ttbr0 (s : State) : s.draw.2.ttbr0 = s.ttbr0 := rfl
@[simp] theorem State.draw_ttbr0Writes (s : State) : s.draw.2.ttbr0Writes = s.ttbr0Writes := rfl
@[simp] theorem State.draw_ttbr1 (s : State) : s.draw.2.ttbr1 = s.ttbr1 := rfl
@[simp] theorem State.draw_ttbcr (s : State) : s.draw.2.ttbcr = s.ttbcr := rfl
@[simp] theorem State.draw_dacr (s : State) : s.draw.2.dacr = s.dacr := rfl
@[simp] theorem State.draw_contextId (s : State) : s.draw.2.contextId = s.contextId := rfl
@[simp] theorem State.draw_dfsr (s : State) : s.draw.2.dfsr = s.dfsr := rfl
@[simp] theorem State.draw_ifsr (s : State) : s.draw.2.ifsr = s.ifsr := rfl
@[simp] theorem State.draw_far (s : State) : s.draw.2.far = s.far := rfl
@[simp] theorem State.draw_wfar (s : State) : s.draw.2.wfar = s.wfar := rfl
@[simp] theorem State.draw_ifar (s : State) : s.draw.2.ifar = s.ifar := rfl
@[simp] theorem State.draw_tlbD (s : State) : s.draw.2.tlbD = s.tlbD := rfl
@[simp] theorem State.draw_tlbI (s : State) : s.draw.2.tlbI = s.tlbI := rfl
@[simp] theorem State.draw_excl (s : State) : s.draw.2.excl = s.excl := rfl
@[simp] theorem State.draw_pendingImprecise (s : State) : s.draw.2.pendingImprecise = s.pendingImprecise := rfl
@[simp] theorem State.draw_pendingParity (s : State) : s.draw.2.pendingParity = s.pendingParity := rfl
@[simp] theorem State.draw_mem (s : State) : s.draw.2.mem = s.mem := rfl
@[simp] theorem State.draw_inputs (s : State) : s.draw.2.inputs = s.inputs := rfl
@[simp] theorem State.draw_responses (s : State) : s.draw.2.responses = s.responses := rfl
@[simp] theorem State.draw_replacements (s : State) : s.draw.2.replacements = s.replacements := rfl
@[simp] theorem State.draw_picks (s : State) : s.draw.2.picks = s.picks := rfl
@[simp] theorem State.draw_draws (s : State) :
    s.draw.2.draws = s.draws + 1 := rfl

@[simp] theorem State.draw_mode (s : State) : s.draw.2.mode = s.mode := rfl
@[simp] theorem State.draw_user (s : State) : s.draw.2.user = s.user := rfl

/-! ### `takeException` -/

@[simp] theorem State.takeException_cfg (s : State) (k : ExceptionKind) (link : Word) : (s.takeException k link).cfg = s.cfg := rfl
@[simp] theorem State.takeException_regs (s : State) (k : ExceptionKind) (link : Word) :
    (s.takeException k link).regs = s.regs.set (bankedReg k.mode 14#4) link := rfl
@[simp] theorem State.takeException_pc (s : State) (k : ExceptionKind) (link : Word) :
    (s.takeException k link).pc = vectorBase s.sctlr.current + k.offset := rfl
@[simp] theorem State.takeException_spsr (s : State) (k : ExceptionKind) (link : Word) :
    (s.takeException k link).spsr = s.spsr.set k.mode s.cpsr := rfl
@[simp] theorem State.takeException_sctlr (s : State) (k : ExceptionKind) (link : Word) :
    (s.takeException k link).sctlr = s.sctlr.close := rfl
@[simp] theorem State.takeException_ttbr0 (s : State) (k : ExceptionKind) (link : Word) :
    (s.takeException k link).ttbr0 = s.ttbr0.close := rfl
@[simp] theorem State.takeException_ttbr0Writes (s : State) (k : ExceptionKind) (link : Word) :
    (s.takeException k link).ttbr0Writes = s.ttbr0Writes.take 1 := rfl
@[simp] theorem State.takeException_ttbr1 (s : State) (k : ExceptionKind) (link : Word) :
    (s.takeException k link).ttbr1 = s.ttbr1.close := rfl
@[simp] theorem State.takeException_ttbcr (s : State) (k : ExceptionKind) (link : Word) :
    (s.takeException k link).ttbcr = s.ttbcr.close := rfl
@[simp] theorem State.takeException_dacr (s : State) (k : ExceptionKind) (link : Word) :
    (s.takeException k link).dacr = s.dacr.close := rfl
@[simp] theorem State.takeException_contextId (s : State) (k : ExceptionKind) (link : Word) :
    (s.takeException k link).contextId = s.contextId.close := rfl
@[simp] theorem State.takeException_dfsr (s : State) (k : ExceptionKind) (link : Word) : (s.takeException k link).dfsr = s.dfsr := rfl
@[simp] theorem State.takeException_ifsr (s : State) (k : ExceptionKind) (link : Word) : (s.takeException k link).ifsr = s.ifsr := rfl
@[simp] theorem State.takeException_far (s : State) (k : ExceptionKind) (link : Word) : (s.takeException k link).far = s.far := rfl
@[simp] theorem State.takeException_wfar (s : State) (k : ExceptionKind) (link : Word) : (s.takeException k link).wfar = s.wfar := rfl
@[simp] theorem State.takeException_ifar (s : State) (k : ExceptionKind) (link : Word) : (s.takeException k link).ifar = s.ifar := rfl
@[simp] theorem State.takeException_tlbD (s : State) (k : ExceptionKind) (link : Word) : (s.takeException k link).tlbD = s.tlbD := rfl
@[simp] theorem State.takeException_tlbI (s : State) (k : ExceptionKind) (link : Word) : (s.takeException k link).tlbI = s.tlbI := rfl
@[simp] theorem State.takeException_excl (s : State) (k : ExceptionKind) (link : Word) : (s.takeException k link).excl = s.excl := rfl
@[simp] theorem State.takeException_pendingImprecise (s : State) (k : ExceptionKind) (link : Word) : (s.takeException k link).pendingImprecise = s.pendingImprecise := rfl
@[simp] theorem State.takeException_pendingParity (s : State) (k : ExceptionKind) (link : Word) : (s.takeException k link).pendingParity = s.pendingParity := rfl
@[simp] theorem State.takeException_mem (s : State) (k : ExceptionKind) (link : Word) : (s.takeException k link).mem = s.mem := rfl
@[simp] theorem State.takeException_inputs (s : State) (k : ExceptionKind) (link : Word) : (s.takeException k link).inputs = s.inputs := rfl
@[simp] theorem State.takeException_responses (s : State) (k : ExceptionKind) (link : Word) : (s.takeException k link).responses = s.responses := rfl
@[simp] theorem State.takeException_replacements (s : State) (k : ExceptionKind) (link : Word) : (s.takeException k link).replacements = s.replacements := rfl
@[simp] theorem State.takeException_picks (s : State) (k : ExceptionKind) (link : Word) : (s.takeException k link).picks = s.picks := rfl
@[simp] theorem State.takeException_draws (s : State) (k : ExceptionKind) (link : Word) : (s.takeException k link).draws = s.draws := rfl

@[simp] theorem State.takeException_cpsr (s : State) (k : ExceptionKind) (link : Word) :
    (s.takeException k link).cpsr = { s.cpsr with
      m := k.mode.bits
      t := false
      f := s.cpsr.f || k.masksFiq
      i := true
      a := s.cpsr.a || k.masksAborts
      e := ctlEE s.sctlr.current } := rfl

/-! ### `setTlb` -/

@[simp] theorem State.setTlb_cfg (s : State) (i : Bool) (t : Tlb) : (s.setTlb i t).cfg = s.cfg := by cases i <;> rfl
@[simp] theorem State.setTlb_regs (s : State) (i : Bool) (t : Tlb) : (s.setTlb i t).regs = s.regs := by cases i <;> rfl
@[simp] theorem State.setTlb_pc (s : State) (i : Bool) (t : Tlb) : (s.setTlb i t).pc = s.pc := by cases i <;> rfl
@[simp] theorem State.setTlb_cpsr (s : State) (i : Bool) (t : Tlb) : (s.setTlb i t).cpsr = s.cpsr := by cases i <;> rfl
@[simp] theorem State.setTlb_spsr (s : State) (i : Bool) (t : Tlb) : (s.setTlb i t).spsr = s.spsr := by cases i <;> rfl
@[simp] theorem State.setTlb_sctlr (s : State) (i : Bool) (t : Tlb) : (s.setTlb i t).sctlr = s.sctlr := by cases i <;> rfl
@[simp] theorem State.setTlb_ttbr0 (s : State) (i : Bool) (t : Tlb) : (s.setTlb i t).ttbr0 = s.ttbr0 := by cases i <;> rfl
@[simp] theorem State.setTlb_ttbr0Writes (s : State) (i : Bool) (t : Tlb) : (s.setTlb i t).ttbr0Writes = s.ttbr0Writes := by cases i <;> rfl
@[simp] theorem State.setTlb_ttbr1 (s : State) (i : Bool) (t : Tlb) : (s.setTlb i t).ttbr1 = s.ttbr1 := by cases i <;> rfl
@[simp] theorem State.setTlb_ttbcr (s : State) (i : Bool) (t : Tlb) : (s.setTlb i t).ttbcr = s.ttbcr := by cases i <;> rfl
@[simp] theorem State.setTlb_dacr (s : State) (i : Bool) (t : Tlb) : (s.setTlb i t).dacr = s.dacr := by cases i <;> rfl
@[simp] theorem State.setTlb_contextId (s : State) (i : Bool) (t : Tlb) : (s.setTlb i t).contextId = s.contextId := by cases i <;> rfl
@[simp] theorem State.setTlb_dfsr (s : State) (i : Bool) (t : Tlb) : (s.setTlb i t).dfsr = s.dfsr := by cases i <;> rfl
@[simp] theorem State.setTlb_ifsr (s : State) (i : Bool) (t : Tlb) : (s.setTlb i t).ifsr = s.ifsr := by cases i <;> rfl
@[simp] theorem State.setTlb_far (s : State) (i : Bool) (t : Tlb) : (s.setTlb i t).far = s.far := by cases i <;> rfl
@[simp] theorem State.setTlb_wfar (s : State) (i : Bool) (t : Tlb) : (s.setTlb i t).wfar = s.wfar := by cases i <;> rfl
@[simp] theorem State.setTlb_ifar (s : State) (i : Bool) (t : Tlb) : (s.setTlb i t).ifar = s.ifar := by cases i <;> rfl
@[simp] theorem State.setTlb_excl (s : State) (i : Bool) (t : Tlb) : (s.setTlb i t).excl = s.excl := by cases i <;> rfl
@[simp] theorem State.setTlb_pendingImprecise (s : State) (i : Bool) (t : Tlb) : (s.setTlb i t).pendingImprecise = s.pendingImprecise := by cases i <;> rfl
@[simp] theorem State.setTlb_pendingParity (s : State) (i : Bool) (t : Tlb) : (s.setTlb i t).pendingParity = s.pendingParity := by cases i <;> rfl
@[simp] theorem State.setTlb_mem (s : State) (i : Bool) (t : Tlb) : (s.setTlb i t).mem = s.mem := by cases i <;> rfl
@[simp] theorem State.setTlb_inputs (s : State) (i : Bool) (t : Tlb) : (s.setTlb i t).inputs = s.inputs := by cases i <;> rfl
@[simp] theorem State.setTlb_responses (s : State) (i : Bool) (t : Tlb) : (s.setTlb i t).responses = s.responses := by cases i <;> rfl
@[simp] theorem State.setTlb_replacements (s : State) (i : Bool) (t : Tlb) : (s.setTlb i t).replacements = s.replacements := by cases i <;> rfl
@[simp] theorem State.setTlb_picks (s : State) (i : Bool) (t : Tlb) : (s.setTlb i t).picks = s.picks := by cases i <;> rfl
@[simp] theorem State.setTlb_draws (s : State) (i : Bool) (t : Tlb) : (s.setTlb i t).draws = s.draws := by cases i <;> rfl
@[simp] theorem State.setTlb_mode (s : State) (i : Bool) (t : Tlb) : (s.setTlb i t).mode = s.mode := by
  cases i <;> rfl

/-! ### `store` and `forgetAt` -/

@[simp] theorem State.store_cfg (s : State) (a : Nat) (z : AccessSize) (v : Word) : (s.store a z v).cfg = s.cfg := rfl
@[simp] theorem State.store_regs (s : State) (a : Nat) (z : AccessSize) (v : Word) : (s.store a z v).regs = s.regs := rfl
@[simp] theorem State.store_pc (s : State) (a : Nat) (z : AccessSize) (v : Word) : (s.store a z v).pc = s.pc := rfl
@[simp] theorem State.store_cpsr (s : State) (a : Nat) (z : AccessSize) (v : Word) : (s.store a z v).cpsr = s.cpsr := rfl
@[simp] theorem State.store_spsr (s : State) (a : Nat) (z : AccessSize) (v : Word) : (s.store a z v).spsr = s.spsr := rfl
@[simp] theorem State.store_sctlr (s : State) (a : Nat) (z : AccessSize) (v : Word) : (s.store a z v).sctlr = s.sctlr := rfl
@[simp] theorem State.store_ttbr0 (s : State) (a : Nat) (z : AccessSize) (v : Word) : (s.store a z v).ttbr0 = s.ttbr0 := rfl
@[simp] theorem State.store_ttbr0Writes (s : State) (a : Nat) (z : AccessSize) (v : Word) : (s.store a z v).ttbr0Writes = s.ttbr0Writes := rfl
@[simp] theorem State.store_ttbr1 (s : State) (a : Nat) (z : AccessSize) (v : Word) : (s.store a z v).ttbr1 = s.ttbr1 := rfl
@[simp] theorem State.store_ttbcr (s : State) (a : Nat) (z : AccessSize) (v : Word) : (s.store a z v).ttbcr = s.ttbcr := rfl
@[simp] theorem State.store_dacr (s : State) (a : Nat) (z : AccessSize) (v : Word) : (s.store a z v).dacr = s.dacr := rfl
@[simp] theorem State.store_contextId (s : State) (a : Nat) (z : AccessSize) (v : Word) : (s.store a z v).contextId = s.contextId := rfl
@[simp] theorem State.store_dfsr (s : State) (a : Nat) (z : AccessSize) (v : Word) : (s.store a z v).dfsr = s.dfsr := rfl
@[simp] theorem State.store_ifsr (s : State) (a : Nat) (z : AccessSize) (v : Word) : (s.store a z v).ifsr = s.ifsr := rfl
@[simp] theorem State.store_far (s : State) (a : Nat) (z : AccessSize) (v : Word) : (s.store a z v).far = s.far := rfl
@[simp] theorem State.store_wfar (s : State) (a : Nat) (z : AccessSize) (v : Word) : (s.store a z v).wfar = s.wfar := rfl
@[simp] theorem State.store_ifar (s : State) (a : Nat) (z : AccessSize) (v : Word) : (s.store a z v).ifar = s.ifar := rfl
@[simp] theorem State.store_tlbD (s : State) (a : Nat) (z : AccessSize) (v : Word) : (s.store a z v).tlbD = s.tlbD := rfl
@[simp] theorem State.store_tlbI (s : State) (a : Nat) (z : AccessSize) (v : Word) : (s.store a z v).tlbI = s.tlbI := rfl
@[simp] theorem State.store_excl (s : State) (a : Nat) (z : AccessSize) (v : Word) : (s.store a z v).excl = s.excl := rfl
@[simp] theorem State.store_pendingImprecise (s : State) (a : Nat) (z : AccessSize) (v : Word) : (s.store a z v).pendingImprecise = s.pendingImprecise := rfl
@[simp] theorem State.store_pendingParity (s : State) (a : Nat) (z : AccessSize) (v : Word) : (s.store a z v).pendingParity = s.pendingParity := rfl
@[simp] theorem State.store_inputs (s : State) (a : Nat) (z : AccessSize) (v : Word) : (s.store a z v).inputs = s.inputs := rfl
@[simp] theorem State.store_responses (s : State) (a : Nat) (z : AccessSize) (v : Word) : (s.store a z v).responses = s.responses := rfl
@[simp] theorem State.store_replacements (s : State) (a : Nat) (z : AccessSize) (v : Word) : (s.store a z v).replacements = s.replacements := rfl
@[simp] theorem State.store_picks (s : State) (a : Nat) (z : AccessSize) (v : Word) : (s.store a z v).picks = s.picks := rfl
@[simp] theorem State.store_draws (s : State) (a : Nat) (z : AccessSize) (v : Word) : (s.store a z v).draws = s.draws := rfl
@[simp] theorem State.store_mem (s : State) (a : Nat) (z : AccessSize) (v : Word) :
    (s.store a z v).mem = s.mem.writeBytes a (split s.cpsr.e z v) := rfl
@[simp] theorem State.store_mode (s : State) (a : Nat) (z : AccessSize) (v : Word) : (s.store a z v).mode = s.mode := rfl

@[simp] theorem State.forgetAt_cfg (s : State) (a : Nat) (z : AccessSize) : (s.forgetAt a z).cfg = s.cfg := rfl
@[simp] theorem State.forgetAt_regs (s : State) (a : Nat) (z : AccessSize) : (s.forgetAt a z).regs = s.regs := rfl
@[simp] theorem State.forgetAt_pc (s : State) (a : Nat) (z : AccessSize) : (s.forgetAt a z).pc = s.pc := rfl
@[simp] theorem State.forgetAt_cpsr (s : State) (a : Nat) (z : AccessSize) : (s.forgetAt a z).cpsr = s.cpsr := rfl
@[simp] theorem State.forgetAt_spsr (s : State) (a : Nat) (z : AccessSize) : (s.forgetAt a z).spsr = s.spsr := rfl
@[simp] theorem State.forgetAt_sctlr (s : State) (a : Nat) (z : AccessSize) : (s.forgetAt a z).sctlr = s.sctlr := rfl
@[simp] theorem State.forgetAt_ttbr0 (s : State) (a : Nat) (z : AccessSize) : (s.forgetAt a z).ttbr0 = s.ttbr0 := rfl
@[simp] theorem State.forgetAt_ttbr0Writes (s : State) (a : Nat) (z : AccessSize) : (s.forgetAt a z).ttbr0Writes = s.ttbr0Writes := rfl
@[simp] theorem State.forgetAt_ttbr1 (s : State) (a : Nat) (z : AccessSize) : (s.forgetAt a z).ttbr1 = s.ttbr1 := rfl
@[simp] theorem State.forgetAt_ttbcr (s : State) (a : Nat) (z : AccessSize) : (s.forgetAt a z).ttbcr = s.ttbcr := rfl
@[simp] theorem State.forgetAt_dacr (s : State) (a : Nat) (z : AccessSize) : (s.forgetAt a z).dacr = s.dacr := rfl
@[simp] theorem State.forgetAt_contextId (s : State) (a : Nat) (z : AccessSize) : (s.forgetAt a z).contextId = s.contextId := rfl
@[simp] theorem State.forgetAt_dfsr (s : State) (a : Nat) (z : AccessSize) : (s.forgetAt a z).dfsr = s.dfsr := rfl
@[simp] theorem State.forgetAt_ifsr (s : State) (a : Nat) (z : AccessSize) : (s.forgetAt a z).ifsr = s.ifsr := rfl
@[simp] theorem State.forgetAt_far (s : State) (a : Nat) (z : AccessSize) : (s.forgetAt a z).far = s.far := rfl
@[simp] theorem State.forgetAt_wfar (s : State) (a : Nat) (z : AccessSize) : (s.forgetAt a z).wfar = s.wfar := rfl
@[simp] theorem State.forgetAt_ifar (s : State) (a : Nat) (z : AccessSize) : (s.forgetAt a z).ifar = s.ifar := rfl
@[simp] theorem State.forgetAt_tlbD (s : State) (a : Nat) (z : AccessSize) : (s.forgetAt a z).tlbD = s.tlbD := rfl
@[simp] theorem State.forgetAt_tlbI (s : State) (a : Nat) (z : AccessSize) : (s.forgetAt a z).tlbI = s.tlbI := rfl
@[simp] theorem State.forgetAt_excl (s : State) (a : Nat) (z : AccessSize) : (s.forgetAt a z).excl = s.excl := rfl
@[simp] theorem State.forgetAt_pendingImprecise (s : State) (a : Nat) (z : AccessSize) : (s.forgetAt a z).pendingImprecise = s.pendingImprecise := rfl
@[simp] theorem State.forgetAt_pendingParity (s : State) (a : Nat) (z : AccessSize) : (s.forgetAt a z).pendingParity = s.pendingParity := rfl
@[simp] theorem State.forgetAt_inputs (s : State) (a : Nat) (z : AccessSize) : (s.forgetAt a z).inputs = s.inputs := rfl
@[simp] theorem State.forgetAt_responses (s : State) (a : Nat) (z : AccessSize) : (s.forgetAt a z).responses = s.responses := rfl
@[simp] theorem State.forgetAt_replacements (s : State) (a : Nat) (z : AccessSize) : (s.forgetAt a z).replacements = s.replacements := rfl
@[simp] theorem State.forgetAt_picks (s : State) (a : Nat) (z : AccessSize) : (s.forgetAt a z).picks = s.picks := rfl
@[simp] theorem State.forgetAt_mem (s : State) (a : Nat) (z : AccessSize) :
    (s.forgetAt a z).mem = s.mem.writeBytes a (split s.cpsr.e z (Config.anyWord s.draws)) := rfl
@[simp] theorem State.forgetAt_draws (s : State) (a : Nat) (z : AccessSize) : (s.forgetAt a z).draws = s.draws + 1 := rfl

/-! ### `pend` -/

@[simp] theorem State.pend_cfg (s : State) (p : Bool) : (s.pend p).cfg = s.cfg := rfl
@[simp] theorem State.pend_regs (s : State) (p : Bool) : (s.pend p).regs = s.regs := rfl
@[simp] theorem State.pend_pc (s : State) (p : Bool) : (s.pend p).pc = s.pc := rfl
@[simp] theorem State.pend_cpsr (s : State) (p : Bool) : (s.pend p).cpsr = s.cpsr := rfl
@[simp] theorem State.pend_spsr (s : State) (p : Bool) : (s.pend p).spsr = s.spsr := rfl
@[simp] theorem State.pend_sctlr (s : State) (p : Bool) : (s.pend p).sctlr = s.sctlr := rfl
@[simp] theorem State.pend_ttbr0 (s : State) (p : Bool) : (s.pend p).ttbr0 = s.ttbr0 := rfl
@[simp] theorem State.pend_ttbr0Writes (s : State) (p : Bool) : (s.pend p).ttbr0Writes = s.ttbr0Writes := rfl
@[simp] theorem State.pend_ttbr1 (s : State) (p : Bool) : (s.pend p).ttbr1 = s.ttbr1 := rfl
@[simp] theorem State.pend_ttbcr (s : State) (p : Bool) : (s.pend p).ttbcr = s.ttbcr := rfl
@[simp] theorem State.pend_dacr (s : State) (p : Bool) : (s.pend p).dacr = s.dacr := rfl
@[simp] theorem State.pend_contextId (s : State) (p : Bool) : (s.pend p).contextId = s.contextId := rfl
@[simp] theorem State.pend_dfsr (s : State) (p : Bool) : (s.pend p).dfsr = s.dfsr := rfl
@[simp] theorem State.pend_ifsr (s : State) (p : Bool) : (s.pend p).ifsr = s.ifsr := rfl
@[simp] theorem State.pend_far (s : State) (p : Bool) : (s.pend p).far = s.far := rfl
@[simp] theorem State.pend_wfar (s : State) (p : Bool) : (s.pend p).wfar = s.wfar := rfl
@[simp] theorem State.pend_ifar (s : State) (p : Bool) : (s.pend p).ifar = s.ifar := rfl
@[simp] theorem State.pend_tlbD (s : State) (p : Bool) : (s.pend p).tlbD = s.tlbD := rfl
@[simp] theorem State.pend_tlbI (s : State) (p : Bool) : (s.pend p).tlbI = s.tlbI := rfl
@[simp] theorem State.pend_excl (s : State) (p : Bool) : (s.pend p).excl = s.excl := rfl
@[simp] theorem State.pend_mem (s : State) (p : Bool) : (s.pend p).mem = s.mem := rfl
@[simp] theorem State.pend_inputs (s : State) (p : Bool) : (s.pend p).inputs = s.inputs := rfl
@[simp] theorem State.pend_responses (s : State) (p : Bool) : (s.pend p).responses = s.responses := rfl
@[simp] theorem State.pend_replacements (s : State) (p : Bool) : (s.pend p).replacements = s.replacements := rfl
@[simp] theorem State.pend_picks (s : State) (p : Bool) : (s.pend p).picks = s.picks := rfl
@[simp] theorem State.pend_draws (s : State) (p : Bool) : (s.pend p).draws = s.draws := rfl
@[simp] theorem State.pend_mode (s : State) (p : Bool) : (s.pend p).mode = s.mode := rfl
@[simp] theorem State.pend_pendingImprecise (s : State) (p : Bool) :
    (s.pend p).pendingImprecise = min (s.pendingImprecise + 1) s.cfg.imprecisePendMax := rfl
@[simp] theorem State.pend_pendingParity (s : State) (p : Bool) :
    (s.pend p).pendingParity
      = if p && s.pendingImprecise < s.cfg.imprecisePendMax then s.pendingParity + 1 else s.pendingParity := rfl

/-! ### Status registers -/

@[simp] theorem Spsrs.get_set (p : Spsrs) (k : ExceptionKind) (v : Psr) : (p.set k.mode v).get k.mode = some v := by
  cases k <;> rfl

/-- Writing one mode's SPSR leaves the others. -/
theorem Spsrs.get_set_ne (p : Spsrs) {m n : Mode} (v : Psr) (h : n ≠ m) : (p.set m v).get n = p.get n := by
  cases m <;> cases n <;> first | rfl | exact absurd rfl h

/-- The modes with an SPSR are the exception modes. -/
theorem Spsrs.get_eq_none (p : Spsrs) (m : Mode) : p.get m = none ↔ m = .usr ∨ m = .sys := by
  cases m <;> simp [Spsrs.get]

@[simp] theorem Mode.ofBits_bits (m : Mode) : Mode.ofBits m.bits = some m := by cases m <;> rfl

/-- A legal mode field is the field of its mode. -/
theorem Mode.bits_of_ofBits {b : BitVec 5} {m : Mode} (h : Mode.ofBits b = some m) : m.bits = b := by
  have all : ∀ b : BitVec 5, (Mode.ofBits b).elim true (fun m => m.bits == b) = true := by decide
  have := all b
  simpa [h] using this

/-- Being in User mode, for a legal mode field. -/
theorem State.mode_usr (s : State) (h : s.cpsr.m = 0b10000#5) : s.mode = .usr := by
  simp [State.mode, h, Mode.ofBits]

@[simp] theorem State.user_iff (s : State) : s.user = true ↔ s.mode = .usr := by
  simp [State.user, State.privileged]

end Sys2Proof.Machine
end

