-- ==== Sys2Proof/Laws/Access.lean ====
section
/-!
SUPPORT. What an access can do to the state: a read, a translation and a fetch change nothing but what `SameButTlb`
names; a write changes memory besides.
-/

namespace Sys2Proof.Machine

open Sys2Proof

/-! ### The relation -/

theorem SameButTlb.refl (s : State) : SameButTlb s s := rfl

theorem SameButTlb.trans {s t u : State} (h : SameButTlb s t) (k : SameButTlb t u) : SameButTlb s u := by
  unfold SameButTlb at *
  rw [k, h]

theorem SameButTlb.cfg {s t : State} (h : SameButTlb s t) : t.cfg = s.cfg := by rw [h]
theorem SameButTlb.regs {s t : State} (h : SameButTlb s t) : t.regs = s.regs := by rw [h]
theorem SameButTlb.pc {s t : State} (h : SameButTlb s t) : t.pc = s.pc := by rw [h]
theorem SameButTlb.cpsr {s t : State} (h : SameButTlb s t) : t.cpsr = s.cpsr := by rw [h]
theorem SameButTlb.spsr {s t : State} (h : SameButTlb s t) : t.spsr = s.spsr := by rw [h]
theorem SameButTlb.sctlr {s t : State} (h : SameButTlb s t) : t.sctlr = s.sctlr := by rw [h]
theorem SameButTlb.excl {s t : State} (h : SameButTlb s t) : t.excl = s.excl := by rw [h]
theorem SameButTlb.mem {s t : State} (h : SameButTlb s t) : t.mem = s.mem := by rw [h]
theorem SameButTlb.inputs {s t : State} (h : SameButTlb s t) : t.inputs = s.inputs := by rw [h]
theorem SameButTlb.mode {s t : State} (h : SameButTlb s t) : t.mode = s.mode := by rw [h]; rfl
theorem SameButTlb.user {s t : State} (h : SameButTlb s t) : t.user = s.user := by rw [h]; rfl
theorem SameButTlb.readReg {s t : State} (h : SameButTlb s t) (n : Reg) : t.readReg n = s.readReg n := by rw [h]; rfl

theorem SameButTlb.system {s t : State} (h : SameButTlb s t) : SameSystem s t := by
  rw [h]; exact ⟨rfl, rfl, rfl, rfl, rfl, rfl, rfl, rfl, rfl, rfl, rfl, rfl, rfl, rfl, rfl⟩

/-! ### Results that may be abandoned -/

/-- The state an operation leaves, whether it completes or aborts, has a property. -/
def Res.Keeps {α : Type} (x : Res α) (P : State → Prop) : Prop :=
  match x with
  | .ok _ t => P t
  | .abort _ t => P t
  | .fault _ => True
  | .refused _ => True

theorem Res.Keeps.ok {α : Type} {x : Res α} {P : State → Prop} (h : x.Keeps P) {a : α} {t : State}
    (e : x = .ok a t) : P t := by subst e; exact h

theorem Res.Keeps.abort {α : Type} {x : Res α} {P : State → Prop} (h : x.Keeps P) {i : AbortInfo} {t : State}
    (e : x = .abort i t) : P t := by subst e; exact h

/-- Keeping a property keeps a weaker one. -/
theorem Res.Keeps.mono {α : Type} {x : Res α} {P Q : State → Prop} (h : x.Keeps P) (k : ∀ t, P t → Q t) :
    x.Keeps Q := by
  cases x with
  | ok a t => exact k t h
  | abort i t => exact k t h
  | fault _ => trivial
  | refused _ => trivial

/-- Sequencing keeps what both parts keep. -/
theorem Res.Keeps.bind {α β : Type} {x : Res α} {f : α → State → Res β} {P : State → Prop} (h : x.Keeps P)
    (k : ∀ a t, P t → (f a t).Keeps P) : (x.bind f).Keeps P := by
  cases x with
  | ok a t => exact k a t h
  | abort i t => exact h
  | fault _ => trivial
  | refused _ => trivial

/-- A sequence that completes has completed both parts. -/
theorem Res.bind_ok {α β : Type} {x : Res α} {f : α → State → Res β} {b : β} {u : State} (h : x.bind f = .ok b u) :
    ∃ a t, x = .ok a t ∧ f a t = .ok b u := by
  cases x with
  | ok a t => exact ⟨a, t, rfl, h⟩
  | abort i t => cases h
  | fault _ => cases h
  | refused _ => cases h

/-! ### The parts of an access -/

theorem useSynced_same (s : State) (r : Synced) : SameButTlb s (s.useSynced r).2 := by
  unfold State.useSynced
  split
  · exact .refl s
  · split
    · exact .refl s
    · rfl

theorem draw_same (s : State) : SameButTlb s s.draw.2 := rfl

theorem popReplacement_same (s : State) : SameButTlb s s.popReplacement.2 := by
  unfold State.popReplacement
  split
  · exact .refl s
  · rfl

theorem setTlb_same (s : State) (i : Bool) (t : Tlb) : SameButTlb s (s.setTlb i t) := by cases i <;> rfl

theorem popResponse_same (s : State) : SameButTlb s s.popResponse.2 := by
  unfold State.popResponse
  split
  · exact .refl s
  · rfl

/-- What an external error can do: nothing more than a property of the state before it, with one more imprecise abort
pending, that `goOn` keeps. -/
theorem externalError_keeps {α : Type} {s : State} {va : Word} {write : Bool} {goOn : State → Res α}
    {unsupported : Res α} {P : State → Prop} (h : P s)
    (hg : (goOn (s.pend false)).Keeps P) (hu : unsupported.Keeps P) :
    (externalError s va write goOn unsupported).Keeps P := by
  unfold externalError
  split
  · exact hu
  · exact h
  · exact hg

theorem walkRead_keeps (s : State) (pa : Nat) (big : Bool) (i : AbortInfo) :
    (walkRead s pa big i).Keeps (SameButTlb s) := by
  have h := popResponse_same s
  unfold walkRead
  simp only
  repeat' split
  all_goals first | exact .refl s | exact h | trivial

theorem walkSecond_keeps (s : State) (ctl contextId d1 mva : Word) (k : AccessKind) :
    (walkSecond s ctl contextId d1 mva k).Keeps (SameButTlb s) := by
  unfold walkSecond
  refine (walkRead_keeps ..).bind fun d t h => ?_
  repeat' split
  all_goals first | exact h | trivial

theorem walkFirst_keeps (s : State) (ctl contextId d mva : Word) (k : AccessKind) :
    (walkFirst s ctl contextId d mva k).Keeps (SameButTlb s) := by
  unfold walkFirst
  repeat' split
  all_goals first | exact .refl s | trivial | exact walkSecond_keeps ..

/-- The part of a walk after the choice of the table base register. -/
theorem walkFrom_keeps (s : State) (ctl ttbr : Word) (bad cut : Bool) (x : Nat) (mva : Word) (k : AccessKind) :
    (if bad then .refused .tableBaseReserved
      else if cut then .refused .tableBaseInsignificant
      else
        (walkRead s (firstLevelAddress ttbr x mva).toNat (ctlEE ctl) (walkAbort 0b01100#5 none mva k)).bind
          fun d s => walkFirst (s.useSynced s.contextId).2 ctl (s.useSynced s.contextId).1 d mva k :
      Res TlbEntry).Keeps (SameButTlb s) := by
  split
  · trivial
  split
  · trivial
  · refine (walkRead_keeps ..).bind fun d t ht => ?_
    exact (walkFirst_keeps ..).mono fun u h => ht.trans ((useSynced_same ..).trans h)

theorem walk_keeps (s : State) (mva : Word) (k : AccessKind) : (walk s mva k).Keeps (SameButTlb s) := by
  have h1 := useSynced_same s s.sctlr
  have h2 := h1.trans (useSynced_same _ (s.useSynced s.sctlr).2.ttbcr)
  exact (walkFrom_keeps ..).mono fun u h => (h2.trans (useSynced_same ..)).trans h

theorem lookup_keeps (s : State) (mva : Word) (k : AccessKind) : (lookup s mva k).Keeps (SameButTlb s) := by
  have h1 := useSynced_same s s.contextId
  have h2 := h1.trans (popReplacement_same (s.useSynced s.contextId).2)
  unfold lookup
  simp only
  generalize (s.useSynced s.contextId).2.popReplacement = x at h2 ⊢
  obtain ⟨rep, s2⟩ := x
  have h3 := fun i t => h2.trans (setTlb_same s2 i t)
  simp only
  split
  · exact h3 _ _
  · refine ((walk_keeps ..).mono fun t h => (h3 _ _).trans h).bind fun e t h => ?_
    exact h.trans (setTlb_same ..)
  · trivial

theorem checkAccess_keeps (s : State) (e : TlbEntry) (k : AccessKind) (user : Bool) (mva : Word) :
    (checkAccess s e k user mva).Keeps (SameButTlb s) := by
  have h := useSynced_same s s.dacr
  unfold checkAccess
  simp only
  split
  · exact h
  · trivial
  · exact h
  · split
    · trivial
    · split
      · exact h
      · exact h

theorem translate_keeps (s : State) (ctl mva : Word) (k : AccessKind) (user : Bool) :
    (translate s ctl mva k user).Keeps (SameButTlb s) := by
  unfold translate
  split
  · trivial
  · refine (lookup_keeps ..).bind fun e t h => ?_
    refine ((checkAccess_keeps ..).mono fun u k => h.trans k).bind fun _ u h => ?_
    split
    · trivial
    · exact h

theorem dataAddress_keeps (s : State) (va : Word) (size : AccessSize) (k : AccessKind) (user : Bool) :
    (dataAddress s va size k user).Keeps (SameButTlb s) := by
  have h := useSynced_same s s.sctlr
  unfold dataAddress
  split
  · trivial
  · simp only
    repeat' split
    all_goals first
      | exact h
      | trivial
      | exact (translate_keeps ..).mono fun t k => h.trans k

theorem checkPair_keeps (s : State) (va : Word) (k : AccessKind) : (checkPair s va k).Keeps (SameButTlb s) := by
  have h := useSynced_same s s.sctlr
  unfold checkPair
  simp only
  generalize s.useSynced s.sctlr = x at h ⊢
  repeat' split
  all_goals first
    | exact .refl s
    | exact h
    | trivial

theorem readAt_keeps (s : State) (pa : Nat) (va : Word) (size : AccessSize) :
    (readAt s pa va size).Keeps (SameButTlb s) := by
  have h := popResponse_same s
  unfold readAt
  simp only
  split
  · exact externalError_keeps (.refl s) rfl trivial
  · split
    · exact externalError_keeps h (h.trans rfl) h
    · split
      · exact h.trans rfl
      · split <;> exact h

/-- A data read changes nothing but what `SameButTlb` names, whether it completes or aborts. -/
theorem memRead_keeps (s : State) (va : Word) (size : AccessSize) (user : Bool) :
    (memRead s va size user).Keeps (SameButTlb s) :=
  (dataAddress_keeps ..).bind fun _ _ h => (readAt_keeps ..).mono fun _ k => h.trans k

theorem fetchAddress_keeps (s : State) : (fetchAddress s).Keeps (SameButTlb s) := by
  have h := useSynced_same s s.sctlr
  unfold fetchAddress
  simp only
  split
  · exact (translate_keeps ..).mono fun t k => h.trans k
  · exact h

/-- A fetch changes nothing but what `SameButTlb` names, whether it completes or aborts. -/
theorem fetch_keeps (s : State) : (fetch s).Keeps (SameButTlb s) := by
  refine (fetchAddress_keeps s).bind fun pa t h => ?_
  have k := h.trans (popResponse_same t)
  unfold fetchAt
  simp only
  repeat' split
  all_goals first
    | exact h
    | exact k
    | trivial

/-- Several words are read with nothing changed but what `SameButTlb` names. -/
theorem readWords_keeps (n : Nat) (s : State) (va : Word) (user : Bool) :
    (readWords s va user n).Keeps (SameButTlb s) := by
  induction n generalizing s va with
  | zero => exact .refl s
  | succ n ih =>
    refine (memRead_keeps ..).bind fun v t h => ?_
    refine ((ih t (va + 4)).mono fun u k => h.trans k).bind fun vs u h => ?_
    exact h

/-! ### Writes -/

/-- Storing changes memory alone. -/
theorem SameButTlb.store {s t : State} (h : SameButTlb s t) (pa : Nat) (size : AccessSize) (v : Word) :
    SameButTlb { s with mem := (t.store pa size v).mem } (t.store pa size v) := by
  rw [h]; rfl

/-- A write at a physical address changes memory at that address alone, or leaves an abort pending. -/
theorem writeAt_keeps (s : State) (pa : Nat) (va : Word) (size : AccessSize) (v : Word) :
    (writeAt s pa va size v).Keeps fun t =>
      SameButTlb { s with mem := t.mem } t
        ∧ (t.mem = s.mem ∨ ∃ w, t.mem = s.mem.writeBytes pa (split s.cpsr.e size w)) := by
  have h := popResponse_same s
  have hm := h.mem
  have hc := h.cpsr
  unfold writeAt
  simp only
  split
  · exact externalError_keeps ⟨rfl, .inl rfl⟩ ⟨rfl, .inl rfl⟩ trivial
  · split
    · refine externalError_keeps ⟨?_, .inl hm⟩ ⟨?_, .inr ⟨Config.anyWord (s.popResponse.2.pend false).draws, ?_⟩⟩
        ⟨h.store .., .inr ⟨v, ?_⟩⟩
      · rw [h]; rfl
      · rw [h]; rfl
      · rw [State.forgetAt_mem, State.pend_mem, State.pend_cpsr, hm, hc]
      · rw [State.store_mem, hm, hc]
    · exact ⟨h.store .., .inr ⟨v, by rw [State.store_mem, hm, hc]⟩⟩

/-- A write at a physical address that aborts changes nothing but what `SameButTlb` names. -/
theorem writeAt_abort {s : State} {pa : Nat} {va : Word} {size : AccessSize} {v : Word} {i : AbortInfo} {t : State}
    (h : writeAt s pa va size v = .abort i t) : SameButTlb s t := by
  have k := popResponse_same s
  simp only [writeAt, externalError] at h
  repeat' split at h
  all_goals first
    | cases h; first | exact k | exact .refl s
    | cases h

/-- A data write that aborts changes nothing but what `SameButTlb` names. -/
theorem memWrite_abort {s : State} {va : Word} {size : AccessSize} {v : Word} {user : Bool} {i : AbortInfo} {t : State}
    (h : memWrite s va size v user = .abort i t) : SameButTlb s t := by
  unfold memWrite at h
  have k := dataAddress_keeps s va size .write user
  generalize dataAddress s va size .write user = x at h k
  cases x with
  | ok pa u =>
    have k : SameButTlb s u := k
    exact k.trans (writeAt_abort h)
  | abort j u => cases h; exact k
  | fault _ => cases h
  | refused _ => cases h

/-! ### Stores of several words -/

/-- Several words are stored with nothing changed but memory and what `SameButTlb` names. -/
theorem SameButTlb.mem_trans {s t u : State} (h : SameButTlb { s with mem := t.mem } t)
    (k : SameButTlb { t with mem := u.mem } u) : SameButTlb { s with mem := u.mem } u := by
  unfold SameButTlb at *
  rw [k, h]

theorem OnlyStored.refl (s : State) (pas : List Nat) (n : Nat) : OnlyStored s s pas n := ⟨rfl, fun _ _ => rfl⟩

/-- Storing at the first address and then only at the others. -/
theorem OnlyStored.cons {s t u : State} {pa : Nat} {pas : List Nat} {n : Nat} (h : OnlyStored s t [pa] n)
    (k : OnlyStored t u pas n) : OnlyStored s u (pa :: pas) n := by
  refine ⟨h.1.mem_trans k.1, fun a ha => ?_⟩
  rw [k.2 a fun p hp => ha p (List.mem_cons_of_mem _ hp)]
  refine h.2 a fun p hp => ?_
  rw [List.mem_singleton] at hp
  exact hp ▸ ha pa (List.mem_cons_self ..)

/-- A free value at one address. -/
theorem State.forgetAt_onlyStored (s : State) (pa : Nat) (size : AccessSize) :
    OnlyStored s (s.forgetAt pa size) [pa] size.bytes := by
  refine ⟨rfl, fun a ha => ?_⟩
  rw [State.forgetAt_mem, Memory.read_writeBytes_ne]
  rw [split_length]
  exact ha pa (List.mem_singleton_self pa)

/-- The words an aborted store leaves open: no other byte changes, and nothing else but the draws. -/
theorem State.forgetWords_onlyStored (s : State) (pas : List Nat) : OnlyStored s (s.forgetWords pas) pas 4 := by
  induction pas generalizing s with
  | nil => exact .refl ..
  | cons pa pas ih =>
    rw [State.forgetWords, List.foldl_cons]
    split
    · exact (s.forgetAt_onlyStored pa .word).cons (ih _)
    · exact (OnlyStored.refl s [pa] 4).cons (ih _)

/-- A store of several words that completes goes on. -/
theorem State.storeWords_ok {s t : State} {va : Word} {user : Bool} {values : List Word}
    (h : writeWords s va user values = .ok () t) (done : State → Out) : s.storeWords va user values done = done t := by
  rw [State.storeWords, h]; rfl

/-- A store of several words that aborts. -/
theorem State.storeWords_abort {s t : State} {va : Word} {user : Bool} {values : List Word} {a : AbortInfo}
    (h : writeWords s va user values = .abort a t) (done : State → Out) :
    s.storeWords va user values done = .next ((t.forgetWords (openWords s va user values)).dataAbort a) := by
  rw [State.storeWords, h]; rfl

/-- What a probe names: the physical address of each of the words whose write would pass its checks. -/
theorem mem_permittedWords (t : State) (va : Word) (user : Bool) (n pa : Nat) :
    pa ∈ permittedWords t va user n ↔ ∃ (k : Nat) (b : BitVec 40) (y : State), k < n ∧ b.toNat = pa
      ∧ dataAddress t (va + BitVec.ofNat 32 (4 * k)) .word .write user = .ok b y := by
  induction n generalizing va with
  | zero => simp [permittedWords]
  | succ n ih =>
    have e : ∀ k, va + BitVec.ofNat 32 (4 * (k + 1)) = va + 4 + BitVec.ofNat 32 (4 * k) := by
      intro k
      rw [Nat.mul_add, BitVec.ofNat_add, BitVec.add_assoc]; congr 1; exact BitVec.add_comm _ _
    have z : va + BitVec.ofNat 32 (4 * 0) = va := by simp
    constructor
    · intro h
      have : (∃ b y, dataAddress t va .word .write user = .ok b y ∧ b.toNat = pa)
          ∨ pa ∈ permittedWords t (va + 4) user n := by
        unfold permittedWords at h
        simp only at h
        split at h
        · rename_i b y hb
          rcases List.mem_cons.mp h with rfl | h
          · exact .inl ⟨b, y, hb, rfl⟩
          · exact .inr h
        all_goals exact .inr h
      rcases this with ⟨b, y, hb, rfl⟩ | h
      · exact ⟨0, b, y, by omega, rfl, by rw [z]; exact hb⟩
      · obtain ⟨k, b, y, hk, rfl, hb⟩ := (ih _).mp h
        exact ⟨k + 1, b, y, by omega, rfl, by rw [e]; exact hb⟩
    · rintro ⟨k, b, y, hk, rfl, hb⟩
      cases k with
      | zero => rw [z] at hb; unfold permittedWords; simp [hb]
      | succ k =>
        rw [e] at hb
        have := (ih (va + 4)).mpr ⟨k, b, y, by omega, rfl, hb⟩
        unfold permittedWords; simp only; split
        · exact List.mem_cons_of_mem _ this
        all_goals exact this

end Sys2Proof.Machine
end

