-- ==== Sys2Proof/Laws/Cp15.lean ====
section
/-!
SUPPORT. What the writes of TTBR0 and of the TTBCR leave of each field, when a walk refuses a TTBR0 for its
insignificant bits (R337), and that the record of TTBR0 writes stays one of values TTBR0 may take.
-/

namespace Sys2Proof.Machine

open Sys2Proof

/-! ### `writeTtbr0` -/

@[simp] theorem State.writeTtbr0_cfg (s : State) (v : Word) : (s.writeTtbr0 v).cfg = s.cfg := rfl
@[simp] theorem State.writeTtbr0_regs (s : State) (v : Word) : (s.writeTtbr0 v).regs = s.regs := rfl
@[simp] theorem State.writeTtbr0_pc (s : State) (v : Word) : (s.writeTtbr0 v).pc = s.pc := rfl
@[simp] theorem State.writeTtbr0_cpsr (s : State) (v : Word) : (s.writeTtbr0 v).cpsr = s.cpsr := rfl
@[simp] theorem State.writeTtbr0_spsr (s : State) (v : Word) : (s.writeTtbr0 v).spsr = s.spsr := rfl
@[simp] theorem State.writeTtbr0_sctlr (s : State) (v : Word) : (s.writeTtbr0 v).sctlr = s.sctlr := rfl
@[simp] theorem State.writeTtbr0_ttbr0 (s : State) (v : Word) : (s.writeTtbr0 v).ttbr0 = s.ttbr0.write v := rfl
@[simp] theorem State.writeTtbr0_ttbr0Writes (s : State) (v : Word) :
    (s.writeTtbr0 v).ttbr0Writes = ⟨v, []⟩ :: s.ttbr0Writes := rfl
@[simp] theorem State.writeTtbr0_ttbr1 (s : State) (v : Word) : (s.writeTtbr0 v).ttbr1 = s.ttbr1 := rfl
@[simp] theorem State.writeTtbr0_ttbcr (s : State) (v : Word) : (s.writeTtbr0 v).ttbcr = s.ttbcr := rfl
@[simp] theorem State.writeTtbr0_dacr (s : State) (v : Word) : (s.writeTtbr0 v).dacr = s.dacr := rfl
@[simp] theorem State.writeTtbr0_contextId (s : State) (v : Word) :
    (s.writeTtbr0 v).contextId = s.contextId := rfl
@[simp] theorem State.writeTtbr0_dfsr (s : State) (v : Word) : (s.writeTtbr0 v).dfsr = s.dfsr := rfl
@[simp] theorem State.writeTtbr0_ifsr (s : State) (v : Word) : (s.writeTtbr0 v).ifsr = s.ifsr := rfl
@[simp] theorem State.writeTtbr0_far (s : State) (v : Word) : (s.writeTtbr0 v).far = s.far := rfl
@[simp] theorem State.writeTtbr0_wfar (s : State) (v : Word) : (s.writeTtbr0 v).wfar = s.wfar := rfl
@[simp] theorem State.writeTtbr0_ifar (s : State) (v : Word) : (s.writeTtbr0 v).ifar = s.ifar := rfl
@[simp] theorem State.writeTtbr0_tlbD (s : State) (v : Word) : (s.writeTtbr0 v).tlbD = s.tlbD := rfl
@[simp] theorem State.writeTtbr0_tlbI (s : State) (v : Word) : (s.writeTtbr0 v).tlbI = s.tlbI := rfl
@[simp] theorem State.writeTtbr0_excl (s : State) (v : Word) : (s.writeTtbr0 v).excl = s.excl := rfl
@[simp] theorem State.writeTtbr0_pendingImprecise (s : State) (v : Word) :
    (s.writeTtbr0 v).pendingImprecise = s.pendingImprecise := rfl
@[simp] theorem State.writeTtbr0_pendingParity (s : State) (v : Word) :
    (s.writeTtbr0 v).pendingParity = s.pendingParity := rfl
@[simp] theorem State.writeTtbr0_mem (s : State) (v : Word) : (s.writeTtbr0 v).mem = s.mem := rfl
@[simp] theorem State.writeTtbr0_inputs (s : State) (v : Word) : (s.writeTtbr0 v).inputs = s.inputs := rfl
@[simp] theorem State.writeTtbr0_responses (s : State) (v : Word) :
    (s.writeTtbr0 v).responses = s.responses := rfl
@[simp] theorem State.writeTtbr0_replacements (s : State) (v : Word) :
    (s.writeTtbr0 v).replacements = s.replacements := rfl
@[simp] theorem State.writeTtbr0_picks (s : State) (v : Word) : (s.writeTtbr0 v).picks = s.picks := rfl
@[simp] theorem State.writeTtbr0_draws (s : State) (v : Word) : (s.writeTtbr0 v).draws = s.draws := rfl

/-! ### `writeTtbcr` -/

@[simp] theorem State.writeTtbcr_cfg (s : State) (v : Word) : (s.writeTtbcr v).cfg = s.cfg := rfl
@[simp] theorem State.writeTtbcr_regs (s : State) (v : Word) : (s.writeTtbcr v).regs = s.regs := rfl
@[simp] theorem State.writeTtbcr_pc (s : State) (v : Word) : (s.writeTtbcr v).pc = s.pc := rfl
@[simp] theorem State.writeTtbcr_cpsr (s : State) (v : Word) : (s.writeTtbcr v).cpsr = s.cpsr := rfl
@[simp] theorem State.writeTtbcr_spsr (s : State) (v : Word) : (s.writeTtbcr v).spsr = s.spsr := rfl
@[simp] theorem State.writeTtbcr_sctlr (s : State) (v : Word) : (s.writeTtbcr v).sctlr = s.sctlr := rfl
@[simp] theorem State.writeTtbcr_ttbr0 (s : State) (v : Word) : (s.writeTtbcr v).ttbr0 = s.ttbr0 := rfl
@[simp] theorem State.writeTtbcr_ttbr0Writes (s : State) (v : Word) :
    (s.writeTtbcr v).ttbr0Writes = s.ttbr0Writes.map fun w => { w with laterN := w.laterN.insert (tableN v) } := rfl
@[simp] theorem State.writeTtbcr_ttbr1 (s : State) (v : Word) : (s.writeTtbcr v).ttbr1 = s.ttbr1 := rfl
@[simp] theorem State.writeTtbcr_ttbcr (s : State) (v : Word) : (s.writeTtbcr v).ttbcr = s.ttbcr.write v := rfl
@[simp] theorem State.writeTtbcr_dacr (s : State) (v : Word) : (s.writeTtbcr v).dacr = s.dacr := rfl
@[simp] theorem State.writeTtbcr_contextId (s : State) (v : Word) :
    (s.writeTtbcr v).contextId = s.contextId := rfl
@[simp] theorem State.writeTtbcr_dfsr (s : State) (v : Word) : (s.writeTtbcr v).dfsr = s.dfsr := rfl
@[simp] theorem State.writeTtbcr_ifsr (s : State) (v : Word) : (s.writeTtbcr v).ifsr = s.ifsr := rfl
@[simp] theorem State.writeTtbcr_far (s : State) (v : Word) : (s.writeTtbcr v).far = s.far := rfl
@[simp] theorem State.writeTtbcr_wfar (s : State) (v : Word) : (s.writeTtbcr v).wfar = s.wfar := rfl
@[simp] theorem State.writeTtbcr_ifar (s : State) (v : Word) : (s.writeTtbcr v).ifar = s.ifar := rfl
@[simp] theorem State.writeTtbcr_tlbD (s : State) (v : Word) : (s.writeTtbcr v).tlbD = s.tlbD := rfl
@[simp] theorem State.writeTtbcr_tlbI (s : State) (v : Word) : (s.writeTtbcr v).tlbI = s.tlbI := rfl
@[simp] theorem State.writeTtbcr_excl (s : State) (v : Word) : (s.writeTtbcr v).excl = s.excl := rfl
@[simp] theorem State.writeTtbcr_pendingImprecise (s : State) (v : Word) :
    (s.writeTtbcr v).pendingImprecise = s.pendingImprecise := rfl
@[simp] theorem State.writeTtbcr_pendingParity (s : State) (v : Word) :
    (s.writeTtbcr v).pendingParity = s.pendingParity := rfl
@[simp] theorem State.writeTtbcr_mem (s : State) (v : Word) : (s.writeTtbcr v).mem = s.mem := rfl
@[simp] theorem State.writeTtbcr_inputs (s : State) (v : Word) : (s.writeTtbcr v).inputs = s.inputs := rfl
@[simp] theorem State.writeTtbcr_responses (s : State) (v : Word) :
    (s.writeTtbcr v).responses = s.responses := rfl
@[simp] theorem State.writeTtbcr_replacements (s : State) (v : Word) :
    (s.writeTtbcr v).replacements = s.replacements := rfl
@[simp] theorem State.writeTtbcr_picks (s : State) (v : Word) : (s.writeTtbcr v).picks = s.picks := rfl
@[simp] theorem State.writeTtbcr_draws (s : State) (v : Word) : (s.writeTtbcr v).draws = s.draws := rfl

/-! ### The corner case of R337 -/

/-- When a walk refuses a value of TTBR0 for its insignificant bits: one is set, and a write of that value has a later N
that is the one in use. -/
theorem ttbr0Insignificant_iff (s : State) (ttbr0 : Word) (n : Nat) :
    s.ttbr0Insignificant ttbr0 n = true
      ↔ ttbr0 &&& bitRange (14 - n) 5 ≠ 0 ∧ ∃ w ∈ s.ttbr0Writes, w.value = ttbr0 ∧ n ∈ w.laterN := by
  simp [State.ttbr0Insignificant]

/-- With no write of TTBR0 on record, as after a Reset, a walk refuses none of its values for insignificant bits. -/
theorem ttbr0Insignificant_of_no_write {s : State} (h : s.ttbr0Writes = []) (ttbr0 : Word) (n : Nat) :
    s.ttbr0Insignificant ttbr0 n = false := by
  simp [State.ttbr0Insignificant, h]

/-- A write of TTBR0 with no write of the TTBCR between it and the synchronisation point is never refused. -/
theorem ttbr0Insignificant_after_write (s : State) (v ttbr0 : Word) (n : Nat) :
    (s.writeTtbr0 v).closeWindows.ttbr0Insignificant ttbr0 n = false := by
  simp [State.ttbr0Insignificant]

/-! ### The record -/

/-- A change of the state that leaves TTBR0 and the record of its writes keeps `Recorded`. -/
theorem State.Recorded.of_same {s t : State} (h : s.Recorded) (h0 : t.ttbr0 = s.ttbr0)
    (hw : t.ttbr0Writes = s.ttbr0Writes) : t.Recorded := by
  simpa only [State.Recorded, h0, hw] using h

theorem recorded_of_no_write {s : State} (h : s.ttbr0Writes = []) : s.Recorded := by
  simp [State.Recorded, h]

theorem State.Recorded.writeTtbr0 {s : State} (h : s.Recorded) (v : Word) : (s.writeTtbr0 v).Recorded := by
  refine ⟨fun w hw => ?_, by simp [Synced.write]⟩
  obtain rfl | hw := List.mem_cons.1 hw
  · simp [Synced.write]
  · exact ⟨List.mem_cons_of_mem _ (h.1 w hw).1, (h.1 w hw).2⟩

theorem State.Recorded.writeTtbcr {s : State} (h : s.Recorded) (v : Word) : (s.writeTtbcr v).Recorded := by
  refine ⟨fun w hw => ?_, fun w hw => ?_⟩
  · obtain ⟨x, hx, rfl⟩ := List.mem_map.1 hw
    refine ⟨(h.1 x hx).1, fun n hn => ?_⟩
    obtain rfl | hn := List.mem_insert_iff.1 hn
    · exact (v.extractLsb' 0 3).isLt
    · exact (h.1 x hx).2 n hn
  · simp only [State.writeTtbcr_ttbr0Writes, List.head?_map, Option.mem_map] at hw
    obtain ⟨x, hx, rfl⟩ := hw
    exact h.2 x hx

theorem State.Recorded.closeWindows {s : State} (h : s.Recorded) : s.closeWindows.Recorded := by
  unfold State.Recorded
  rw [State.closeWindows_ttbr0Writes, State.closeWindows_ttbr0]
  cases hl : s.ttbr0Writes with
  | nil => simp
  | cons x xs =>
    have hx : x.value = s.ttbr0.current := h.2 x (by simp [hl])
    have hn := (h.1 x (by simp [hl])).2
    simpa [Synced.close, hx] using hn

end Sys2Proof.Machine
end

