-- ==== Sys2Proof/Laws/Encoding.lean ====
section
/-!
SUPPORT. The small lemmas of the decoder and the encoder: the nibbles of a word, and the fields that are written and
read back.
-/

namespace Sys2Proof

/-! ### Nibbles -/

/-- A word is its eight nibbles. -/
theorem joinNibbles_nibble (w : Word) :
    joinNibbles (nibble w 7) (nibble w 6) (nibble w 5) (nibble w 4) (nibble w 3) (nibble w 2) (nibble w 1) (nibble w 0)
      = w := by
  unfold joinNibbles nibble
  ext i hi
  simp only [BitVec.getElem_append, BitVec.getElem_extractLsb']
  repeat' split
  all_goals (rw [← BitVec.getLsbD_eq_getElem hi]; congr 1; omega)

@[simp] theorem nibble_zero (n7 n6 n5 n4 n3 n2 n1 n0 : BitVec 4) :
    nibble (joinNibbles n7 n6 n5 n4 n3 n2 n1 n0) 0 = n0 := by
  unfold joinNibbles nibble
  apply BitVec.eq_of_getLsbD_eq
  intro i hi
  have hi : decide (i < 4) = true := by simpa using hi
  simp only [BitVec.getLsbD_extractLsb', BitVec.getLsbD_append, hi, Bool.true_and]
  have hi : i < 4 := by simpa using hi
  repeat' split
  all_goals first
    | (exfalso; omega)
    | (congr 1; omega)

@[simp] theorem nibble_one (n7 n6 n5 n4 n3 n2 n1 n0 : BitVec 4) :
    nibble (joinNibbles n7 n6 n5 n4 n3 n2 n1 n0) 1 = n1 := by
  unfold joinNibbles nibble
  apply BitVec.eq_of_getLsbD_eq
  intro i hi
  have hi : decide (i < 4) = true := by simpa using hi
  simp only [BitVec.getLsbD_extractLsb', BitVec.getLsbD_append, hi, Bool.true_and]
  have hi : i < 4 := by simpa using hi
  repeat' split
  all_goals first
    | (exfalso; omega)
    | (congr 1; omega)

@[simp] theorem nibble_two (n7 n6 n5 n4 n3 n2 n1 n0 : BitVec 4) :
    nibble (joinNibbles n7 n6 n5 n4 n3 n2 n1 n0) 2 = n2 := by
  unfold joinNibbles nibble
  apply BitVec.eq_of_getLsbD_eq
  intro i hi
  have hi : decide (i < 4) = true := by simpa using hi
  simp only [BitVec.getLsbD_extractLsb', BitVec.getLsbD_append, hi, Bool.true_and]
  have hi : i < 4 := by simpa using hi
  repeat' split
  all_goals first
    | (exfalso; omega)
    | (congr 1; omega)

@[simp] theorem nibble_three (n7 n6 n5 n4 n3 n2 n1 n0 : BitVec 4) :
    nibble (joinNibbles n7 n6 n5 n4 n3 n2 n1 n0) 3 = n3 := by
  unfold joinNibbles nibble
  apply BitVec.eq_of_getLsbD_eq
  intro i hi
  have hi : decide (i < 4) = true := by simpa using hi
  simp only [BitVec.getLsbD_extractLsb', BitVec.getLsbD_append, hi, Bool.true_and]
  have hi : i < 4 := by simpa using hi
  repeat' split
  all_goals first
    | (exfalso; omega)
    | (congr 1; omega)

@[simp] theorem nibble_four (n7 n6 n5 n4 n3 n2 n1 n0 : BitVec 4) :
    nibble (joinNibbles n7 n6 n5 n4 n3 n2 n1 n0) 4 = n4 := by
  unfold joinNibbles nibble
  apply BitVec.eq_of_getLsbD_eq
  intro i hi
  have hi : decide (i < 4) = true := by simpa using hi
  simp only [BitVec.getLsbD_extractLsb', BitVec.getLsbD_append, hi, Bool.true_and]
  have hi : i < 4 := by simpa using hi
  repeat' split
  all_goals first
    | (exfalso; omega)
    | (congr 1; omega)

@[simp] theorem nibble_five (n7 n6 n5 n4 n3 n2 n1 n0 : BitVec 4) :
    nibble (joinNibbles n7 n6 n5 n4 n3 n2 n1 n0) 5 = n5 := by
  unfold joinNibbles nibble
  apply BitVec.eq_of_getLsbD_eq
  intro i hi
  have hi : decide (i < 4) = true := by simpa using hi
  simp only [BitVec.getLsbD_extractLsb', BitVec.getLsbD_append, hi, Bool.true_and]
  have hi : i < 4 := by simpa using hi
  repeat' split
  all_goals first
    | (exfalso; omega)
    | (congr 1; omega)

@[simp] theorem nibble_six (n7 n6 n5 n4 n3 n2 n1 n0 : BitVec 4) :
    nibble (joinNibbles n7 n6 n5 n4 n3 n2 n1 n0) 6 = n6 := by
  unfold joinNibbles nibble
  apply BitVec.eq_of_getLsbD_eq
  intro i hi
  have hi : decide (i < 4) = true := by simpa using hi
  simp only [BitVec.getLsbD_extractLsb', BitVec.getLsbD_append, hi, Bool.true_and]
  have hi : i < 4 := by simpa using hi
  repeat' split
  all_goals first
    | (exfalso; omega)
    | (congr 1; omega)

@[simp] theorem nibble_seven (n7 n6 n5 n4 n3 n2 n1 n0 : BitVec 4) :
    nibble (joinNibbles n7 n6 n5 n4 n3 n2 n1 n0) 7 = n7 := by
  unfold joinNibbles nibble
  apply BitVec.eq_of_getLsbD_eq
  intro i hi
  have hi : decide (i < 4) = true := by simpa using hi
  simp only [BitVec.getLsbD_extractLsb', BitVec.getLsbD_append, hi, Bool.true_and]
  have hi : i < 4 := by simpa using hi
  repeat' split
  all_goals first
    | (exfalso; omega)
    | (congr 1; omega)

/-! ### Fields -/

@[simp] theorem Cond.ofBits_bits (c : Cond) : Cond.ofBits c.bits = some c := by cases c <;> rfl

/-- A condition field that decodes is the field of the condition it decodes to. -/
theorem Cond.bits_of_ofBits {b : BitVec 4} {c : Cond} (h : Cond.ofBits b = some c) : c.bits = b := by
  revert h; revert c; revert b; decide

@[simp] theorem Cond.ofBits_ones : Cond.ofBits 0xF#4 = none := rfl

@[simp] theorem Cond.bits_ne_ones (c : Cond) : c.bits ≠ 0xF#4 := by cases c <;> decide

@[simp] theorem ShiftType.ofBits_bits (t : ShiftType) : ShiftType.ofBits t.bits = t := by cases t <;> rfl

@[simp] theorem ShiftType.bits_ofBits (b : BitVec 2) : (ShiftType.ofBits b).bits = b := by revert b; decide

@[simp] theorem IndexMode.ofBits_pw (m : IndexMode) : IndexMode.ofBits m.p m.w = m := by cases m <;> rfl

@[simp] theorem AddrMode4.ofBits_pu (m : AddrMode4) : AddrMode4.ofBits m.p m.u = m := by cases m <;> rfl

@[simp] theorem AddrMode4.p_ofBits (p u : Bool) : (AddrMode4.ofBits p u).p = p := by cases p <;> cases u <;> rfl

@[simp] theorem AddrMode4.u_ofBits (p u : Bool) : (AddrMode4.ofBits p u).u = u := by cases p <;> cases u <;> rfl

/-- The bytes of a word make the word. -/
theorem wordOfBytes_bytes (w : Word) :
    wordOfBytes (w.extractLsb' 0 8) (w.extractLsb' 8 8) (w.extractLsb' 16 8) (w.extractLsb' 24 8) = w := by
  unfold wordOfBytes
  ext i hi
  simp only [BitVec.getElem_append, BitVec.getElem_extractLsb']
  repeat' split
  all_goals (rw [← BitVec.getLsbD_eq_getElem hi]; congr 1; omega)

end Sys2Proof
end

