-- ==== Sys2Proof/Laws/Exec.lean ====
section
/-!
SUPPORT. How the shared operations end an instruction: the condition, the restriction on R15, the advance of the pc,
the destination, a load, a store, and the return from an exception.
-/

namespace Sys2Proof.Machine

open Sys2Proof

/-! ### Conditions and restrictions -/

theorem whenCond_pass {c : Cond} {s : State} (h : condPassed c s.cpsr = true) (body : Out) : whenCond c s body = body := by
  simp [whenCond, h]

theorem whenCond_fail {c : Cond} {s : State} (h : condPassed c s.cpsr = false) (body : Out) :
    whenCond c s body = s.advance := by
  simp [whenCond, h]

theorem withoutPC_ok {regs : List Reg} (h : 15#4 ∉ regs) (body : Out) : withoutPC regs body = body := by
  simp [withoutPC, h]

theorem withoutPC_refused {regs : List Reg} (h : 15#4 ∈ regs) (body : Out) :
    withoutPC regs body = .refused .unpredictableOperands := by
  simp [withoutPC, h]

/-! ### Ends -/

theorem State.advance_next {s : State} (h : s.pc ≠ 0xFFFFFFFC#32) : s.advance = .next { s with pc := s.pc + 4 } := by
  simp [State.advance, h]

/-- The only next state an advance can give. -/
theorem State.advance_eq_next {s t : State} (h : s.advance = .next t) :
    s.pc ≠ 0xFFFFFFFC#32 ∧ t = { s with pc := s.pc + 4 } := by
  unfold State.advance at h
  split at h
  · cases h
  · cases h; exact ⟨‹_›, rfl⟩

theorem State.finish_next {s : State} (h : s.pc ≠ 0xFFFFFFFC#32) (n : Reg) (v : Word) (p : Psr) :
    s.finish n v p = .next { s.writeReg n v with cpsr := p, pc := s.pc + 4 } := by
  simp [State.finish, State.advance, h]

/-- The only next state the end of a one-register instruction can give. -/
theorem State.finish_eq_next {s t : State} {n : Reg} {v : Word} {p : Psr} (h : s.finish n v p = .next t) :
    t = { s.writeReg n v with cpsr := p, pc := s.pc + 4 } := (State.advance_eq_next h).2

theorem State.finishPair_next {s : State} (h : s.pc ≠ 0xFFFFFFFC#32) (hi lo : Reg) (v : BitVec 64) (p : Psr) :
    s.finishPair hi lo v p = .next
      { (s.writeReg hi (v.extractLsb' 32 32)).writeReg lo (v.extractLsb' 0 32) with cpsr := p, pc := s.pc + 4 } := by
  simp [State.finishPair, State.advance, h]

/-- The only next state the end of a long multiply can give. -/
theorem State.finishPair_eq_next {s t : State} {hi lo : Reg} {v : BitVec 64} {p : Psr}
    (h : s.finishPair hi lo v p = .next t) :
    t = { (s.writeReg hi (v.extractLsb' 32 32)).writeReg lo (v.extractLsb' 0 32) with cpsr := p, pc := s.pc + 4 } :=
  (State.advance_eq_next h).2

theorem State.branchExchange_next {s : State} {v : Word} (h : v.extractLsb' 0 2 = 0#2) :
    s.branchExchange v = .next { s with pc := v } := by
  have h0 : v.getLsbD 0 = false := by have := congrArg (fun x : BitVec 2 => x.getLsbD 0) h; simpa using this
  have h1 : v.getLsbD 1 = false := by have := congrArg (fun x : BitVec 2 => x.getLsbD 1) h; simpa using this
  unfold State.branchExchange
  rw [h0, h1]
  rfl

theorem State.branchExchange_thumb {s : State} {v : Word} (h : v.getLsbD 0 = true) :
    s.branchExchange v = .refused .thumbState := by
  simp only [State.branchExchange, h, if_true]

theorem State.branchExchange_unaligned {s : State} {v : Word} (h : v.extractLsb' 0 2 = 2#2) :
    s.branchExchange v = .refused .unpredictableOperands := by
  have h0 : v.getLsbD 0 = false := by have := congrArg (fun x : BitVec 2 => x.getLsbD 0) h; simpa using this
  have h1 : v.getLsbD 1 = true := by have := congrArg (fun x : BitVec 2 => x.getLsbD 1) h; simpa using this
  unfold State.branchExchange
  rw [h0, h1]
  rfl

/-- A return from an exception loads a status register that is legal in this model. -/
theorem State.restore_next {s : State} {p : Psr} (h : p.returnable) (v : Word) :
    s.restore p v = .next { s.closeWindows with cpsr := p, pc := v &&& 0xFFFFFFFC#32 } := by
  obtain ⟨hm, ht, hj⟩ := h
  obtain ⟨m, hm⟩ := Option.isSome_iff_exists.1 hm
  simp [State.restore, hm, ht, hj]

/-- A return that gives a next state has loaded a legal status register. -/
theorem State.restore_eq_next {s t : State} {p : Psr} {v : Word} (h : s.restore p v = .next t) :
    p.returnable ∧ t = { s.closeWindows with cpsr := p, pc := v &&& 0xFFFFFFFC#32 } := by
  unfold State.restore at h
  split at h
  · cases h
  · rename_i hm
    split at h
    · cases h
    · split at h
      · cases h
      · cases h
        exact ⟨⟨by rw [hm]; rfl, by simp_all, by simp_all⟩, rfl⟩

/-! ### Loads and stores -/

/-- The base writeback of the model is the one the statements name. -/
theorem State.writeback_eq (t : State) (idx : IndexMode) (u : Bool) (rn : Reg) (base offset : Word) :
    t.writeback rn (indexWriteback idx u base offset) = t.baseWritten idx u rn base offset := by
  cases idx <;> rfl

theorem writebackAllowed_of {idx : IndexMode} {rn : Reg} {regs : List Reg} (h : BaseAllowed idx rn regs) :
    writebackAllowed idx rn regs = true := by
  cases idx with
  | offset => rfl
  | pre => obtain ⟨h1, h2⟩ := h (by decide); simp [writebackAllowed, h1, h2]
  | post => obtain ⟨h1, h2⟩ := h (by decide); simp [writebackAllowed, h1, h2]

@[simp] theorem State.baseWritten_pc (t : State) (idx : IndexMode) (u : Bool) (rn : Reg) (base offset : Word) :
    (t.baseWritten idx u rn base offset).pc = t.pc := by cases idx <;> rfl

@[simp] theorem State.baseWritten_mode (t : State) (idx : IndexMode) (u : Bool) (rn : Reg) (base offset : Word) :
    (t.baseWritten idx u rn base offset).mode = t.mode := by cases idx <;> rfl

/-- A load whose access completes: the base, then the destination. -/
theorem State.loadForm_ok {s t : State} {idx : IndexMode} {u : Bool} {rn rd : Reg} {offset v : Word}
    {size : AccessSize} {user : Bool} {extend : Word → Word} (hw : BaseAllowed idx rn [rd])
    (h : memRead s (indexAddress idx u (s.readReg rn) offset) size user = .ok v t) :
    s.loadForm idx u rn offset rd size user extend =
      if rd = 15#4 then (t.baseWritten idx u rn (s.readReg rn) offset).branchExchange (extend v)
      else ((t.baseWritten idx u rn (s.readReg rn) offset).writeReg rd (extend v)).advance := by
  simp [State.loadForm, writebackAllowed_of hw, h, Res.finish, State.writeback_eq]

/-- A load whose access aborts. -/
theorem State.loadForm_abort {s t : State} {idx : IndexMode} {u : Bool} {rn rd : Reg} {offset : Word} {a : AbortInfo}
    {size : AccessSize} {user : Bool} {extend : Word → Word} (hw : BaseAllowed idx rn [rd])
    (h : memRead s (indexAddress idx u (s.readReg rn) offset) size user = .abort a t) :
    s.loadForm idx u rn offset rd size user extend = .next (t.dataAbort a) := by
  simp [State.loadForm, writebackAllowed_of hw, h, Res.finish, abortInstruction]

/-- A store whose access completes: then the base. -/
theorem State.storeForm_ok {s t : State} {idx : IndexMode} {u : Bool} {rn rd : Reg} {offset : Word}
    {size : AccessSize} {user : Bool} (hw : BaseAllowed idx rn [rd])
    (h : memWrite s (indexAddress idx u (s.readReg rn) offset) size (s.storedReg rd) user = .ok () t) :
    s.storeForm idx u rn offset rd size user = (t.baseWritten idx u rn (s.readReg rn) offset).advance := by
  simp [State.storeForm, writebackAllowed_of hw, h, Res.finish, State.writeback_eq]

/-- A store whose access aborts. -/
theorem State.storeForm_abort {s t : State} {idx : IndexMode} {u : Bool} {rn rd : Reg} {offset : Word} {a : AbortInfo}
    {size : AccessSize} {user : Bool} (hw : BaseAllowed idx rn [rd])
    (h : memWrite s (indexAddress idx u (s.readReg rn) offset) size (s.storedReg rd) user = .abort a t) :
    s.storeForm idx u rn offset rd size user = .next (t.dataAbort a) := by
  simp [State.storeForm, writebackAllowed_of hw, h, Res.finish, abortInstruction]

/-! ### Recording an abort -/

/-- A Data Abort changes nothing besides the exception entry but the fault registers and the draws. -/
theorem State.dataAbort_eq (s : State) (a : AbortInfo) :
    ∃ d f n, s.dataAbort a = ({ s with
        dfsr := dfsrValue a.write a.fs d
        far := f
        draws := n } : State).takeException .dataAbort (s.pc + 8) ∧ (∀ d', a.domain = some d' → d = d')
      ∧ (a.farValid = true → f = a.mva) := by
  unfold State.dataAbort
  cases h : a.domain <;> cases hv : a.farValid <;>
    exact ⟨_, _, _, rfl, by simp, by simp⟩

/-- A Prefetch Abort changes nothing besides the exception entry but the fault registers. -/
theorem State.prefetchAbort_eq (s : State) (a : AbortInfo) :
    s.prefetchAbort a = ({ s with
      ifsr := ifsrValue a.fs, ifar := if s.cfg.hasIfar then a.mva else s.ifar } : State).takeException
        .prefetchAbort (s.pc + 4) := rfl

end Sys2Proof.Machine
end

