-- ==== Sys2Proof/Laws/PerInstr.lean ====
section
/-!
SUPPORT. A statement about every instruction as syntax, made per constructor: the condition field of its encoding.
-/

namespace Sys2Proof.Laws.ConditionField

open Sys2Proof Sys2Proof.Machine

/-- Bits [31:28] of the encoding are the condition the instruction names (R262, R265). -/
def Statement (i : Instr) : Prop := ∀ k, conditionOf i = some k → nibble (encode i) 7 = k.bits

/-- An instruction that names its condition and is encoded with it. -/
theorem of_encoding {i : Instr} {k : Cond} {n6 n5 n4 n3 n2 n1 n0 : BitVec 4} (hc : conditionOf i = some k)
    (he : encode i = joinNibbles k.bits n6 n5 n4 n3 n2 n1 n0) : Statement i := by
  intro k' h
  rw [hc] at h
  cases h
  rw [he, nibble_seven]

/-- An instruction that names no condition. -/
theorem of_none {i : Instr} (hc : conditionOf i = none) : Statement i := by
  intro k h
  rw [hc] at h
  cases h

theorem cps (imod : BitVec 2) (mmod a i f : Bool) (mode : BitVec 5) : Statement (.cps imod mmod a i f mode) :=
  of_none rfl
theorem setend (e : Bool) : Statement (.setend e) := of_none rfl
theorem pldImm (u : Bool) (rn : Reg) (imm : BitVec 12) : Statement (.pldImm u rn imm) := of_none rfl
theorem pldReg (u : Bool) (rn : Reg) (op : ImmShift) : Statement (.pldReg u rn op) := of_none rfl
theorem srs (am : AddrMode4) (wb : Bool) (mode : BitVec 5) : Statement (.srs am wb mode) := of_none rfl
theorem rfe (am : AddrMode4) (wb : Bool) (rn : Reg) : Statement (.rfe am wb rn) := of_none rfl
theorem blx1 (h : Bool) (imm : BitVec 24) : Statement (.blx1 h imm) := of_none rfl
theorem mcrr2 (rn rd : Reg) (cp op crm : BitVec 4) : Statement (.mcrr2 rn rd cp op crm) := of_none rfl
theorem mrrc2 (rn rd : Reg) (cp op crm : BitVec 4) : Statement (.mrrc2 rn rd cp op crm) := of_none rfl
theorem stc2 (p u n wb : Bool) (rn : Reg) (crd cp : BitVec 4) (off : BitVec 8) :
    Statement (.stc2 p u n wb rn crd cp off) :=
  of_none rfl
theorem ldc2 (p u n wb : Bool) (rn : Reg) (crd cp : BitVec 4) (off : BitVec 8) :
    Statement (.ldc2 p u n wb rn crd cp off) :=
  of_none rfl
theorem cdp2 (op1 crn crd cp : BitVec 4) (op2 : BitVec 3) (crm : BitVec 4) :
    Statement (.cdp2 op1 crn crd cp op2 crm) :=
  of_none rfl
theorem mcr2 (op1 : BitVec 3) (crn : BitVec 4) (rd : Reg) (cp : BitVec 4) (op2 : BitVec 3) (crm : BitVec 4) :
    Statement (.mcr2 op1 crn rd cp op2 crm) :=
  of_none rfl
theorem mrc2 (op1 : BitVec 3) (crn : BitVec 4) (rd : Reg) (cp : BitVec 4) (op2 : BitVec 3) (crm : BitVec 4) :
    Statement (.mrc2 op1 crn rd cp op2 crm) :=
  of_none rfl
theorem mul (c : Cond) (s : Bool) (rd rs rm : Reg) : Statement (.mul c s rd rs rm) := of_encoding rfl rfl
theorem mla (c : Cond) (s : Bool) (rd rn rs rm : Reg) : Statement (.mla c s rd rn rs rm) := of_encoding rfl rfl
theorem umaal (c : Cond) (rdHi rdLo rs rm : Reg) : Statement (.umaal c rdHi rdLo rs rm) := of_encoding rfl rfl
theorem umull (c : Cond) (s : Bool) (rdHi rdLo rs rm : Reg) : Statement (.umull c s rdHi rdLo rs rm) :=
  of_encoding rfl rfl
theorem umlal (c : Cond) (s : Bool) (rdHi rdLo rs rm : Reg) : Statement (.umlal c s rdHi rdLo rs rm) :=
  of_encoding rfl rfl
theorem smull (c : Cond) (s : Bool) (rdHi rdLo rs rm : Reg) : Statement (.smull c s rdHi rdLo rs rm) :=
  of_encoding rfl rfl
theorem smlal (c : Cond) (s : Bool) (rdHi rdLo rs rm : Reg) : Statement (.smlal c s rdHi rdLo rs rm) :=
  of_encoding rfl rfl
theorem swp (c : Cond) (rn rd rm : Reg) : Statement (.swp c rn rd rm) := of_encoding rfl rfl
theorem swpb (c : Cond) (rn rd rm : Reg) : Statement (.swpb c rn rd rm) := of_encoding rfl rfl
theorem strex (c : Cond) (rn rd rm : Reg) : Statement (.strex c rn rd rm) := of_encoding rfl rfl
theorem ldrex (c : Cond) (rn rd : Reg) : Statement (.ldrex c rn rd) := of_encoding rfl rfl
theorem strhReg (c : Cond) (idx : IndexMode) (u : Bool) (rn rd rm : Reg) : Statement (.strhReg c idx u rn rd rm) :=
  of_encoding rfl rfl
theorem strhImm (c : Cond) (idx : IndexMode) (u : Bool) (rn rd : Reg) (off : BitVec 8) :
    Statement (.strhImm c idx u rn rd off) :=
  of_encoding rfl rfl
theorem ldrhReg (c : Cond) (idx : IndexMode) (u : Bool) (rn rd rm : Reg) : Statement (.ldrhReg c idx u rn rd rm) :=
  of_encoding rfl rfl
theorem ldrhImm (c : Cond) (idx : IndexMode) (u : Bool) (rn rd : Reg) (off : BitVec 8) :
    Statement (.ldrhImm c idx u rn rd off) :=
  of_encoding rfl rfl
theorem ldrdReg (c : Cond) (idx : IndexMode) (u : Bool) (rn rd rm : Reg) : Statement (.ldrdReg c idx u rn rd rm) :=
  of_encoding rfl rfl
theorem ldrdImm (c : Cond) (idx : IndexMode) (u : Bool) (rn rd : Reg) (off : BitVec 8) :
    Statement (.ldrdImm c idx u rn rd off) :=
  of_encoding rfl rfl
theorem ldrsbReg (c : Cond) (idx : IndexMode) (u : Bool) (rn rd rm : Reg) : Statement (.ldrsbReg c idx u rn rd rm) :=
  of_encoding rfl rfl
theorem ldrsbImm (c : Cond) (idx : IndexMode) (u : Bool) (rn rd : Reg) (off : BitVec 8) :
    Statement (.ldrsbImm c idx u rn rd off) :=
  of_encoding rfl rfl
theorem strdReg (c : Cond) (idx : IndexMode) (u : Bool) (rn rd rm : Reg) : Statement (.strdReg c idx u rn rd rm) :=
  of_encoding rfl rfl
theorem strdImm (c : Cond) (idx : IndexMode) (u : Bool) (rn rd : Reg) (off : BitVec 8) :
    Statement (.strdImm c idx u rn rd off) :=
  of_encoding rfl rfl
theorem ldrshReg (c : Cond) (idx : IndexMode) (u : Bool) (rn rd rm : Reg) : Statement (.ldrshReg c idx u rn rd rm) :=
  of_encoding rfl rfl
theorem ldrshImm (c : Cond) (idx : IndexMode) (u : Bool) (rn rd : Reg) (off : BitVec 8) :
    Statement (.ldrshImm c idx u rn rd off) :=
  of_encoding rfl rfl
theorem mrs (c : Cond) (r : Bool) (rd : Reg) : Statement (.mrs c r rd) := of_encoding rfl rfl
theorem msrReg (c : Cond) (r : Bool) (mask : BitVec 4) (rm : Reg) : Statement (.msrReg c r mask rm) :=
  of_encoding rfl rfl
theorem bx (c : Cond) (rm : Reg) : Statement (.bx c rm) := of_encoding rfl rfl
theorem clz (c : Cond) (rd rm : Reg) : Statement (.clz c rd rm) := of_encoding rfl rfl
theorem bxj (c : Cond) (rm : Reg) : Statement (.bxj c rm) := of_encoding rfl rfl
theorem blx2 (c : Cond) (rm : Reg) : Statement (.blx2 c rm) := of_encoding rfl rfl
theorem qadd (c : Cond) (rn rd rm : Reg) : Statement (.qadd c rn rd rm) := of_encoding rfl rfl
theorem qsub (c : Cond) (rn rd rm : Reg) : Statement (.qsub c rn rd rm) := of_encoding rfl rfl
theorem qdadd (c : Cond) (rn rd rm : Reg) : Statement (.qdadd c rn rd rm) := of_encoding rfl rfl
theorem qdsub (c : Cond) (rn rd rm : Reg) : Statement (.qdsub c rn rd rm) := of_encoding rfl rfl
theorem bkpt (imm : BitVec 16) : Statement (.bkpt imm) := of_none rfl
theorem smlaxy (c : Cond) (rd rn rs : Reg) (y x : Bool) (rm : Reg) : Statement (.smlaxy c rd rn rs y x rm) :=
  of_encoding rfl rfl
theorem smlawy (c : Cond) (rd rn rs : Reg) (y : Bool) (rm : Reg) : Statement (.smlawy c rd rn rs y rm) :=
  of_encoding rfl rfl
theorem smulwy (c : Cond) (rd rs : Reg) (y : Bool) (rm : Reg) : Statement (.smulwy c rd rs y rm) :=
  of_encoding rfl rfl
theorem smlalxy (c : Cond) (rdHi rdLo rs : Reg) (y x : Bool) (rm : Reg) :
    Statement (.smlalxy c rdHi rdLo rs y x rm) :=
  of_encoding rfl rfl
theorem smulxy (c : Cond) (rd rs : Reg) (y x : Bool) (rm : Reg) : Statement (.smulxy c rd rs y x rm) :=
  of_encoding rfl rfl
theorem andShiftImm (c : Cond) (s : Bool) (rn rd : Reg) (op : ImmShift) : Statement (.andShiftImm c s rn rd op) :=
  of_encoding rfl rfl
theorem eorShiftImm (c : Cond) (s : Bool) (rn rd : Reg) (op : ImmShift) : Statement (.eorShiftImm c s rn rd op) :=
  of_encoding rfl rfl
theorem subShiftImm (c : Cond) (s : Bool) (rn rd : Reg) (op : ImmShift) : Statement (.subShiftImm c s rn rd op) :=
  of_encoding rfl rfl
theorem rsbShiftImm (c : Cond) (s : Bool) (rn rd : Reg) (op : ImmShift) : Statement (.rsbShiftImm c s rn rd op) :=
  of_encoding rfl rfl
theorem addShiftImm (c : Cond) (s : Bool) (rn rd : Reg) (op : ImmShift) : Statement (.addShiftImm c s rn rd op) :=
  of_encoding rfl rfl
theorem adcShiftImm (c : Cond) (s : Bool) (rn rd : Reg) (op : ImmShift) : Statement (.adcShiftImm c s rn rd op) :=
  of_encoding rfl rfl
theorem sbcShiftImm (c : Cond) (s : Bool) (rn rd : Reg) (op : ImmShift) : Statement (.sbcShiftImm c s rn rd op) :=
  of_encoding rfl rfl
theorem rscShiftImm (c : Cond) (s : Bool) (rn rd : Reg) (op : ImmShift) : Statement (.rscShiftImm c s rn rd op) :=
  of_encoding rfl rfl
theorem tstShiftImm (c : Cond) (rn : Reg) (op : ImmShift) : Statement (.tstShiftImm c rn op) := of_encoding rfl rfl
theorem teqShiftImm (c : Cond) (rn : Reg) (op : ImmShift) : Statement (.teqShiftImm c rn op) := of_encoding rfl rfl
theorem cmpShiftImm (c : Cond) (rn : Reg) (op : ImmShift) : Statement (.cmpShiftImm c rn op) := of_encoding rfl rfl
theorem cmnShiftImm (c : Cond) (rn : Reg) (op : ImmShift) : Statement (.cmnShiftImm c rn op) := of_encoding rfl rfl
theorem orrShiftImm (c : Cond) (s : Bool) (rn rd : Reg) (op : ImmShift) : Statement (.orrShiftImm c s rn rd op) :=
  of_encoding rfl rfl
theorem movShiftImm (c : Cond) (s : Bool) (rd : Reg) (op : ImmShift) : Statement (.movShiftImm c s rd op) :=
  of_encoding rfl rfl
theorem bicShiftImm (c : Cond) (s : Bool) (rn rd : Reg) (op : ImmShift) : Statement (.bicShiftImm c s rn rd op) :=
  of_encoding rfl rfl
theorem mvnShiftImm (c : Cond) (s : Bool) (rd : Reg) (op : ImmShift) : Statement (.mvnShiftImm c s rd op) :=
  of_encoding rfl rfl
theorem andShiftReg (c : Cond) (s : Bool) (rn rd : Reg) (op : RegShift) : Statement (.andShiftReg c s rn rd op) :=
  of_encoding rfl rfl
theorem eorShiftReg (c : Cond) (s : Bool) (rn rd : Reg) (op : RegShift) : Statement (.eorShiftReg c s rn rd op) :=
  of_encoding rfl rfl
theorem subShiftReg (c : Cond) (s : Bool) (rn rd : Reg) (op : RegShift) : Statement (.subShiftReg c s rn rd op) :=
  of_encoding rfl rfl
theorem rsbShiftReg (c : Cond) (s : Bool) (rn rd : Reg) (op : RegShift) : Statement (.rsbShiftReg c s rn rd op) :=
  of_encoding rfl rfl
theorem addShiftReg (c : Cond) (s : Bool) (rn rd : Reg) (op : RegShift) : Statement (.addShiftReg c s rn rd op) :=
  of_encoding rfl rfl
theorem adcShiftReg (c : Cond) (s : Bool) (rn rd : Reg) (op : RegShift) : Statement (.adcShiftReg c s rn rd op) :=
  of_encoding rfl rfl
theorem sbcShiftReg (c : Cond) (s : Bool) (rn rd : Reg) (op : RegShift) : Statement (.sbcShiftReg c s rn rd op) :=
  of_encoding rfl rfl
theorem rscShiftReg (c : Cond) (s : Bool) (rn rd : Reg) (op : RegShift) : Statement (.rscShiftReg c s rn rd op) :=
  of_encoding rfl rfl
theorem tstShiftReg (c : Cond) (rn : Reg) (op : RegShift) : Statement (.tstShiftReg c rn op) := of_encoding rfl rfl
theorem teqShiftReg (c : Cond) (rn : Reg) (op : RegShift) : Statement (.teqShiftReg c rn op) := of_encoding rfl rfl
theorem cmpShiftReg (c : Cond) (rn : Reg) (op : RegShift) : Statement (.cmpShiftReg c rn op) := of_encoding rfl rfl
theorem cmnShiftReg (c : Cond) (rn : Reg) (op : RegShift) : Statement (.cmnShiftReg c rn op) := of_encoding rfl rfl
theorem orrShiftReg (c : Cond) (s : Bool) (rn rd : Reg) (op : RegShift) : Statement (.orrShiftReg c s rn rd op) :=
  of_encoding rfl rfl
theorem movShiftReg (c : Cond) (s : Bool) (rd : Reg) (op : RegShift) : Statement (.movShiftReg c s rd op) :=
  of_encoding rfl rfl
theorem bicShiftReg (c : Cond) (s : Bool) (rn rd : Reg) (op : RegShift) : Statement (.bicShiftReg c s rn rd op) :=
  of_encoding rfl rfl
theorem mvnShiftReg (c : Cond) (s : Bool) (rd : Reg) (op : RegShift) : Statement (.mvnShiftReg c s rd op) :=
  of_encoding rfl rfl
theorem msrImm (c : Cond) (r : Bool) (mask : BitVec 4) (op : RotImm) : Statement (.msrImm c r mask op) :=
  of_encoding rfl rfl
theorem andImm (c : Cond) (s : Bool) (rn rd : Reg) (op : RotImm) : Statement (.andImm c s rn rd op) :=
  of_encoding rfl rfl
theorem eorImm (c : Cond) (s : Bool) (rn rd : Reg) (op : RotImm) : Statement (.eorImm c s rn rd op) :=
  of_encoding rfl rfl
theorem subImm (c : Cond) (s : Bool) (rn rd : Reg) (op : RotImm) : Statement (.subImm c s rn rd op) :=
  of_encoding rfl rfl
theorem rsbImm (c : Cond) (s : Bool) (rn rd : Reg) (op : RotImm) : Statement (.rsbImm c s rn rd op) :=
  of_encoding rfl rfl
theorem addImm (c : Cond) (s : Bool) (rn rd : Reg) (op : RotImm) : Statement (.addImm c s rn rd op) :=
  of_encoding rfl rfl
theorem adcImm (c : Cond) (s : Bool) (rn rd : Reg) (op : RotImm) : Statement (.adcImm c s rn rd op) :=
  of_encoding rfl rfl
theorem sbcImm (c : Cond) (s : Bool) (rn rd : Reg) (op : RotImm) : Statement (.sbcImm c s rn rd op) :=
  of_encoding rfl rfl
theorem rscImm (c : Cond) (s : Bool) (rn rd : Reg) (op : RotImm) : Statement (.rscImm c s rn rd op) :=
  of_encoding rfl rfl
theorem tstImm (c : Cond) (rn : Reg) (op : RotImm) : Statement (.tstImm c rn op) := of_encoding rfl rfl
theorem teqImm (c : Cond) (rn : Reg) (op : RotImm) : Statement (.teqImm c rn op) := of_encoding rfl rfl
theorem cmpImm (c : Cond) (rn : Reg) (op : RotImm) : Statement (.cmpImm c rn op) := of_encoding rfl rfl
theorem cmnImm (c : Cond) (rn : Reg) (op : RotImm) : Statement (.cmnImm c rn op) := of_encoding rfl rfl
theorem orrImm (c : Cond) (s : Bool) (rn rd : Reg) (op : RotImm) : Statement (.orrImm c s rn rd op) :=
  of_encoding rfl rfl
theorem movImm (c : Cond) (s : Bool) (rd : Reg) (op : RotImm) : Statement (.movImm c s rd op) := of_encoding rfl rfl
theorem bicImm (c : Cond) (s : Bool) (rn rd : Reg) (op : RotImm) : Statement (.bicImm c s rn rd op) :=
  of_encoding rfl rfl
theorem mvnImm (c : Cond) (s : Bool) (rd : Reg) (op : RotImm) : Statement (.mvnImm c s rd op) := of_encoding rfl rfl
theorem strtImm (c : Cond) (u : Bool) (rn rd : Reg) (imm : BitVec 12) : Statement (.strtImm c u rn rd imm) :=
  of_encoding rfl rfl
theorem ldrtImm (c : Cond) (u : Bool) (rn rd : Reg) (imm : BitVec 12) : Statement (.ldrtImm c u rn rd imm) :=
  of_encoding rfl rfl
theorem strbtImm (c : Cond) (u : Bool) (rn rd : Reg) (imm : BitVec 12) : Statement (.strbtImm c u rn rd imm) :=
  of_encoding rfl rfl
theorem ldrbtImm (c : Cond) (u : Bool) (rn rd : Reg) (imm : BitVec 12) : Statement (.ldrbtImm c u rn rd imm) :=
  of_encoding rfl rfl
theorem strImm (c : Cond) (idx : IndexMode) (u : Bool) (rn rd : Reg) (imm : BitVec 12) :
    Statement (.strImm c idx u rn rd imm) :=
  of_encoding rfl rfl
theorem ldrImm (c : Cond) (idx : IndexMode) (u : Bool) (rn rd : Reg) (imm : BitVec 12) :
    Statement (.ldrImm c idx u rn rd imm) :=
  of_encoding rfl rfl
theorem strbImm (c : Cond) (idx : IndexMode) (u : Bool) (rn rd : Reg) (imm : BitVec 12) :
    Statement (.strbImm c idx u rn rd imm) :=
  of_encoding rfl rfl
theorem ldrbImm (c : Cond) (idx : IndexMode) (u : Bool) (rn rd : Reg) (imm : BitVec 12) :
    Statement (.ldrbImm c idx u rn rd imm) :=
  of_encoding rfl rfl
theorem strtReg (c : Cond) (u : Bool) (rn rd : Reg) (op : ImmShift) : Statement (.strtReg c u rn rd op) :=
  of_encoding rfl rfl
theorem ldrtReg (c : Cond) (u : Bool) (rn rd : Reg) (op : ImmShift) : Statement (.ldrtReg c u rn rd op) :=
  of_encoding rfl rfl
theorem strbtReg (c : Cond) (u : Bool) (rn rd : Reg) (op : ImmShift) : Statement (.strbtReg c u rn rd op) :=
  of_encoding rfl rfl
theorem ldrbtReg (c : Cond) (u : Bool) (rn rd : Reg) (op : ImmShift) : Statement (.ldrbtReg c u rn rd op) :=
  of_encoding rfl rfl
theorem strReg (c : Cond) (idx : IndexMode) (u : Bool) (rn rd : Reg) (op : ImmShift) :
    Statement (.strReg c idx u rn rd op) :=
  of_encoding rfl rfl
theorem ldrReg (c : Cond) (idx : IndexMode) (u : Bool) (rn rd : Reg) (op : ImmShift) :
    Statement (.ldrReg c idx u rn rd op) :=
  of_encoding rfl rfl
theorem strbReg (c : Cond) (idx : IndexMode) (u : Bool) (rn rd : Reg) (op : ImmShift) :
    Statement (.strbReg c idx u rn rd op) :=
  of_encoding rfl rfl
theorem ldrbReg (c : Cond) (idx : IndexMode) (u : Bool) (rn rd : Reg) (op : ImmShift) :
    Statement (.ldrbReg c idx u rn rd op) :=
  of_encoding rfl rfl
theorem sadd16 (c : Cond) (rn rd rm : Reg) : Statement (.sadd16 c rn rd rm) := of_encoding rfl rfl
theorem saddsubx (c : Cond) (rn rd rm : Reg) : Statement (.saddsubx c rn rd rm) := of_encoding rfl rfl
theorem ssubaddx (c : Cond) (rn rd rm : Reg) : Statement (.ssubaddx c rn rd rm) := of_encoding rfl rfl
theorem ssub16 (c : Cond) (rn rd rm : Reg) : Statement (.ssub16 c rn rd rm) := of_encoding rfl rfl
theorem sadd8 (c : Cond) (rn rd rm : Reg) : Statement (.sadd8 c rn rd rm) := of_encoding rfl rfl
theorem ssub8 (c : Cond) (rn rd rm : Reg) : Statement (.ssub8 c rn rd rm) := of_encoding rfl rfl
theorem qadd16 (c : Cond) (rn rd rm : Reg) : Statement (.qadd16 c rn rd rm) := of_encoding rfl rfl
theorem qaddsubx (c : Cond) (rn rd rm : Reg) : Statement (.qaddsubx c rn rd rm) := of_encoding rfl rfl
theorem qsubaddx (c : Cond) (rn rd rm : Reg) : Statement (.qsubaddx c rn rd rm) := of_encoding rfl rfl
theorem qsub16 (c : Cond) (rn rd rm : Reg) : Statement (.qsub16 c rn rd rm) := of_encoding rfl rfl
theorem qadd8 (c : Cond) (rn rd rm : Reg) : Statement (.qadd8 c rn rd rm) := of_encoding rfl rfl
theorem qsub8 (c : Cond) (rn rd rm : Reg) : Statement (.qsub8 c rn rd rm) := of_encoding rfl rfl
theorem shadd16 (c : Cond) (rn rd rm : Reg) : Statement (.shadd16 c rn rd rm) := of_encoding rfl rfl
theorem shaddsubx (c : Cond) (rn rd rm : Reg) : Statement (.shaddsubx c rn rd rm) := of_encoding rfl rfl
theorem shsubaddx (c : Cond) (rn rd rm : Reg) : Statement (.shsubaddx c rn rd rm) := of_encoding rfl rfl
theorem shsub16 (c : Cond) (rn rd rm : Reg) : Statement (.shsub16 c rn rd rm) := of_encoding rfl rfl
theorem shadd8 (c : Cond) (rn rd rm : Reg) : Statement (.shadd8 c rn rd rm) := of_encoding rfl rfl
theorem shsub8 (c : Cond) (rn rd rm : Reg) : Statement (.shsub8 c rn rd rm) := of_encoding rfl rfl
theorem uadd16 (c : Cond) (rn rd rm : Reg) : Statement (.uadd16 c rn rd rm) := of_encoding rfl rfl
theorem uaddsubx (c : Cond) (rn rd rm : Reg) : Statement (.uaddsubx c rn rd rm) := of_encoding rfl rfl
theorem usubaddx (c : Cond) (rn rd rm : Reg) : Statement (.usubaddx c rn rd rm) := of_encoding rfl rfl
theorem usub16 (c : Cond) (rn rd rm : Reg) : Statement (.usub16 c rn rd rm) := of_encoding rfl rfl
theorem uadd8 (c : Cond) (rn rd rm : Reg) : Statement (.uadd8 c rn rd rm) := of_encoding rfl rfl
theorem usub8 (c : Cond) (rn rd rm : Reg) : Statement (.usub8 c rn rd rm) := of_encoding rfl rfl
theorem uqadd16 (c : Cond) (rn rd rm : Reg) : Statement (.uqadd16 c rn rd rm) := of_encoding rfl rfl
theorem uqaddsubx (c : Cond) (rn rd rm : Reg) : Statement (.uqaddsubx c rn rd rm) := of_encoding rfl rfl
theorem uqsubaddx (c : Cond) (rn rd rm : Reg) : Statement (.uqsubaddx c rn rd rm) := of_encoding rfl rfl
theorem uqsub16 (c : Cond) (rn rd rm : Reg) : Statement (.uqsub16 c rn rd rm) := of_encoding rfl rfl
theorem uqadd8 (c : Cond) (rn rd rm : Reg) : Statement (.uqadd8 c rn rd rm) := of_encoding rfl rfl
theorem uqsub8 (c : Cond) (rn rd rm : Reg) : Statement (.uqsub8 c rn rd rm) := of_encoding rfl rfl
theorem uhadd16 (c : Cond) (rn rd rm : Reg) : Statement (.uhadd16 c rn rd rm) := of_encoding rfl rfl
theorem uhaddsubx (c : Cond) (rn rd rm : Reg) : Statement (.uhaddsubx c rn rd rm) := of_encoding rfl rfl
theorem uhsubaddx (c : Cond) (rn rd rm : Reg) : Statement (.uhsubaddx c rn rd rm) := of_encoding rfl rfl
theorem uhsub16 (c : Cond) (rn rd rm : Reg) : Statement (.uhsub16 c rn rd rm) := of_encoding rfl rfl
theorem uhadd8 (c : Cond) (rn rd rm : Reg) : Statement (.uhadd8 c rn rd rm) := of_encoding rfl rfl
theorem uhsub8 (c : Cond) (rn rd rm : Reg) : Statement (.uhsub8 c rn rd rm) := of_encoding rfl rfl
theorem pkhbt (c : Cond) (rn rd : Reg) (imm : BitVec 5) (rm : Reg) : Statement (.pkhbt c rn rd imm rm) :=
  of_encoding rfl rfl
theorem pkhtb (c : Cond) (rn rd : Reg) (imm : BitVec 5) (rm : Reg) : Statement (.pkhtb c rn rd imm rm) :=
  of_encoding rfl rfl
theorem ssat (c : Cond) (sat : BitVec 5) (rd : Reg) (imm : BitVec 5) (sh : Bool) (rm : Reg) :
    Statement (.ssat c sat rd imm sh rm) :=
  of_encoding rfl rfl
theorem usat (c : Cond) (sat : BitVec 5) (rd : Reg) (imm : BitVec 5) (sh : Bool) (rm : Reg) :
    Statement (.usat c sat rd imm sh rm) :=
  of_encoding rfl rfl
theorem ssat16 (c : Cond) (sat : BitVec 4) (rd rm : Reg) : Statement (.ssat16 c sat rd rm) := of_encoding rfl rfl
theorem usat16 (c : Cond) (sat : BitVec 4) (rd rm : Reg) : Statement (.usat16 c sat rd rm) := of_encoding rfl rfl
theorem rev (c : Cond) (rd rm : Reg) : Statement (.rev c rd rm) := of_encoding rfl rfl
theorem rev16 (c : Cond) (rd rm : Reg) : Statement (.rev16 c rd rm) := of_encoding rfl rfl
theorem revsh (c : Cond) (rd rm : Reg) : Statement (.revsh c rd rm) := of_encoding rfl rfl
theorem sel (c : Cond) (rn rd rm : Reg) : Statement (.sel c rn rd rm) := of_encoding rfl rfl
theorem sxtb16 (c : Cond) (rd : Reg) (rot : BitVec 2) (rm : Reg) : Statement (.sxtb16 c rd rot rm) :=
  of_encoding rfl rfl
theorem sxtab16 (c : Cond) (rn rd : Reg) (rot : BitVec 2) (rm : Reg) : Statement (.sxtab16 c rn rd rot rm) :=
  of_encoding rfl rfl
theorem sxtb (c : Cond) (rd : Reg) (rot : BitVec 2) (rm : Reg) : Statement (.sxtb c rd rot rm) := of_encoding rfl rfl
theorem sxtab (c : Cond) (rn rd : Reg) (rot : BitVec 2) (rm : Reg) : Statement (.sxtab c rn rd rot rm) :=
  of_encoding rfl rfl
theorem sxth (c : Cond) (rd : Reg) (rot : BitVec 2) (rm : Reg) : Statement (.sxth c rd rot rm) := of_encoding rfl rfl
theorem sxtah (c : Cond) (rn rd : Reg) (rot : BitVec 2) (rm : Reg) : Statement (.sxtah c rn rd rot rm) :=
  of_encoding rfl rfl
theorem uxtb16 (c : Cond) (rd : Reg) (rot : BitVec 2) (rm : Reg) : Statement (.uxtb16 c rd rot rm) :=
  of_encoding rfl rfl
theorem uxtab16 (c : Cond) (rn rd : Reg) (rot : BitVec 2) (rm : Reg) : Statement (.uxtab16 c rn rd rot rm) :=
  of_encoding rfl rfl
theorem uxtb (c : Cond) (rd : Reg) (rot : BitVec 2) (rm : Reg) : Statement (.uxtb c rd rot rm) := of_encoding rfl rfl
theorem uxtab (c : Cond) (rn rd : Reg) (rot : BitVec 2) (rm : Reg) : Statement (.uxtab c rn rd rot rm) :=
  of_encoding rfl rfl
theorem uxth (c : Cond) (rd : Reg) (rot : BitVec 2) (rm : Reg) : Statement (.uxth c rd rot rm) := of_encoding rfl rfl
theorem uxtah (c : Cond) (rn rd : Reg) (rot : BitVec 2) (rm : Reg) : Statement (.uxtah c rn rd rot rm) :=
  of_encoding rfl rfl
theorem smuad (c : Cond) (rd rs : Reg) (x : Bool) (rm : Reg) : Statement (.smuad c rd rs x rm) := of_encoding rfl rfl
theorem smlad (c : Cond) (rd rn rs : Reg) (x : Bool) (rm : Reg) : Statement (.smlad c rd rn rs x rm) :=
  of_encoding rfl rfl
theorem smusd (c : Cond) (rd rs : Reg) (x : Bool) (rm : Reg) : Statement (.smusd c rd rs x rm) := of_encoding rfl rfl
theorem smlsd (c : Cond) (rd rn rs : Reg) (x : Bool) (rm : Reg) : Statement (.smlsd c rd rn rs x rm) :=
  of_encoding rfl rfl
theorem smlald (c : Cond) (rdHi rdLo rs : Reg) (x : Bool) (rm : Reg) : Statement (.smlald c rdHi rdLo rs x rm) :=
  of_encoding rfl rfl
theorem smlsld (c : Cond) (rdHi rdLo rs : Reg) (x : Bool) (rm : Reg) : Statement (.smlsld c rdHi rdLo rs x rm) :=
  of_encoding rfl rfl
theorem smmul (c : Cond) (rd rs : Reg) (r : Bool) (rm : Reg) : Statement (.smmul c rd rs r rm) := of_encoding rfl rfl
theorem smmla (c : Cond) (rd rn rs : Reg) (r : Bool) (rm : Reg) : Statement (.smmla c rd rn rs r rm) :=
  of_encoding rfl rfl
theorem smmls (c : Cond) (rd rn rs : Reg) (r : Bool) (rm : Reg) : Statement (.smmls c rd rn rs r rm) :=
  of_encoding rfl rfl
theorem usad8 (c : Cond) (rd rs rm : Reg) : Statement (.usad8 c rd rs rm) := of_encoding rfl rfl
theorem usada8 (c : Cond) (rd rn rs rm : Reg) : Statement (.usada8 c rd rn rs rm) := of_encoding rfl rfl
theorem ldm1 (c : Cond) (am : AddrMode4) (wb : Bool) (rn : Reg) (list : BitVec 16) :
    Statement (.ldm1 c am wb rn list) :=
  of_encoding rfl rfl
theorem ldm3 (c : Cond) (am : AddrMode4) (wb : Bool) (rn : Reg) (list : BitVec 15) :
    Statement (.ldm3 c am wb rn list) :=
  of_encoding rfl rfl
theorem ldm2 (c : Cond) (am : AddrMode4) (wb : Bool) (rn : Reg) (list : BitVec 15) :
    Statement (.ldm2 c am wb rn list) :=
  of_encoding rfl rfl
theorem stm1 (c : Cond) (am : AddrMode4) (wb : Bool) (rn : Reg) (list : BitVec 16) :
    Statement (.stm1 c am wb rn list) :=
  of_encoding rfl rfl
theorem stm2 (c : Cond) (am : AddrMode4) (wb : Bool) (rn : Reg) (list : BitVec 16) :
    Statement (.stm2 c am wb rn list) :=
  of_encoding rfl rfl
theorem b (c : Cond) (imm : BitVec 24) : Statement (.b c imm) := of_encoding rfl rfl
theorem bl (c : Cond) (imm : BitVec 24) : Statement (.bl c imm) := of_encoding rfl rfl
theorem mcrr (c : Cond) (rn rd : Reg) (cp op crm : BitVec 4) : Statement (.mcrr c rn rd cp op crm) :=
  of_encoding rfl rfl
theorem mrrc (c : Cond) (rn rd : Reg) (cp op crm : BitVec 4) : Statement (.mrrc c rn rd cp op crm) :=
  of_encoding rfl rfl
theorem stc (c : Cond) (p u n wb : Bool) (rn : Reg) (crd cp : BitVec 4) (off : BitVec 8) :
    Statement (.stc c p u n wb rn crd cp off) :=
  of_encoding rfl rfl
theorem ldc (c : Cond) (p u n wb : Bool) (rn : Reg) (crd cp : BitVec 4) (off : BitVec 8) :
    Statement (.ldc c p u n wb rn crd cp off) :=
  of_encoding rfl rfl
theorem cdp (c : Cond) (op1 crn crd cp : BitVec 4) (op2 : BitVec 3) (crm : BitVec 4) :
    Statement (.cdp c op1 crn crd cp op2 crm) :=
  of_encoding rfl rfl
theorem mcr (c : Cond) (op1 : BitVec 3) (crn : BitVec 4) (rd : Reg) (cp : BitVec 4) (op2 : BitVec 3) (crm : BitVec 4) :
    Statement (.mcr c op1 crn rd cp op2 crm) :=
  of_encoding rfl rfl
theorem mrc (c : Cond) (op1 : BitVec 3) (crn : BitVec 4) (rd : Reg) (cp : BitVec 4) (op2 : BitVec 3) (crm : BitVec 4) :
    Statement (.mrc c op1 crn rd cp op2 crm) :=
  of_encoding rfl rfl
theorem swi (c : Cond) (imm : BitVec 24) : Statement (.swi c imm) := of_encoding rfl rfl
theorem undefinedWord (w : Word) : Statement (.undefinedWord w) := of_none rfl
theorem unpredictableWord (w : Word) : Statement (.unpredictableWord w) := of_none rfl

end Sys2Proof.Laws.ConditionField
end

