-- ==== Sys2Proof/Tests/Slice0.lean ====
section
/-!
SUPPORT. The model's own tests: the well-formedness checks, the decoding of every constructor, one step of many
instructions against the vectors of the spec, and for each statement a state that meets its hypotheses.
-/

namespace Sys2Proof.Machine

open Sys2Proof

/-! ### Well-formedness: what each check refuses -/

/-- Rn = R15 names the form without addition (R292, R294). -/
theorem test_wellFormed_accumulate :
    (Instr.sxtab16 .al 15#4 0#4 0#2 1#4).wellFormed = false ∧ (Instr.uxtab16 .al 15#4 0#4 0#2 1#4).wellFormed = false
      ∧ (Instr.sxtab .al 15#4 0#4 0#2 1#4).wellFormed = false ∧ (Instr.uxtab .al 15#4 0#4 0#2 1#4).wellFormed = false
      ∧ (Instr.sxtah .al 15#4 0#4 0#2 1#4).wellFormed = false ∧ (Instr.uxtah .al 15#4 0#4 0#2 1#4).wellFormed = false
      ∧ (Instr.smlad .al 0#4 15#4 1#4 false 2#4).wellFormed = false
      ∧ (Instr.smlsd .al 0#4 15#4 1#4 false 2#4).wellFormed = false
      ∧ (Instr.smmla .al 0#4 15#4 1#4 false 2#4).wellFormed = false
      ∧ (Instr.usada8 .al 0#4 15#4 1#4 2#4).wellFormed = false := by
  decide

/-- A coprocessor load or store with P = U = W = 0 has no encoding (R298). -/
theorem test_wellFormed_coprocessor :
    (Instr.ldc .al false false true false 1#4 2#4 3#4 4#8).wellFormed = false
      ∧ (Instr.stc .al false false true false 1#4 2#4 3#4 4#8).wellFormed = false
      ∧ (Instr.ldc2 false false true false 1#4 2#4 3#4 4#8).wellFormed = false
      ∧ (Instr.stc2 false false true false 1#4 2#4 3#4 4#8).wellFormed = false := by
  decide

/-! ### Decoding: the words are filled in from the patterns of opcode_table.json -/

theorem test_decode_1 :
    decode 0xF102010C#32 = .cps 0#2 true true false false 12#5
      ∧ decode 0xF1010000#32 = .setend false
      ∧ decode 0xF5D1FD23#32 = .pldImm true 1#4 3363#12
      ∧ decode 0xF7D8F0A9#32 = .pldReg true 8#4 ⟨1#5, .lsr, 9#4⟩
      ∧ decode 0xF84D0501#32 = .srs .da false 1#5
      ∧ decode 0xF8110A00#32 = .rfe .da false 1#4
      ∧ decode 0xFB6CAD4A#32 = .blx1 true 7122250#24
      ∧ decode 0xFC491DF0#32 = .mcrr2 9#4 1#4 13#4 15#4 0#4
      ∧ decode 0xFC5A9AF3#32 = .mrrc2 10#4 9#4 10#4 15#4 3#4
      ∧ decode 0xFD009965#32 = .stc2 true false false false 0#4 9#4 9#4 101#8
      ∧ decode 0xFCB12D4A#32 = .ldc2 false true false true 1#4 2#4 13#4 74#8
      ∧ decode 0xFE289A4D#32 = .cdp2 2#4 8#4 9#4 10#4 2#3 13#4 := by
  decide

theorem test_decode_2 :
    decode 0xFE493A19#32 = .mcr2 2#3 9#4 3#4 10#4 0#3 9#4
      ∧ decode 0xFE18911B#32 = .mrc2 0#3 8#4 9#4 1#4 0#3 11#4
      ∧ decode 0x90170A93#32 = .mul .ls true 7#4 10#4 3#4
      ∧ decode 0x603EC795#32 = .mla .vs true 14#4 12#4 7#4 5#4
      ∧ decode 0x5047C394#32 = .umaal .pl 7#4 12#4 3#4 4#4
      ∧ decode 0xB092139C#32 = .umull .lt true 2#4 1#4 3#4 12#4
      ∧ decode 0x80B45E97#32 = .umlal .hi true 4#4 5#4 14#4 7#4
      ∧ decode 0x40D71199#32 = .smull .mi true 7#4 1#4 1#4 9#4
      ∧ decode 0x20F6259C#32 = .smlal .cs true 6#4 2#4 5#4 12#4
      ∧ decode 0x7100A096#32 = .swp .vc 0#4 10#4 6#4
      ∧ decode 0x1148909C#32 = .swpb .ne 8#4 9#4 12#4
      ∧ decode 0xC18D5F9E#32 = .strex .gt 13#4 5#4 14#4 := by
  decide

theorem test_decode_3 :
    decode 0x519B5F9F#32 = .ldrex .pl 11#4 5#4
      ∧ decode 0x7121D0B9#32 = .strhReg .vc .pre false 1#4 13#4 9#4
      ∧ decode 0x4140BBB7#32 = .strhImm .mi .offset false 0#4 11#4 183#8
      ∧ decode 0x41BAD0BA#32 = .ldrhReg .mi .pre true 10#4 13#4 10#4
      ∧ decode 0x41D506BB#32 = .ldrhImm .mi .offset true 5#4 0#4 107#8
      ∧ decode 0x300B30DC#32 = .ldrdReg .cc .post false 11#4 3#4 12#4
      ∧ decode 0x60427DDE#32 = .ldrdImm .vs .post false 2#4 7#4 222#8
      ∧ decode 0x811D60D4#32 = .ldrsbReg .hi .offset false 13#4 6#4 4#4
      ∧ decode 0xA0D920D3#32 = .ldrsbImm .ge .post true 9#4 2#4 3#8
      ∧ decode 0x400850F0#32 = .strdReg .mi .post false 8#4 5#4 0#4
      ∧ decode 0x9167EAFA#32 = .strdImm .ls .pre false 7#4 14#4 170#8
      ∧ decode 0xC1B860FD#32 = .ldrshReg .gt .pre true 8#4 6#4 13#4 := by
  decide

theorem test_decode_4 :
    decode 0x60D601F6#32 = .ldrshImm .vs .post true 6#4 0#4 22#8
      ∧ decode 0x310F3000#32 = .mrs .cc false 3#4
      ∧ decode 0x2127F001#32 = .msrReg .cs false 7#4 1#4
      ∧ decode 0x912FFF10#32 = .bx .ls 0#4
      ∧ decode 0x116F9F10#32 = .clz .ne 9#4 0#4
      ∧ decode 0x212FFF28#32 = .bxj .cs 8#4
      ∧ decode 0x112FFF35#32 = .blx2 .ne 5#4
      ∧ decode 0x9101D050#32 = .qadd .ls 1#4 13#4 0#4
      ∧ decode 0x31262059#32 = .qsub .cc 6#4 2#4 9#4
      ∧ decode 0xA1459054#32 = .qdadd .ge 5#4 9#4 4#4
      ∧ decode 0x51611057#32 = .qdsub .pl 1#4 1#4 7#4
      ∧ decode 0xE127CF7D#32 = .bkpt 31997#16 := by
  decide

theorem test_decode_5 :
    decode 0x71021487#32 = .smlaxy .vc 2#4 1#4 4#4 false false 7#4
      ∧ decode 0xB12D74C5#32 = .smlawy .lt 13#4 7#4 4#4 true 5#4
      ∧ decode 0xB12003E2#32 = .smulwy .lt 0#4 3#4 true 2#4
      ∧ decode 0x5148E8C2#32 = .smlalxy .pl 8#4 14#4 8#4 true false 2#4
      ∧ decode 0xC16A0D88#32 = .smulxy .gt 10#4 13#4 false false 8#4
      ∧ decode 0xD01425C8#32 = .andShiftImm .le true 4#4 2#4 ⟨11#5, .asr, 8#4⟩
      ∧ decode 0xC03388A8#32 = .eorShiftImm .gt true 3#4 8#4 ⟨17#5, .lsr, 8#4⟩
      ∧ decode 0xA053CCA9#32 = .subShiftImm .ge true 3#4 12#4 ⟨25#5, .lsr, 9#4⟩
      ∧ decode 0x306CBD63#32 = .rsbShiftImm .cc false 12#4 11#4 ⟨26#5, .ror, 3#4⟩
      ∧ decode 0x3083B7E8#32 = .addShiftImm .cc false 3#4 11#4 ⟨15#5, .ror, 8#4⟩
      ∧ decode 0x00AC3784#32 = .adcShiftImm .eq false 12#4 3#4 ⟨15#5, .lsl, 4#4⟩
      ∧ decode 0x90D5BCC7#32 = .sbcShiftImm .ls true 5#4 11#4 ⟨25#5, .asr, 7#4⟩ := by
  decide

theorem test_decode_6 :
    decode 0x50E533E1#32 = .rscShiftImm .pl false 5#4 3#4 ⟨7#5, .ror, 1#4⟩
      ∧ decode 0x31170325#32 = .tstShiftImm .cc 7#4 ⟨6#5, .lsr, 5#4⟩
      ∧ decode 0xE1300D49#32 = .teqShiftImm .al 0#4 ⟨26#5, .asr, 9#4⟩
      ∧ decode 0xE15C05AA#32 = .cmpShiftImm .al 12#4 ⟨11#5, .lsr, 10#4⟩
      ∧ decode 0x11710ACD#32 = .cmnShiftImm .ne 1#4 ⟨21#5, .asr, 13#4⟩
      ∧ decode 0x618C7C6B#32 = .orrShiftImm .vs false 12#4 7#4 ⟨24#5, .ror, 11#4⟩
      ∧ decode 0x21A0ACE6#32 = .movShiftImm .cs false 10#4 ⟨25#5, .ror, 6#4⟩
      ∧ decode 0xC1CBB706#32 = .bicShiftImm .gt false 11#4 11#4 ⟨14#5, .lsl, 6#4⟩
      ∧ decode 0x11F022EB#32 = .mvnShiftImm .ne true 2#4 ⟨5#5, .ror, 11#4⟩
      ∧ decode 0x0002CE19#32 = .andShiftReg .eq false 2#4 12#4 ⟨14#4, .lsl, 9#4⟩
      ∧ decode 0x2039795D#32 = .eorShiftReg .cs true 9#4 7#4 ⟨9#4, .asr, 13#4⟩
      ∧ decode 0xE0552852#32 = .subShiftReg .al true 5#4 2#4 ⟨8#4, .asr, 2#4⟩ := by
  decide

theorem test_decode_7 :
    decode 0x006C8A1B#32 = .rsbShiftReg .eq false 12#4 8#4 ⟨10#4, .lsl, 11#4⟩
      ∧ decode 0xE082DD56#32 = .addShiftReg .al false 2#4 13#4 ⟨13#4, .asr, 6#4⟩
      ∧ decode 0x30A08374#32 = .adcShiftReg .cc false 0#4 8#4 ⟨3#4, .ror, 4#4⟩
      ∧ decode 0xC0D96415#32 = .sbcShiftReg .gt true 9#4 6#4 ⟨4#4, .lsl, 5#4⟩
      ∧ decode 0x20E0EB7E#32 = .rscShiftReg .cs false 0#4 14#4 ⟨11#4, .ror, 14#4⟩
      ∧ decode 0xA11E0D39#32 = .tstShiftReg .ge 14#4 ⟨13#4, .lsr, 9#4⟩
      ∧ decode 0x613E0E5D#32 = .teqShiftReg .vs 14#4 ⟨14#4, .asr, 13#4⟩
      ∧ decode 0x21580258#32 = .cmpShiftReg .cs 8#4 ⟨2#4, .asr, 8#4⟩
      ∧ decode 0x017C075D#32 = .cmnShiftReg .eq 12#4 ⟨7#4, .asr, 13#4⟩
      ∧ decode 0x91802C1C#32 = .orrShiftReg .ls false 0#4 2#4 ⟨12#4, .lsl, 12#4⟩
      ∧ decode 0x71B0B119#32 = .movShiftReg .vc true 11#4 ⟨1#4, .lsl, 9#4⟩
      ∧ decode 0x51DA7818#32 = .bicShiftReg .pl true 10#4 7#4 ⟨8#4, .lsl, 8#4⟩ := by
  decide

theorem test_decode_8 :
    decode 0xC1E0E871#32 = .mvnShiftReg .gt false 14#4 ⟨8#4, .ror, 1#4⟩
      ∧ decode 0x3323FC46#32 = .msrImm .cc false 3#4 ⟨12#4, 70#8⟩
      ∧ decode 0x1208C78F#32 = .andImm .ne false 8#4 12#4 ⟨7#4, 143#8⟩
      ∧ decode 0xE22E9171#32 = .eorImm .al false 14#4 9#4 ⟨1#4, 113#8⟩
      ∧ decode 0x82594833#32 = .subImm .hi true 9#4 4#4 ⟨8#4, 51#8⟩
      ∧ decode 0x726888CE#32 = .rsbImm .vc false 8#4 8#4 ⟨8#4, 206#8⟩
      ∧ decode 0x329BE8E0#32 = .addImm .cc true 11#4 14#4 ⟨8#4, 224#8⟩
      ∧ decode 0x42BE38E4#32 = .adcImm .mi true 14#4 3#4 ⟨8#4, 228#8⟩
      ∧ decode 0xD2C7626A#32 = .sbcImm .le false 7#4 6#4 ⟨2#4, 106#8⟩
      ∧ decode 0x72E561AB#32 = .rscImm .vc false 5#4 6#4 ⟨1#4, 171#8⟩
      ∧ decode 0x131403AB#32 = .tstImm .ne 4#4 ⟨3#4, 171#8⟩
      ∧ decode 0xC33C01E5#32 = .teqImm .gt 12#4 ⟨1#4, 229#8⟩ := by
  decide

theorem test_decode_9 :
    decode 0x235A0FB7#32 = .cmpImm .cs 10#4 ⟨15#4, 183#8⟩
      ∧ decode 0xA3740524#32 = .cmnImm .ge 4#4 ⟨5#4, 36#8⟩
      ∧ decode 0xE382BF77#32 = .orrImm .al false 2#4 11#4 ⟨15#4, 119#8⟩
      ∧ decode 0x13A076E2#32 = .movImm .ne false 7#4 ⟨6#4, 226#8⟩
      ∧ decode 0xA3DD6329#32 = .bicImm .ge true 13#4 6#4 ⟨3#4, 41#8⟩
      ∧ decode 0x83E06656#32 = .mvnImm .hi false 6#4 ⟨6#4, 86#8⟩
      ∧ decode 0x542B5518#32 = .strtImm .pl false 11#4 5#4 1304#12
      ∧ decode 0x04B77568#32 = .ldrtImm .eq true 7#4 7#4 1384#12
      ∧ decode 0xB465804A#32 = .strbtImm .lt false 5#4 8#4 74#12
      ∧ decode 0x94F114BA#32 = .ldrbtImm .ls true 1#4 1#4 1210#12
      ∧ decode 0x448C2459#32 = .strImm .mi .post true 12#4 2#4 1113#12
      ∧ decode 0xC51DE212#32 = .ldrImm .gt .offset false 13#4 14#4 530#12 := by
  decide

theorem test_decode_10 :
    decode 0x0546ECCB#32 = .strbImm .eq .offset false 6#4 14#4 3275#12
      ∧ decode 0x44D1CF03#32 = .ldrbImm .mi .post true 1#4 12#4 3843#12
      ∧ decode 0x16214DA9#32 = .strtReg .ne false 1#4 4#4 ⟨27#5, .lsr, 9#4⟩
      ∧ decode 0x16386067#32 = .ldrtReg .ne false 8#4 6#4 ⟨0#5, .ror, 7#4⟩
      ∧ decode 0xE66089E4#32 = .strbtReg .al false 0#4 8#4 ⟨19#5, .ror, 4#4⟩
      ∧ decode 0x36740FC1#32 = .ldrbtReg .cc false 4#4 0#4 ⟨31#5, .asr, 1#4⟩
      ∧ decode 0xE68C3A04#32 = .strReg .al .post true 12#4 3#4 ⟨20#5, .lsl, 4#4⟩
      ∧ decode 0x861C02AA#32 = .ldrReg .hi .post false 12#4 0#4 ⟨5#5, .lsr, 10#4⟩
      ∧ decode 0x07E83020#32 = .strbReg .eq .pre true 8#4 3#4 ⟨0#5, .lsr, 0#4⟩
      ∧ decode 0x77584D48#32 = .ldrbReg .vc .offset false 8#4 4#4 ⟨26#5, .asr, 8#4⟩
      ∧ decode 0xB6135F13#32 = .sadd16 .lt 3#4 5#4 3#4
      ∧ decode 0x361EBF3D#32 = .saddsubx .cc 14#4 11#4 13#4 := by
  decide

theorem test_decode_11 :
    decode 0xB6126F5A#32 = .ssubaddx .lt 2#4 6#4 10#4
      ∧ decode 0x561D2F70#32 = .ssub16 .pl 13#4 2#4 0#4
      ∧ decode 0x061ABF91#32 = .sadd8 .eq 10#4 11#4 1#4
      ∧ decode 0xE6162FF4#32 = .ssub8 .al 6#4 2#4 4#4
      ∧ decode 0x062ADF11#32 = .qadd16 .eq 10#4 13#4 1#4
      ∧ decode 0x6628AF3D#32 = .qaddsubx .vs 8#4 10#4 13#4
      ∧ decode 0x4623BF59#32 = .qsubaddx .mi 3#4 11#4 9#4
      ∧ decode 0x46272F70#32 = .qsub16 .mi 7#4 2#4 0#4
      ∧ decode 0x26270F94#32 = .qadd8 .cs 7#4 0#4 4#4
      ∧ decode 0x46258FF5#32 = .qsub8 .mi 5#4 8#4 5#4
      ∧ decode 0x5630EF13#32 = .shadd16 .pl 0#4 14#4 3#4
      ∧ decode 0x46352F33#32 = .shaddsubx .mi 5#4 2#4 3#4 := by
  decide

theorem test_decode_12 :
    decode 0x06361F55#32 = .shsubaddx .eq 6#4 1#4 5#4
      ∧ decode 0x7638AF74#32 = .shsub16 .vc 8#4 10#4 4#4
      ∧ decode 0x3638CF93#32 = .shadd8 .cc 8#4 12#4 3#4
      ∧ decode 0x0634DFF1#32 = .shsub8 .eq 4#4 13#4 1#4
      ∧ decode 0x16569F12#32 = .uadd16 .ne 6#4 9#4 2#4
      ∧ decode 0x06504F36#32 = .uaddsubx .eq 0#4 4#4 6#4
      ∧ decode 0x46531F5A#32 = .usubaddx .mi 3#4 1#4 10#4
      ∧ decode 0x965DCF78#32 = .usub16 .ls 13#4 12#4 8#4
      ∧ decode 0x265EBF9A#32 = .uadd8 .cs 14#4 11#4 10#4
      ∧ decode 0xC6596FFE#32 = .usub8 .gt 9#4 6#4 14#4
      ∧ decode 0xC66B7F15#32 = .uqadd16 .gt 11#4 7#4 5#4
      ∧ decode 0x266B9F34#32 = .uqaddsubx .cs 11#4 9#4 4#4 := by
  decide

theorem test_decode_13 :
    decode 0xA660DF52#32 = .uqsubaddx .ge 0#4 13#4 2#4
      ∧ decode 0xD66E8F7B#32 = .uqsub16 .le 14#4 8#4 11#4
      ∧ decode 0xA66BBF96#32 = .uqadd8 .ge 11#4 11#4 6#4
      ∧ decode 0xC662EFF8#32 = .uqsub8 .gt 2#4 14#4 8#4
      ∧ decode 0x86789F1C#32 = .uhadd16 .hi 8#4 9#4 12#4
      ∧ decode 0xD67C0F3D#32 = .uhaddsubx .le 12#4 0#4 13#4
      ∧ decode 0xD679CF5A#32 = .uhsubaddx .le 9#4 12#4 10#4
      ∧ decode 0xE67ABF7B#32 = .uhsub16 .al 10#4 11#4 11#4
      ∧ decode 0xA6710F93#32 = .uhadd8 .ge 1#4 0#4 3#4
      ∧ decode 0x067A5FF2#32 = .uhsub8 .eq 10#4 5#4 2#4
      ∧ decode 0x16878D16#32 = .pkhbt .ne 7#4 8#4 26#5 6#4
      ∧ decode 0x068A805A#32 = .pkhtb .eq 10#4 8#4 0#5 10#4 := by
  decide

theorem test_decode_14 :
    decode 0xA6AE0793#32 = .ssat .ge 14#5 0#4 15#5 false 3#4
      ∧ decode 0xC6FC8BD1#32 = .usat .gt 28#5 8#4 23#5 true 1#4
      ∧ decode 0x86A8AF31#32 = .ssat16 .hi 8#4 10#4 1#4
      ∧ decode 0x16E7BF3B#32 = .usat16 .ne 7#4 11#4 11#4
      ∧ decode 0x46BF1F3C#32 = .rev .mi 1#4 12#4
      ∧ decode 0xD6BF3FB4#32 = .rev16 .le 3#4 4#4
      ∧ decode 0xB6FF3FBC#32 = .revsh .lt 3#4 12#4
      ∧ decode 0x368A7FBB#32 = .sel .cc 10#4 7#4 11#4
      ∧ decode 0x768F607D#32 = .sxtb16 .vc 6#4 0#2 13#4
      ∧ decode 0x7684C87E#32 = .sxtab16 .vc 4#4 12#4 2#2 14#4
      ∧ decode 0x06AFA879#32 = .sxtb .eq 10#4 2#2 9#4
      ∧ decode 0x36A25871#32 = .sxtab .cc 2#4 5#4 2#2 1#4 := by
  decide

theorem test_decode_15 :
    decode 0x46BFB87A#32 = .sxth .mi 11#4 2#2 10#4
      ∧ decode 0x46B20879#32 = .sxtah .mi 2#4 0#4 2#2 9#4
      ∧ decode 0x76CF7470#32 = .uxtb16 .vc 7#4 1#2 0#4
      ∧ decode 0xA6C3A871#32 = .uxtab16 .ge 3#4 10#4 2#2 1#4
      ∧ decode 0x76EFB874#32 = .uxtb .vc 11#4 2#2 4#4
      ∧ decode 0x46E7C477#32 = .uxtab .mi 7#4 12#4 1#2 7#4
      ∧ decode 0x16FF807E#32 = .uxth .ne 8#4 0#2 14#4
      ∧ decode 0x46F70C71#32 = .uxtah .mi 7#4 0#4 3#2 1#4
      ∧ decode 0x7708FD11#32 = .smuad .vc 8#4 13#4 false 1#4
      ∧ decode 0x770E3634#32 = .smlad .vc 14#4 3#4 6#4 true 4#4
      ∧ decode 0xE709F173#32 = .smusd .al 9#4 1#4 true 3#4
      ∧ decode 0x2705485B#32 = .smlsd .cs 5#4 4#4 8#4 false 11#4 := by
  decide

theorem test_decode_16 :
    decode 0xD742483A#32 = .smlald .le 2#4 4#4 8#4 true 10#4
      ∧ decode 0xB74E7355#32 = .smlsld .lt 14#4 7#4 3#4 false 5#4
      ∧ decode 0xE750F61E#32 = .smmul .al 0#4 6#4 false 14#4
      ∧ decode 0x2757A730#32 = .smmla .cs 7#4 10#4 7#4 true 0#4
      ∧ decode 0x675562F4#32 = .smmls .vs 5#4 6#4 2#4 true 4#4
      ∧ decode 0x678DF115#32 = .usad8 .vs 13#4 1#4 5#4
      ∧ decode 0x5785C510#32 = .usada8 .pl 5#4 12#4 5#4 0#4
      ∧ decode 0x69B31EBB#32 = .ldm1 .vs .ib true 3#4 7867#16
      ∧ decode 0x0974F366#32 = .ldm3 .eq .db true 4#4 29542#15
      ∧ decode 0x18DD324A#32 = .ldm2 .ne .ia false 13#4 12874#15
      ∧ decode 0x192C5C57#32 = .stm1 .ne .db true 12#4 23639#16
      ∧ decode 0xD8400C5B#32 = .stm2 .le .da false 0#4 3163#16 := by
  decide

theorem test_decode_17 :
    decode 0xDAA97766#32 = .b .le 11106150#24
      ∧ decode 0x4BA28CF7#32 = .bl .mi 10652919#24
      ∧ decode 0xEC446382#32 = .mcrr .al 4#4 6#4 3#4 8#4 2#4
      ∧ decode 0x5C55CCF3#32 = .mrrc .pl 5#4 12#4 12#4 15#4 3#4
      ∧ decode 0x0D8ECEC2#32 = .stc .eq true true false false 14#4 12#4 14#4 194#8
      ∧ decode 0x8CBB38B8#32 = .ldc .hi false true false true 11#4 3#4 8#4 184#8
      ∧ decode 0x6EDC7A82#32 = .cdp .vs 13#4 12#4 7#4 10#4 4#3 2#4
      ∧ decode 0x4E208E7E#32 = .mcr .mi 1#3 0#4 8#4 14#4 3#3 14#4
      ∧ decode 0x2E564475#32 = .mrc .cs 2#3 6#4 4#4 4#4 3#3 5#4
      ∧ decode 0xBFBD1E69#32 = .swi .lt 12394089#24 := by
  decide

/-- Words the table calls UNDEFINED or UNPREDICTABLE, and words of a defined row whose should-be bits are wrong
(R269). -/
theorem test_decode_words :
    decode 0xE7F000F0#32 = .undefinedWord 0xE7F000F0#32 ∧ decode 0xFF000000#32 = .undefinedWord 0xFF000000#32
      ∧ decode 0xE10F0001#32 = .unpredictableWord 0xE10F0001#32
      ∧ decode 0x01200070#32 = .unpredictableWord 0x01200070#32 := by
  decide

/-- The host's interface to the decoder: the four bytes lie as the machine stores them (R128). -/
theorem test_decodeTableWord : decodeTableWord 32 0xE3A00001 = some (.movImm .al false 0#4 ⟨0#4, 1#8⟩) := by
  decide

/-! ### One step of one instruction -/

/-- The state the tests start from: reset, with a pc, a CPSR and registers of the current mode. -/
def setup (cpsr : Nat) (regs : List (Nat × Nat)) : State :=
  regs.foldl (fun s r => s.writeReg (BitVec.ofNat 4 r.1) (BitVec.ofNat 32 r.2))
    { State.reset with pc := 0x8000#32, cpsr := Psr.ofWord (BitVec.ofNat 32 cpsr) }

/-- Some registers and the CPSR after one step, where it is a next state. -/
def observe (regs : List Nat) (o : Out) : Option (List Nat × Nat) :=
  match o with
  | .next t => some (regs.map fun n => (t.readReg (BitVec.ofNat 4 n)).toNat, t.cpsr.toWord.toNat)
  | .fault _ => none
  | .refused _ => none

/-- One step of the instruction `w`. -/
def result (cpsr : Nat) (before : List (Nat × Nat)) (w : Nat) (regs : List Nat) : Option (List Nat × Nat) :=
  observe regs (step ((setup cpsr before).withFetchWord 32 w))

/-- 96_test_vectors_derived_a.md: T4.1, T4.2, T4.4, T4.8, T4.12, T4.14, T4.19, T4.23, T4.25, T4.27. -/
theorem test_data_processing_1 :
    result 0xD3 [(1, 0xF0F0F0F0), (2, 0xFF00FF0)] 0xE0010002 [0] = some ([0xF000F0], 0xD3)
      ∧ result 0x300000D3 [(1, 0xF0F0F0F0), (2, 0xF0F0F0F)] 0xE0110002 [0] = some ([0x0], 0x700000D3)
      ∧ result 0xD3 [(0, 0x12345678)] 0xE0300000 [0] = some ([0x0], 0x400000D3)
      ∧ result 0xD3 [(1, 0x1234)] 0xE0510001 [0] = some ([0x0], 0x600000D3)
      ∧ result 0xD3 [(1, 0x80000000)] 0xE2710000 [0] = some ([0x80000000], 0x900000D3)
      ∧ result 0xD3 [(1, 0x7FFFFFFF), (2, 0x1)] 0xE0910002 [0] = some ([0x80000000], 0x900000D3)
      ∧ result 0x200000D3 [(1, 0xFFFFFFFF)] 0xE0B10002 [0] = some ([0x0], 0x600000D3)
      ∧ result 0xD3 [] 0xE0D10002 [0] = some ([0xFFFFFFFF], 0x800000D3)
      ∧ result 0xD3 [(1, 0xFFFF)] 0xE2F10000 [0] = some ([0xFFFF0000], 0x800000D3)
      ∧ result 0x200000D3 [(1, 0xFF00), (2, 0xFF)] 0xE1110002 [0] = some ([0x0], 0x600000D3) := by
  decide

/-- 96_test_vectors_derived_a.md: T4.28, T4.31, T4.34, T4.37, T4.42, T4.44, T3.5. -/
theorem test_data_processing_2 :
    result 0x100000D3 [(1, 0x55), (2, 0x55)] 0xE1310002 [0] = some ([0x0], 0x500000D3)
      ∧ result 0xD3 [(1, 0x80000000), (2, 0x1)] 0xE1510002 [0] = some ([0x0], 0x300000D3)
      ∧ result 0xD3 [(1, 0x7FFFFFFF)] 0xE3710001 [0] = some ([0x0], 0x900000D3)
      ∧ result 0xD3 [(2, 0x10000000)] 0xE1910202 [0] = some ([0x0], 0x600000D3)
      ∧ result 0xD3 [(1, 0xFF)] 0xE3D100FF [0] = some ([0x0], 0x400000D3)
      ∧ result 0xD3 [(1, 0xFFFFFFFF)] 0xE1F00001 [0] = some ([0x0], 0x400000D3)
      ∧ result 0xD3 [] 0xE3B00480 [0] = some ([0x80000000], 0xA00000D3) := by
  decide

/-- 96_test_vectors_derived_a.md: T5.2, T5.6, T5.10, T5.12, T5.14, T5.16, T5.18, T5.24, T5.28, T5.31, T5.33, T5.35. -/
theorem test_multiply :
    result 0x300000D3 [(1, 0x10000), (2, 0x10000)] 0xE0100291 [0] = some ([0x0], 0x700000D3)
      ∧ result 0xD3 [(1, 0x3), (2, 0x4), (3, 0xFFFFFFFF)] 0xE0203291 [0] = some ([0xB], 0xD3)
      ∧ result 0xD3 [(0, 0x1), (1, 0x1), (3, 0x1234)] 0xE0910392 [0, 1] = some ([0x0, 0x0], 0x400000D3)
      ∧ result 0xD3 [(2, 0x80000000), (3, 0x80000000)] 0xE0D10392 [0, 1] = some ([0x0, 0x40000000], 0xD3)
      ∧ result 0xD3 [(0, 0xFFFFFFFF), (2, 0x1), (3, 0x1)] 0xE0A10392 [0, 1] = some ([0x0, 0x1], 0xD3)
      ∧ result 0xD3 [(2, 0xFFFFFFFF), (3, 0x1)] 0xE0E10392 [0, 1] = some ([0xFFFFFFFF, 0xFFFFFFFF], 0xD3)
      ∧ result 0xD3 [(0, 0xFFFFFFFF), (1, 0xFFFFFFFF), (2, 0xFFFFFFFF), (3, 0xFFFFFFFF)] 0xE0410392 [0, 1] = some ([0xFFFFFFFF, 0xFFFFFFFF], 0xD3)
      ∧ result 0xD3 [(1, 0x7FFF8000), (2, 0x7FFF8000)] 0xE16002C1 [0] = some ([0xC0008000], 0xD3)
      ∧ result 0xD3 [(1, 0x8000), (2, 0x8000), (3, 0x7FFFFFFF)] 0xE1003281 [0] = some ([0xBFFFFFFF], 0x80000D3)
      ∧ result 0xD3 [(2, 0xFFFF0000), (3, 0x1)] 0xE14103A2 [0, 1] = some ([0xFFFFFFFF, 0xFFFFFFFF], 0xD3)
      ∧ result 0xD3 [(1, 0xFFFFFFFF), (2, 0x10000)] 0xE12002E1 [0] = some ([0xFFFFFFFF], 0xD3)
      ∧ result 0xD3 [(1, 0x7FFFFFFF), (2, 0x7FFF), (3, 0x7FFFFFFF)] 0xE1203281 [0] = some ([0xBFFF7FFE], 0x80000D3) := by
  decide

/-- 96_test_vectors_derived_a.md: T5.38, T5.40, T5.42, T5.45, T5.47, T5.50, T5.52, T5.53, T5.54. -/
theorem test_multiply_media :
    result 0xD3 [(1, 0x80000000), (2, 0x1)] 0xE750F231 [0] = some ([0x0], 0xD3)
      ∧ result 0xD3 [(1, 0x40000000), (2, 0x4), (3, 0x5)] 0xE7503211 [0] = some ([0x6], 0xD3)
      ∧ result 0xD3 [(1, 0x1), (2, 0x1), (3, 0x5)] 0xE75032F1 [0] = some ([0x5], 0xD3)
      ∧ result 0xD3 [(1, 0x30002), (2, 0x70005)] 0xE700F231 [0] = some ([0x1D], 0xD3)
      ∧ result 0xD3 [(1, 0x30002), (2, 0x70005)] 0xE700F251 [0] = some ([0xFFFFFFF5], 0xD3)
      ∧ result 0xD3 [(1, 0x10001), (2, 0x10001), (3, 0x7FFFFFFF)] 0xE7003211 [0] = some ([0x80000001], 0x80000D3)
      ∧ result 0xD3 [(1, 0x30002), (2, 0x70005), (3, 0x64)] 0xE7003271 [0] = some ([0x63], 0xD3)
      ∧ result 0xD3 [(0, 0xFFFFFFFF), (2, 0x30002), (3, 0x70005)] 0xE7410312 [0, 1] = some ([0x1E, 0x1], 0xD3)
      ∧ result 0xD3 [(2, 0x30002), (3, 0x70005)] 0xE7410352 [0, 1] = some ([0xFFFFFFF5, 0xFFFFFFFF], 0xD3) := by
  decide

/-- 96_test_vectors_derived_a.md: T6.39, T6.2A, T6.3A, T6.4A, T6.5A, T6.40. -/
theorem test_parallel_s :
    result 0xD3 [(1, 0x40004000)] 0xE6111F11 [1] = some ([0x80008000], 0xF00D3)
      ∧ result 0xD3 [(1, 0x7FFF8000), (2, 0x18001)] 0xE6110F32 [0] = some ([0x7FFF], 0xC00D3)
      ∧ result 0xD3 [(1, 0x7FFF8000), (2, 0x18001)] 0xE6110F52 [0] = some ([0xFFFE8001], 0xC00D3)
      ∧ result 0xD3 [(1, 0x7FFF8000), (2, 0x18001)] 0xE6110F72 [0] = some ([0x7FFEFFFF], 0xC00D3)
      ∧ result 0xD3 [(1, 0x7FFF8000), (2, 0x18001)] 0xE6110F92 [0] = some ([0x7F000001], 0xD00D3)
      ∧ result 0xD3 [(1, 0x12345678), (2, 0x12345678)] 0xE6110FF2 [0] = some ([0x0], 0xF00D3) := by
  decide

/-- 96_test_vectors_derived_a.md: T6.7A, T6.8A, T6.9A, T6.10A, T6.11A, T6.12A. -/
theorem test_parallel_q :
    result 0xD3 [(1, 0x7FFF8000), (2, 0x18001)] 0xE6210F12 [0] = some ([0x7FFF8000], 0xD3)
      ∧ result 0xD3 [(1, 0x7FFF8000), (2, 0x18001)] 0xE6210F32 [0] = some ([0x8000], 0xD3)
      ∧ result 0xD3 [(1, 0x7FFF8000), (2, 0x18001)] 0xE6210F52 [0] = some ([0x7FFF8001], 0xD3)
      ∧ result 0xD3 [(1, 0x7FFF8000), (2, 0x18001)] 0xE6210F72 [0] = some ([0x7FFEFFFF], 0xD3)
      ∧ result 0xD3 [(1, 0x7FFF8000), (2, 0x18001)] 0xE6210F92 [0] = some ([0x7F008001], 0xD3)
      ∧ result 0xD3 [(1, 0x7FFF8000), (2, 0x18001)] 0xE6210FF2 [0] = some ([0x7FFE00FF], 0xD3) := by
  decide

/-- 96_test_vectors_derived_a.md: T6.13A, T6.14A, T6.15A, T6.16A, T6.17A, T6.18A. -/
theorem test_parallel_sh :
    result 0xD3 [(1, 0x7FFF8000), (2, 0x18001)] 0xE6310F12 [0] = some ([0x40008000], 0xD3)
      ∧ result 0xD3 [(1, 0x7FFF8000), (2, 0x18001)] 0xE6310F32 [0] = some ([0xBFFF], 0xD3)
      ∧ result 0xD3 [(1, 0x7FFF8000), (2, 0x18001)] 0xE6310F52 [0] = some ([0x7FFFC000], 0xD3)
      ∧ result 0xD3 [(1, 0x7FFF8000), (2, 0x18001)] 0xE6310F72 [0] = some ([0x3FFFFFFF], 0xD3)
      ∧ result 0xD3 [(1, 0x7FFF8000), (2, 0x18001)] 0xE6310F92 [0] = some ([0x3F008000], 0xD3)
      ∧ result 0xD3 [(1, 0x7FFF8000), (2, 0x18001)] 0xE6310FF2 [0] = some ([0x3FFF00FF], 0xD3) := by
  decide

/-- 96_test_vectors_derived_a.md: T6.19A, T6.20A, T6.21A, T6.22A, T6.23A, T6.24A. -/
theorem test_parallel_u :
    result 0xD3 [(1, 0x7FFF8000), (2, 0x18001)] 0xE6510F12 [0] = some ([0x80000001], 0x300D3)
      ∧ result 0xD3 [(1, 0x7FFF8000), (2, 0x18001)] 0xE6510F32 [0] = some ([0x7FFF], 0xF00D3)
      ∧ result 0xD3 [(1, 0x7FFF8000), (2, 0x18001)] 0xE6510F52 [0] = some ([0xFFFE8001], 0xD3)
      ∧ result 0xD3 [(1, 0x7FFF8000), (2, 0x18001)] 0xE6510F72 [0] = some ([0x7FFEFFFF], 0xC00D3)
      ∧ result 0xD3 [(1, 0x7FFF8000), (2, 0x18001)] 0xE6510F92 [0] = some ([0x7F000001], 0x600D3)
      ∧ result 0xD3 [(1, 0x7FFF8000), (2, 0x18001)] 0xE6510FF2 [0] = some ([0x7FFE00FF], 0xE00D3) := by
  decide

/-- 96_test_vectors_derived_a.md: T6.25A, T6.26A, T6.27A, T6.28A, T6.29A, T6.30A. -/
theorem test_parallel_uq :
    result 0xD3 [(1, 0x7FFF8000), (2, 0x18001)] 0xE6610F12 [0] = some ([0x8000FFFF], 0xD3)
      ∧ result 0xD3 [(1, 0x7FFF8000), (2, 0x18001)] 0xE6610F32 [0] = some ([0xFFFF7FFF], 0xD3)
      ∧ result 0xD3 [(1, 0x7FFF8000), (2, 0x18001)] 0xE6610F52 [0] = some ([0x8001], 0xD3)
      ∧ result 0xD3 [(1, 0x7FFF8000), (2, 0x18001)] 0xE6610F72 [0] = some ([0x7FFE0000], 0xD3)
      ∧ result 0xD3 [(1, 0x7FFF8000), (2, 0x18001)] 0xE6610F92 [0] = some ([0x7FFFFF01], 0xD3)
      ∧ result 0xD3 [(1, 0x7FFF8000), (2, 0x18001)] 0xE6610FF2 [0] = some ([0x7FFE0000], 0xD3) := by
  decide

/-- 96_test_vectors_derived_a.md: T6.31A, T6.32A, T6.33A, T6.34A, T6.35A, T6.36A. -/
theorem test_parallel_uh :
    result 0xD3 [(1, 0x7FFF8000), (2, 0x18001)] 0xE6710F12 [0] = some ([0x40008000], 0xD3)
      ∧ result 0xD3 [(1, 0x7FFF8000), (2, 0x18001)] 0xE6710F32 [0] = some ([0x80003FFF], 0xD3)
      ∧ result 0xD3 [(1, 0x7FFF8000), (2, 0x18001)] 0xE6710F52 [0] = some ([0xFFFF4000], 0xD3)
      ∧ result 0xD3 [(1, 0x7FFF8000), (2, 0x18001)] 0xE6710F72 [0] = some ([0x3FFFFFFF], 0xD3)
      ∧ result 0xD3 [(1, 0x7FFF8000), (2, 0x18001)] 0xE6710F92 [0] = some ([0x3F808000], 0xD3)
      ∧ result 0xD3 [(1, 0x7FFF8000), (2, 0x18001)] 0xE6710FF2 [0] = some ([0x3F7F00FF], 0xD3) := by
  decide

/-- 96_test_vectors_derived_a.md: T7.1, T7.6, T7.7, T7.9, T7.10, T7.12, T7.14, T7.15, T7.17, T7.18, T7.19, T7.20. -/
theorem test_extend :
    result 0xD3 [(1, 0x80FF7F81)] 0xE6AF0071 [0] = some ([0xFFFFFF81], 0xD3)
      ∧ result 0xD3 [(1, 0x80FF7F81)] 0xE6BF0C71 [0] = some ([0xFFFF8180], 0xD3)
      ∧ result 0xD3 [(1, 0x80FF7F81)] 0xE68F0071 [0] = some ([0xFFFFFF81], 0xD3)
      ∧ result 0xD3 [(1, 0x80FF7F81)] 0xE6EF0071 [0] = some ([0x81], 0xD3)
      ∧ result 0xD3 [(1, 0x80FF7F81)] 0xE6FF0071 [0] = some ([0x7F81], 0xD3)
      ∧ result 0xD3 [(1, 0x80FF7F81)] 0xE6CF0071 [0] = some ([0xFF0081], 0xD3)
      ∧ result 0xD3 [(1, 0x80FF7F81), (2, 0x100)] 0xE6A20071 [0] = some ([0x81], 0xD3)
      ∧ result 0xD3 [(1, 0xFFFF)] 0xE6B20071 [0] = some ([0xFFFFFFFF], 0xD3)
      ∧ result 0xD3 [(1, 0x80FF7F81), (2, 0x1FFFF)] 0xE6820071 [0] = some ([0xFF80], 0xD3)
      ∧ result 0xD3 [(1, 0x80FF7F81), (2, 0xFFFFFF80)] 0xE6E20071 [0] = some ([0x1], 0xD3)
      ∧ result 0xD3 [(1, 0x80FF7F81), (2, 0x1)] 0xE6F20071 [0] = some ([0x7F82], 0xD3)
      ∧ result 0xD3 [(1, 0x80FF7F81), (2, 0x1FFFF)] 0xE6C20071 [0] = some ([0x1000080], 0xD3) := by
  decide

/-- 96_test_vectors_derived_a.md: T7.25, T7.31, T7.34, T7.35, T7.39, T7.40, T7.41, T7.42, T7.44. -/
theorem test_bytes :
    result 0xD3 [] 0xE16F0F11 [0] = some ([0x20], 0xD3)
      ∧ result 0xD3 [(1, 0xFFFFFFFF)] 0xE780F211 [0] = some ([0x3FC], 0xD3)
      ∧ result 0xD3 [(1, 0xFFFFFFFF), (3, 0xFFFFFFFF)] 0xE7803211 [0] = some ([0x3FB], 0xD3)
      ∧ result 0xD3 [(1, 0x11112222), (2, 0x33334444)] 0xE6810012 [0] = some ([0x33332222], 0xD3)
      ∧ result 0xD3 [(1, 0x11112222), (2, 0x80000000)] 0xE6810052 [0] = some ([0x1111FFFF], 0xD3)
      ∧ result 0xD3 [(1, 0x11223344)] 0xE6BF0F31 [0] = some ([0x44332211], 0xD3)
      ∧ result 0xD3 [(1, 0x11223344)] 0xE6BF0FB1 [0] = some ([0x22114433], 0xD3)
      ∧ result 0xD3 [(1, 0x11223380)] 0xE6FF0FB1 [0] = some ([0xFFFF8033], 0xD3)
      ∧ result 0xA00D3 [(1, 0x11223344), (2, 0xAABBCCDD)] 0xE6810FB2 [0] = some ([0x11BB33DD], 0xA00D3) := by
  decide

/-- 96_test_vectors_derived_a.md: T7.48, T7.57, T7.63, T7.64, T7.67, T7.70, T7.73, T7.76. -/
theorem test_saturate :
    result 0xD3 [(1, 0x80)] 0xE6A70011 [0] = some ([0x7F], 0x80000D3)
      ∧ result 0xD3 [(1, 0x100)] 0xE6E80011 [0] = some ([0xFF], 0x80000D3)
      ∧ result 0xD3 [(1, 0x80007FFF)] 0xE6AF0F31 [0] = some ([0x80007FFF], 0xD3)
      ∧ result 0xD3 [(1, 0x10FFFF)] 0xE6E40F31 [0] = some ([0xF0000], 0x80000D3)
      ∧ result 0xD3 [(1, 0x7FFFFFFF), (2, 0x1)] 0xE1020051 [0] = some ([0x7FFFFFFF], 0x80000D3)
      ∧ result 0xD3 [(1, 0x80000000), (2, 0x1)] 0xE1220051 [0] = some ([0x80000000], 0x80000D3)
      ∧ result 0xD3 [(1, 0x80000000), (2, 0x40000000)] 0xE1420051 [0] = some ([0xFFFFFFFF], 0x80000D3)
      ∧ result 0xD3 [(2, 0x80000000)] 0xE1620051 [0] = some ([0x7FFFFFFF], 0x80000D3) := by
  decide

/-- 96_test_vectors_derived_a.md: T1.12, T8.9, T8.30, T8.36, T8.37, T8.47. -/
theorem test_status :
    result 0xD3 [] 0x010F0800 [0] = some ([0x0], 0xD3)
      ∧ result 0xD3 [(0, 0xFE0F03FF)] 0xE128F000 [0] = some ([0xFE0F03FF], 0xF80000D3)
      ∧ result 0xD3 [] 0xF1080080 [0] = some ([0x0], 0x53)
      ∧ result 0x10 [] 0xF10C0080 [0] = some ([0x0], 0x10)
      ∧ result 0x10 [] 0xF1020013 [0] = some ([0x0], 0x10)
      ∧ result 0xD3 [] 0xF1010200 [0] = some ([0x0], 0x2D3) := by
  decide

/-- 96_test_vectors_derived_a.md: T1.3, T1.4, T1.5, T1.6, T1.7, T1.8. -/
theorem test_condition :
    result 0x600000D3 [] 0x83A00001 [0] = some ([0x0], 0x600000D3)
      ∧ result 0x600000D3 [] 0x93A00001 [0] = some ([0x1], 0x600000D3)
      ∧ result 0x900000D3 [] 0xA3A00001 [0] = some ([0x1], 0x900000D3)
      ∧ result 0x800000D3 [] 0xB3A00001 [0] = some ([0x1], 0x800000D3)
      ∧ result 0x400000D3 [] 0xC3A00001 [0] = some ([0x0], 0x400000D3)
      ∧ result 0x400000D3 [] 0xD3A00001 [0] = some ([0x1], 0x400000D3) := by
  decide

/-- The machine with words at 0x1000 after one step of `w`: registers, bytes of memory, the CPSR and the pc. -/
def effect (cpsr : Nat) (before : List (Nat × Nat)) (words : List Nat) (w : Nat) (regs : List Nat) (bytes : Nat × Nat) :
    Option (List Nat × List Nat × Nat × Nat) :=
  let s := setup cpsr before
  let mem := s.mem.writeBytes 0x1000 (words.flatMap fun v => wordToBytes (BitVec.ofNat 32 v) 4)
  match step (State.withFetchWord { s with mem := mem } 32 w) with
  | .next t =>
    some (regs.map fun n => (t.readReg (BitVec.ofNat 4 n)).toNat, (t.mem.readBytes bytes.1 bytes.2).map (·.toNat),
      t.cpsr.toWord.toNat, t.pc.toNat)
  | .fault _ => none
  | .refused _ => none

/-- The bytes at 0x1000 of the load and store vectors. -/
def loads : List Nat := [0x44332211, 0x88776655, 0x17FFF80]

/-- The words at 0x1000 of the vectors of load and store multiple. -/
def counts : List Nat := [0xA00, 0xA01, 0xA02, 0xA03, 0xA04, 0xA05, 0xA06, 0xA07]

/-- Why a step was refused, if it was. -/
def refusal (o : Out) : Option Refusal :=
  match o with
  | .next _ => none
  | .fault _ => none
  | .refused r => some r

/-- 97_test_vectors_derived_b.md: T9.1, T9.12, T9.33, T9.39, T9.41, T9.48, T9.51, T9.54. -/
theorem test_memory_1 :
    effect 0xD3 [(1, 0x1000)] loads 0xE5910000 [0] (0x1000, 0)
        = some ([0x44332211], [], 0xD3, 0x8004)
      ∧ effect 0xD3 [(1, 0x1004), (2, 0x80000000)] loads 0xE7D10042 [0] (0x1000, 0)
        = some ([0x44], [], 0xD3, 0x8004)
      ∧ effect 0xD3 [(0, 0xAABBCCDD), (1, 0x1000)] loads 0xE5810000 [] (0x1000, 4)
        = some ([], [0xDD, 0xCC, 0xBB, 0xAA], 0xD3, 0x8004)
      ∧ effect 0xD3 [(0, 0xAABBCCDD), (1, 0x1000)] loads 0xE5C10002 [] (0x1000, 4)
        = some ([], [0x11, 0x22, 0xDD, 0x44], 0xD3, 0x8004)
      ∧ effect 0xD3 [(1, 0x1008)] loads 0xE1D100B0 [0] (0x1000, 0)
        = some ([0xFF80], [], 0xD3, 0x8004)
      ∧ effect 0xD3 [(1, 0x1008)] loads 0xE1D100F0 [0] (0x1000, 0)
        = some ([0xFFFFFF80], [], 0xD3, 0x8004)
      ∧ effect 0xD3 [(1, 0x1008)] loads 0xE1D100D0 [0] (0x1000, 0)
        = some ([0xFFFFFF80], [], 0xD3, 0x8004)
      ∧ effect 0xD3 [(0, 0xAABBCCDD), (1, 0x1000)] loads 0xE1C100B2 [] (0x1000, 4)
        = some ([], [0x11, 0x22, 0xDD, 0xCC], 0xD3, 0x8004) := by
  refine ⟨?_, ?_, ?_, ?_, ?_, ?_, ?_, ?_⟩ <;> decide

/-- 97_test_vectors_derived_b.md: T9.58, T9.62, T9.69, T9.70, T9.71, T9.72, T9.74, T9.76. -/
theorem test_memory_2 :
    effect 0xD3 [(1, 0x1000)] loads 0xE1C120D0 [2, 3] (0x1000, 0)
        = some ([0x44332211, 0x88776655], [], 0xD3, 0x8004)
      ∧ effect 0xD3 [(1, 0x1000), (2, 0xAAAAAAAA), (3, 0xBBBBBBBB)] loads 0xE1C120F0 [] (0x1000, 8)
        = some ([], [0xAA, 0xAA, 0xAA, 0xAA, 0xBB, 0xBB, 0xBB, 0xBB], 0xD3, 0x8004)
      ∧ effect 0xD3 [(1, 0x1000)] loads 0xE4B10004 [0, 1] (0x1000, 0)
        = some ([0x44332211, 0x1004], [], 0xD3, 0x8004)
      ∧ effect 0xD3 [(0, 0xEE), (1, 0x1001)] loads 0xE4E10001 [1] (0x1000, 4)
        = some ([0x1002], [0x11, 0xEE, 0x33, 0x44], 0xD3, 0x8004)
      ∧ effect 0xD3 [(1, 0x1003), (2, 0x10)] loads 0xE6F10002 [0, 1] (0x1000, 0)
        = some ([0x44, 0x1013], [], 0xD3, 0x8004)
      ∧ effect 0xD3 [(0, 0xAABBCCDD), (1, 0x1004)] loads 0xE4210004 [1] (0x1004, 4)
        = some ([0x1000], [0xDD, 0xCC, 0xBB, 0xAA], 0xD3, 0x8004)
      ∧ effect 0xD3 [(1, 0x1000)] loads 0xF5D1F004 [] (0x1000, 0)
        = some ([], [], 0xD3, 0x8004)
      ∧ effect 0xD3 [(1, 0x1000)] loads 0xE1910F9F [0] (0x1000, 0)
        = some ([0x44332211], [], 0xD3, 0x8004) := by
  refine ⟨?_, ?_, ?_, ?_, ?_, ?_, ?_, ?_⟩ <;> decide

/-- 97_test_vectors_derived_b.md: T10.1, T10.2, T10.3, T10.4, T10.7, T10.15, T10.16, T10.17. -/
theorem test_memory_3 :
    effect 0xD3 [(0, 0x1008)] counts 0xE890000E [1, 2, 3] (0x1000, 0)
        = some ([0xA02, 0xA03, 0xA04], [], 0xD3, 0x8004)
      ∧ effect 0xD3 [(0, 0x1008)] counts 0xE990000E [1, 2, 3] (0x1000, 0)
        = some ([0xA03, 0xA04, 0xA05], [], 0xD3, 0x8004)
      ∧ effect 0xD3 [(0, 0x1010)] counts 0xE810000E [1, 2, 3] (0x1000, 0)
        = some ([0xA02, 0xA03, 0xA04], [], 0xD3, 0x8004)
      ∧ effect 0xD3 [(0, 0x1010)] counts 0xE910000E [1, 2, 3] (0x1000, 0)
        = some ([0xA01, 0xA02, 0xA03], [], 0xD3, 0x8004)
      ∧ effect 0xD3 [(13, 0x1000)] [0x4, 0x5, 0x9000, 0xA03, 0xA04, 0xA05, 0xA06, 0xA07] 0xE8BD8030 [4, 5, 13] (0x1000, 0)
        = some ([0x4, 0x5, 0x100C], [], 0xD3, 0x9000)
      ∧ effect 0xD3 [(0, 0x1008), (1, 0x11), (2, 0x22), (3, 0x33)] counts 0xE880000E [] (0x1008, 12)
        = some ([], [0x11, 0x0, 0x0, 0x0, 0x22, 0x0, 0x0, 0x0, 0x33, 0x0, 0x0, 0x0], 0xD3, 0x8004)
      ∧ effect 0xD3 [(0, 0x1008), (1, 0x11), (2, 0x22), (3, 0x33)] counts 0xE980000E [] (0x100C, 12)
        = some ([], [0x11, 0x0, 0x0, 0x0, 0x22, 0x0, 0x0, 0x0, 0x33, 0x0, 0x0, 0x0], 0xD3, 0x8004)
      ∧ effect 0xD3 [(0, 0x1010), (1, 0x11), (2, 0x22), (3, 0x33)] counts 0xE800000E [] (0x1008, 12)
        = some ([], [0x11, 0x0, 0x0, 0x0, 0x22, 0x0, 0x0, 0x0, 0x33, 0x0, 0x0, 0x0], 0xD3, 0x8004) := by
  refine ⟨?_, ?_, ?_, ?_, ?_, ?_, ?_, ?_⟩ <;> decide

/-- 97_test_vectors_derived_b.md: T10.18, T10.19, T10.40, T10.42, T10.47, T10.49, T11.1, T11.10. -/
theorem test_memory_4 :
    effect 0xD3 [(0, 0x1010), (1, 0x11), (2, 0x22), (3, 0x33)] counts 0xE920000E [0] (0x1004, 12)
        = some ([0x1004], [0x11, 0x0, 0x0, 0x0, 0x22, 0x0, 0x0, 0x0, 0x33, 0x0, 0x0, 0x0], 0xD3, 0x8004)
      ∧ effect 0xD3 [(4, 0x44), (13, 0x1010), (14, 0x8888)] counts 0xE92D4010 [13] (0x1008, 8)
        = some ([0x1008], [0x44, 0x0, 0x0, 0x0, 0x88, 0x88, 0x0, 0x0], 0xD3, 0x8004)
      ∧ effect 0xD3 [(0, 0x1000)] [0x9000, 0x60000010, 0xA02, 0xA03, 0xA04, 0xA05, 0xA06, 0xA07] 0xF8900A00 [] (0x1000, 0)
        = some ([], [], 0x60000010, 0x9000)
      ∧ effect 0xD3 [(0, 0x1008)] [0x9000, 0x13, 0xA02, 0xA03, 0xA04, 0xA05, 0xA06, 0xA07] 0xF9300A00 [0] (0x1000, 0)
        = some ([0x1000], [], 0x13, 0x9000)
      ∧ effect 0xD3 [(1, 0xAABBCCDD), (2, 0x1000)] counts 0xE1020091 [0] (0x1000, 4)
        = some ([0xA00], [0xDD, 0xCC, 0xBB, 0xAA], 0xD3, 0x8004)
      ∧ effect 0xD3 [(1, 0xAABBCCDD), (2, 0x1001)] counts 0xE1420091 [0] (0x1000, 4)
        = some ([0xA], [0x0, 0xDD, 0x0, 0x0], 0xD3, 0x8004)
      ∧ effect 0x60000010 [] [] 0xEF123456 [14] (0x1000, 0)
        = some ([0x8004], [], 0x60000093, 0x8)
      ∧ effect 0x10 [] [] 0xE7F000F0 [14] (0x1000, 0)
        = some ([0x8004], [], 0x9B, 0x4) := by
  refine ⟨?_, ?_, ?_, ?_, ?_, ?_, ?_, ?_⟩ <;> decide

/-- 97_test_vectors_derived_b.md: T11.14, T11.15, T11.16, T11.17, T11.18, T11.19, T11.20. -/
theorem test_memory_5 :
    effect 0xD3 [] [] 0xEE2AC583 [14] (0x1000, 0)
        = some ([0x8004], [], 0xDB, 0x4)
      ∧ effect 0xD3 [(7, 0x77)] [] 0xEE277EDC [14] (0x1000, 0)
        = some ([0x8004], [], 0xDB, 0x4)
      ∧ effect 0xD3 [(4, 0x1000)] [] 0xED941600 [14] (0x1000, 0)
        = some ([0x8004], [], 0xDB, 0x4)
      ∧ effect 0xD3 [(2, 0x1000)] [] 0xEDA28801 [14] (0x1000, 0)
        = some ([0x8004], [], 0xDB, 0x4)
      ∧ effect 0xD3 [] [] 0xEC410712 [14] (0x1000, 0)
        = some ([0x8004], [], 0xDB, 0x4)
      ∧ effect 0xD3 [(0, 0x1), (1, 0x2)] [] 0xEC510712 [14] (0x1000, 0)
        = some ([0x8004], [], 0xDB, 0x4)
      ∧ effect 0xD3 [] [] 0xFE2AC583 [14] (0x1000, 0)
        = some ([0x8004], [], 0xDB, 0x4) := by
  refine ⟨?_, ?_, ?_, ?_, ?_, ?_, ?_⟩ <;> decide

/-- Data loads follow the E bit: the example of SETEND (R596, R127). -/
theorem test_bigEndian :
    effect 0x2D3 [(1, 0x1000)] loads 0xE5910000 [0] (0x1000, 0) = some ([0x11223344], [], 0x2D3, 0x8004)
      ∧ effect 0x2D3 [(1, 0x1000)] loads 0xE1D100B0 [0] (0x1000, 0) = some ([0x1122], [], 0x2D3, 0x8004) := by
  refine ⟨?_, ?_⟩ <;> decide

/-- Branches: the worked offset of B, the link of BL, and BX to ARM and to Thumb state (R401, R402, R404). -/
theorem test_branches :
    effect 0xD3 [] [] 0xEA000002 [] (0, 0) = some ([], [], 0xD3, 0x8010)
      ∧ effect 0xD3 [] [] 0xEBFFFFFE [14] (0, 0) = some ([0x8004], [], 0xD3, 0x8000)
      ∧ effect 0xD3 [(1, 0x9000)] [] 0xE12FFF11 [] (0, 0) = some ([], [], 0xD3, 0x9000)
      ∧ effect 0xD3 [(1, 0x9000)] [] 0xE12FFF31 [14] (0, 0) = some ([0x8004], [], 0xD3, 0x9000)
      ∧ refusal (step ((setup 0xD3 [(1, 0x9001)]).withFetchWord 32 0xE12FFF11)) = some .thumbState := by
  refine ⟨?_, ?_, ?_, ?_, ?_⟩ <;> decide

/-- CP15: what MCR wrote to the DACR, MRC reads; MRC to R15 sets the flags; register 4 is refused (R332, R344, R695). -/
theorem test_cp15 :
    observe [2] ((match step ((setup 0xD3 [(0, 0x8D)]).withFetchWord 32 0xEE030F10) with
        | .next t => step (t.withFetchWord 32 0xEE132F10)
        | .fault f => .fault f
        | .refused r => .refused r)) = some ([0x8D], 0xD3)
      ∧ effect 0xD3 [] [] 0xEE11FF10 [] (0, 0) = some ([], [], 0xD3, 0x8004)
      ∧ refusal (step ((setup 0xD3 []).withFetchWord 32 0xEE040F10)) = some .cp15Unpredictable := by
  refine ⟨?_, ?_, ?_⟩ <;> decide

/-- A permission fault of a store to a read-only section: the worked example of R780. -/
theorem test_data_abort :
    (match step (State.withFetchWord
        { setup 0x13 [(0, 0x00300004)] with
          sctlr := ⟨0x00800009, []⟩
          ttbr0 := ⟨0x4000, []⟩
          dacr := ⟨0x00000041, []⟩
          mem := Memory.writeBytes (Memory.writeBytes [] 0x4000 (wordToBytes 0x00000C02 4)) 0x400C
            (wordToBytes 0x00308462 4) } 32 0xE5801000) with
      | .next t => some (t.dfsr.toNat, t.far.toNat, t.pc.toNat, t.cpsr.toWord.toNat, (t.readReg 14#4).toNat)
      | _ => none) = some (0x83D, 0x00300004, 0x10, 0x197, 0x8008) := by
  decide

/-! ### Witnesses: for each statement a state and operands that meet its hypotheses -/

/-- Whether an operation completes. -/
def completes {α : Type} (x : Res α) : Bool :=
  match x with
  | .ok _ _ => true
  | .abort _ _ => false
  | .fault _ => false
  | .refused _ => false

/-- Whether an operation aborts. -/
def aborts {α : Type} (x : Res α) : Bool :=
  match x with
  | .ok _ _ => false
  | .abort _ _ => true
  | .fault _ => false
  | .refused _ => false

/-- Whether a step answers a next state. -/
def goesOn (o : Out) : Bool :=
  match o with
  | .next _ => true
  | .fault _ => false
  | .refused _ => false

theorem exists_ok {α : Type} {x : Res α} (h : completes x = true) : ∃ a t, x = .ok a t := by
  cases x <;> simp_all [completes]

theorem exists_abort {α : Type} {x : Res α} (h : aborts x = true) : ∃ a t, x = .abort a t := by
  cases x <;> simp_all [aborts]

theorem exists_next {o : Out} (h : goesOn o = true) : ∃ t, o = .next t := by
  cases o <;> simp_all [goesOn]

/-- Supervisor mode with the MMU off, R1 naming three words, and an SPSR to return to. -/
def ready : State :=
  { setup 0x1D3 [(1, 0x1000), (2, 0x2002), (3, 0x2003)] with
    spsr := ⟨Psr.ofWord 0x10, Psr.ofWord 0x10, Psr.ofWord 0x10, Psr.ofWord 0x10, Psr.ofWord 0x10⟩
    mem := [(0x1000, 0x11#8), (0x1004, 0x10#8), (0x1008, 0x06#8)] }

/-- The same in User mode. -/
def readyUser : State := { ready with cpsr := Psr.ofWord 0x10, regs := ready.regs.set .r13usr 0x2000 }

/-- The MMU and the alignment check on, and every first-level descriptor a fault. -/
def guarded : State := { ready with sctlr := ⟨0x0080000B, []⟩ }

/-- A table at 0x4000 whose second section maps to 0x00200000. -/
def mapped : State :=
  { ready with
    sctlr := ⟨0x00800009, []⟩, ttbr0 := ⟨0x4000, []⟩, dacr := ⟨3, []⟩
    mem := Memory.writeBytes [] 0x4004 (wordToBytes 0x00200002 4) }

theorem runs_ready : Runs .al ready := And.intro (by decide) (by decide)

theorem test_witness_DecodeEncode :
    (Instr.b .al 2#24).wellFormed = true ∧ (∀ w, Instr.b .al 2#24 ≠ .undefinedWord w)
      ∧ ∀ w, Instr.b .al 2#24 ≠ .unpredictableWord w :=
  ⟨by decide, (by intro w h; cases h), (by intro w h; cases h)⟩

/-- A fetch that reads a word, with an abort pending and masked too, and one that aborts. -/
theorem test_witness_StepRunsDecoded :
    ready.inputs = [] ∧ ready.pendingImprecise = 0 ∧ (∃ w t, fetch ready = .ok w t)
      ∧ ({ ready with pendingImprecise := 1 }).cpsr.a = true
      ∧ (∃ w t, fetch { ready with pendingImprecise := 1 } = .ok w t)
      ∧ guarded.inputs = [] ∧ guarded.pendingImprecise = 0 ∧ ∃ a t, fetch guarded = .abort a t :=
  ⟨by decide, by decide, exists_ok (by decide), by decide, exists_ok (by decide), by decide, by decide,
    exists_abort (by decide)⟩

/-- A state with a boundary input, a CPSR and a number of pending imprecise aborts. -/
def atBoundary (b : Boundary) (cpsr pending : Nat) : State :=
  { ready with inputs := [b], cpsr := Psr.ofWord (BitVec.ofNat 32 cpsr), pendingImprecise := pending }

/-- One state for each clause, with everything of a lower priority signalled too; an abort raised at the boundary, and one
that is not provided. -/
theorem test_witness_BoundaryPriority :
    (let b : Boundary := ⟨true, true, true, false⟩;
      (atBoundary b 0x13 1).inputs = b :: [] ∧ b.reset = true)
      ∧ (let b : Boundary := ⟨false, true, true, false⟩;
        (atBoundary b 0x13 1).inputs = b :: [] ∧ b.reset = false ∧ b.fiq = true ∧ (atBoundary b 0x13 1).cpsr.f = false
          ∧ (atBoundary b 0x53 1).cpsr.f = true ∧ b.irq = true ∧ (atBoundary b 0x53 1).cpsr.i = false
          ∧ (atBoundary b 0xD3 1).cpsr.f = true ∧ (atBoundary b 0xD3 1).cpsr.i = true
          ∧ 0 < (atBoundary b 0xD3 1).pendingImprecise ∧ (atBoundary b 0xD3 1).cpsr.a = false
          ∧ (atBoundary b 0x1D3 1).cpsr.f = true ∧ (atBoundary b 0x1D3 1).cpsr.i = true
          ∧ (atBoundary b 0x1D3 1).cpsr.a = true)
      ∧ (let b : Boundary := ⟨false, false, false, true⟩;
        let s := { atBoundary b 0x13 0 with cfg := { Params.default with extImprecise := true } };
        s.inputs = b :: [] ∧ b.reset = false ∧ b.fiq = false ∧ b.irq = false ∧ s.cpsr.a = false
          ∧ 0 < min (s.pendingImprecise + 1) s.cfg.imprecisePendMax ∧ (b.imprecise && s.cfg.extImprecise) = true
          ∧ (b.imprecise && (atBoundary b 0x13 0).cfg.extImprecise) = false
          ∧ (atBoundary b 0x13 0).pendingImprecise = 0) := by
  decide

theorem test_witness_InvKept : State.reset.Inv ∧ ∃ t, step State.reset = .next t :=
  ⟨by unfold State.Inv; decide, exists_next (by decide)⟩

theorem test_witness_BoundedKept : State.reset.Bounded ∧ ∃ t, step State.reset = .next t :=
  ⟨by unfold State.Bounded Tlb.Bounded State.Recorded; decide, exists_next (by decide)⟩

theorem test_witness_ResetInput :
    ({ ready with inputs := [⟨true, false, false, false⟩] }).inputs = ⟨true, false, false, false⟩ :: [] := by
  decide

theorem test_witness_OnlyAdvances :
    condPassed .eq ready.cpsr = false ∧ ready.pc ≠ 0xFFFFFFFC#32
      ∧ conditionOf (.movImm .eq false 0#4 ⟨0#4, 1#8⟩) = some .eq
      ∧ Cond.ofBits ((0x07F000F0#32).extractLsb' 28 4) = some .eq
      ∧ (⟨0#5, .lsl, 14#4⟩ : ImmShift).rm ≠ 15#4 := by
  decide

/-- The boundary amounts of the clauses. -/
theorem test_witness_ShiftResults :
    (0#8 = 0 ∧ 1#8 ≠ 0 ∧ 255#8 ≠ 0) ∧ (0#5 = 0 ∧ 1#5 ≠ 0 ∧ 31#5 ≠ 0) ∧ 32 % 32 = 0 ∧ 33 % 32 ≠ 0
      ∧ (⟨0#4, 255#8⟩ : RotImm).rot = 0 ∧ (⟨1#4, 255#8⟩ : RotImm).rot ≠ 0 ∧ (⟨15#4, 255#8⟩ : RotImm).rot ≠ 0 := by
  decide

/-- The three forms, and an SPSR for the exception return or none. -/
theorem test_witness_LogicalResults :
    condPassed .al ready.cpsr = true
      ∧ (∃ so i, DataForms ready [1#4, 0#4] (.andImm .al true 1#4 0#4) (.andShiftImm .al true 1#4 0#4)
          (.andShiftReg .al true 1#4 0#4) so i)
      ∧ DataForms ready [15#4] (.movImm .al true 15#4) (.movShiftImm .al true 15#4) (.movShiftReg .al true 15#4)
          (immShiftOperand ready ⟨0#5, .lsl, 14#4⟩) (.movShiftImm .al true 15#4 ⟨0#5, .lsl, 14#4⟩)
      ∧ DataForms ready [1#4, 0#4] (.orrImm .al true 1#4 0#4) (.orrShiftImm .al true 1#4 0#4)
          (.orrShiftReg .al true 1#4 0#4) (regShiftOperand ready ⟨2#4, .ror, 14#4⟩)
          (.orrShiftReg .al true 1#4 0#4 ⟨2#4, .ror, 14#4⟩)
      ∧ (∃ q, ready.spsr.get ready.mode = some q ∧ q.returnable) ∧ readyUser.spsr.get readyUser.mode = none :=
  ⟨by decide, ⟨_, _, .inl ⟨⟨0#4, 1#8⟩, rfl, rfl⟩⟩, .inr (.inl ⟨_, rfl, rfl⟩), .inr (.inr ⟨_, rfl, rfl, by decide⟩),
    ⟨_, rfl, by unfold Psr.returnable; decide⟩, by decide⟩

/-- A status register for each refusal of an exception return: an illegal mode, J, and T. -/
theorem test_witness_RefusesReturn :
    Mode.ofBits (Psr.ofWord 0#32).m = none
      ∧ ((Mode.ofBits (Psr.ofWord 0x01000030#32).m).isSome = true ∧ (Psr.ofWord 0x01000030#32).j = true)
      ∧ (Mode.ofBits (Psr.ofWord 0x00000030#32).m).isSome = true ∧ (Psr.ofWord 0x00000030#32).j = false
      ∧ (Psr.ofWord 0x00000030#32).t = true := by
  decide

theorem test_witness_ArithmeticResults :
    condPassed .al ready.cpsr = true
      ∧ DataForms ready [1#4, 0#4] (.addImm .al true 1#4 0#4) (.addShiftImm .al true 1#4 0#4)
          (.addShiftReg .al true 1#4 0#4) (regShiftOperand ready ⟨2#4, .lsl, 14#4⟩)
          (.addShiftReg .al true 1#4 0#4 ⟨2#4, .lsl, 14#4⟩)
      ∧ DataForms ready [14#4, 15#4] (.subImm .al true 14#4 15#4) (.subShiftImm .al true 14#4 15#4)
          (.subShiftReg .al true 14#4 15#4) (rotImmOperand ⟨0#4, 4#8⟩ ready.cpsr.c)
          (.subImm .al true 14#4 15#4 ⟨0#4, 4#8⟩) :=
  ⟨by decide, .inr (.inr ⟨_, rfl, rfl, by decide⟩), .inl ⟨_, rfl, rfl⟩⟩

theorem test_witness_CompareResults :
    Runs .al ready
      ∧ DataForms ready [15#4] (.cmpImm .al 15#4) (.cmpShiftImm .al 15#4) (.cmpShiftReg .al 15#4)
          (rotImmOperand ⟨15#4, 255#8⟩ ready.cpsr.c) (.cmpImm .al 15#4 ⟨15#4, 255#8⟩)
      ∧ DataForms ready [14#4] (.tstImm .al 14#4) (.tstShiftImm .al 14#4) (.tstShiftReg .al 14#4)
          (regShiftOperand ready ⟨0#4, .asr, 14#4⟩) (.tstShiftReg .al 14#4 ⟨0#4, .asr, 14#4⟩) :=
  ⟨runs_ready, .inl ⟨_, rfl, rfl⟩, .inr (.inr ⟨_, rfl, rfl, by decide⟩)⟩

theorem test_witness_WordMultiply :
    Runs .al ready ∧ 15#4 ∉ [14#4, 0#4, 3#4, 3#4, 2#4, 1#4] ∧ 14#4 ≠ 0#4 ∧ 15#4 ∉ [0#4, 3#4, 2#4, 14#4] :=
  ⟨runs_ready, by decide, by decide, by decide⟩

theorem test_witness_HalfwordMultiply : Runs .al ready ∧ 15#4 ∉ [0#4, 3#4, 14#4, 2#4, 1#4] ∧ 0#4 ≠ 14#4 :=
  ⟨runs_ready, by decide, by decide⟩

theorem test_witness_LaneFields : 0 < 1 ∧ 0 < 16 := by decide

theorem test_witness_ParallelHalfwords : Runs .al ready ∧ 15#4 ∉ [1#4, 0#4, 14#4] := ⟨runs_ready, by decide⟩

theorem test_witness_ParallelBytes : Runs .al ready ∧ 15#4 ∉ [0#4, 0#4, 0#4] := ⟨runs_ready, by decide⟩

theorem test_witness_ExtendResults : Runs .al ready ∧ 15#4 ∉ [1#4, 14#4, 2#4] := ⟨runs_ready, by decide⟩

/-- With an operand of zero for CLZ and one that is not. -/
theorem test_witness_ByteAndBitResults :
    Runs .al ready ∧ 15#4 ∉ [1#4, 14#4, 2#4, 3#4] ∧ ready.readReg 3#4 ≠ 0 ∧ ready.readReg 4#4 = 0 :=
  ⟨runs_ready, by decide, by decide, by decide⟩

theorem test_witness_SaturatingResults :
    Runs .al ready ∧ 15#4 ∉ [1#4, 14#4, 2#4] ∧ (1 ≤ 1 ∧ 1 ≤ 32) ∧ (1 ≤ 32 ∧ 32 ≤ 32) ∧ 0 ≤ 31 ∧ 31 ≤ 31 :=
  ⟨runs_ready, by decide⟩

theorem test_witness_RestrictedForms :
    conditionOf (.mul .al false 15#4 1#4 2#4) = some .al ∧ condPassed .al ready.cpsr = true
      ∧ restrictedOperands (.mul .al false 15#4 1#4 2#4) = true
      ∧ (⟨0#5, .lsl, 15#4⟩ : ImmShift).rm = 15#4 ∧ ready.mode ≠ .usr ∧ readyUser.mode = .usr := by
  decide

theorem test_witness_RegisterFrame :
    (destinationsOf (.addImm .al true 1#4 0#4 ⟨0#4, 1#8⟩) = some [0#4] ∧ 15#4 ∉ [0#4]
      ∧ ∃ t, exec (.addImm .al true 1#4 0#4 ⟨0#4, 1#8⟩) ready = .next t)
      ∧ 14#4 ≠ 15#4 ∧ ready.cpsr.m = Mode.svc.bits :=
  ⟨⟨by decide, by decide, exists_next (by decide)⟩, by decide, by decide⟩

theorem test_witness_QSticky :
    loadsCpsr (.qadd .al 1#4 0#4 2#4) = false ∧ ({ ready with cpsr := Psr.ofWord 0x080000D3 }).cpsr.q = true
      ∧ ∃ t, exec (.qadd .al 1#4 0#4 2#4) { ready with cpsr := Psr.ofWord 0x080000D3 } = .next t :=
  ⟨by decide, by decide, exists_next (by decide)⟩

/-- The lowest and the highest target in range, and the first one past either end. -/
theorem test_witness_BranchResults :
    condPassed .al ready.cpsr = true
      ∧ ((0#32).toNat : Int) + 8 + 4 * (-2#24).toInt = 0
      ∧ ((0xFFFFFFFC#32).toNat : Int) + 8 + 4 * (-2#24).toInt = 2 ^ 32 - 4
      ∧ ((0#32).toNat : Int) + 8 + 4 * (-3#24).toInt < 0
      ∧ 2 ^ 32 ≤ ((0xFFFFFFFC#32).toNat : Int) + 8 + 4 * (-1#24).toInt := by
  decide

theorem test_witness_BranchExchangeResults :
    condPassed .al ready.cpsr = true ∧ (ready.readReg 1#4).extractLsb' 0 2 = 0#2
      ∧ (ready.readReg 3#4).getLsbD 0 = true ∧ (ready.readReg 2#4).extractLsb' 0 2 = 2#2 := by
  decide

theorem test_witness_MrsResults :
    Runs .al ready ∧ 14#4 ≠ 15#4 ∧ (∃ p, ready.spsr.get ready.mode = some p) ∧ Runs .al readyUser
      ∧ readyUser.mode = .usr :=
  ⟨runs_ready, by decide, ⟨_, rfl⟩, And.intro (by decide) (by decide), by decide⟩

/-- Immediate operands that name a legal mode (0x1F), an illegal one (0) and the T bit (0x20). -/
theorem test_witness_MsrResults :
    31 < 32 ∧ Runs .al ready ∧ Runs .al readyUser ∧ readyUser.mode = .usr
      ∧ (Mode.ofBits readyUser.cpsr.m).isSome = true
      ∧ ready.mode ≠ .usr ∧ (∃ rm : Reg, rm ≠ 15#4 ∧ ready.readReg 1#4 = ready.readReg rm)
      ∧ (let operand := (rotImmOperand ⟨0#4, 0x1F#8⟩ ready.cpsr.c).value;
        operand &&& byteMask 1#4 &&& 0x01000020#32 = 0
          ∧ (Mode.ofBits (Psr.ofWord ((ready.cpsr.toWord &&& ~~~(byteMask 1#4 &&& 0xF80F03DF#32))
              ||| (operand &&& byteMask 1#4 &&& 0xF80F03DF#32))).m).isSome = true)
      ∧ (let operand := (rotImmOperand ⟨0#4, 0#8⟩ ready.cpsr.c).value;
        operand &&& byteMask 1#4 &&& 0x01000020#32 = 0
          ∧ Mode.ofBits (Psr.ofWord ((ready.cpsr.toWord &&& ~~~(byteMask 1#4 &&& 0xF80F03DF#32))
              ||| (operand &&& byteMask 1#4 &&& 0xF80F03DF#32))).m = none)
      ∧ (rotImmOperand ⟨0#4, 0x20#8⟩ ready.cpsr.c).value &&& byteMask 1#4 &&& 0x01000020#32 ≠ 0
      ∧ ∃ q, ready.spsr.get ready.mode = some q :=
  ⟨by decide, runs_ready, And.intro (by decide) (by decide), by decide, by decide, by decide, ⟨1#4, by decide, rfl⟩,
    by decide, by decide, by decide, ⟨_, rfl⟩⟩

theorem test_witness_CpsResults :
    ready.pc ≠ 0xFFFFFFFC#32 ∧ ready.mode ≠ .usr ∧ readyUser.mode = .usr
      ∧ (Mode.ofBits 0x10#5).isSome = true ∧ Mode.ofBits 0#5 = none
      ∧ ¬(2#2 = 1#2 ∨ (2#2 = 0#2 ∧ true = false) ∨ ((2#2).getLsbD 1 = true ∧ (true || false || false) = false)
        ∨ ((2#2).getLsbD 1 = false ∧ (true || false || false) = true) ∨ (true = false ∧ 0x10#5 ≠ 0)) := by
  decide

theorem test_witness_SetendResult : ready.pc ≠ 0xFFFFFFFC#32 := by decide

theorem test_witness_UserModeConfined :
    readyUser.cpsr.m = 0b10000#5 ∧ (∃ t, exec (.movImm .al true 0#4 ⟨0#4, 1#8⟩) readyUser = .next t)
      ∧ ∃ t, exec (.swi .al 0#24) readyUser = .next t :=
  ⟨by decide, exists_next (by decide), exists_next (by decide)⟩

theorem test_witness_MemoryLaws : ready.mem.wf = true ∧ 0xFFF < 0x1000 ∧ 0x1000 + [1#8, 2#8].length ≤ 0x1002 := by
  decide

/-- The last word of the address space, and a fetch there; with the MMU on, a translated address and an abort. -/
theorem test_witness_FlatAccess :
    (Flat ready 0xFFFFFFFF#32 .byte ∧ Flat ready 0xFFFFFFFE#32 .half ∧ Flat ready 0xFFFFFFFC#32 .word
      ∧ ({ ready with pc := 0xFFFFFFFC#32 }).pc = 0xFFFFFFFC#32)
      ∧ (∃ pa t, dataAddress mapped 0x00100004#32 .word .read mapped.user = .ok pa t)
      ∧ (∃ pa t, dataAddress mapped 0x00100004#32 .word .write mapped.user = .ok pa t)
      ∧ (∃ pa t, fetchAddress { mapped with pc := 0x00100004#32 } = .ok pa t)
      ∧ (∃ a t, dataAddress mapped 0#32 .word .read mapped.user = .abort a t)
      ∧ (∃ a t, dataAddress mapped 0#32 .word .write mapped.user = .abort a t)
      ∧ (∃ a t, fetchAddress { mapped with pc := 0#32 } = .abort a t)
      ∧ backed mapped.cfg 0x00200004 4 = true ∧ mapped.responses = []
      ∧ parityError mapped.cfg 0x00200004 4 = false :=
  ⟨by unfold Flat; decide, exists_ok (by decide), exists_ok (by decide), exists_ok (by decide), exists_abort (by decide),
    exists_abort (by decide), exists_abort (by decide), by decide, by decide, by decide⟩

/-- Memory that answers with an error or a parity error, an address outside it, and the last byte of it with bad
parity. -/
def answering (r : MemoryResponse) (data : DataExternalAbort) (other : Bool) : State :=
  { ready with
    responses := [r]
    cfg := { Params.default with
      extData := data, extFetch := other, extWalk := other, parity := other, parityBad := [⟨0xFFFF, 1⟩]
      physMem := [⟨0, 0x10000⟩] } }

theorem test_witness_ExternalAborts :
    (backed (answering .error .precise true).cfg 0xFFFC 4 = true
      ∧ backed (answering .error .precise true).cfg 0xFFFD 4 = false
      ∧ (answering .error .precise true).responses = .error :: []
      ∧ (∃ r ∈ (answering .served .none true).cfg.parityBad, ∃ k, k < 4 ∧ r.base ≤ 0xFFFC + k
        ∧ 0xFFFC + k < r.base + r.size)
      ∧ ∀ r ∈ (answering .served .none true).cfg.parityBad, ∀ k, k < 4 → ¬(r.base ≤ 0xFFF8 + k
        ∧ 0xFFF8 + k < r.base + r.size))
      ∧ (answering .error .precise true).cfg.extData = .precise
      ∧ (answering .error .imprecise true).cfg.extData = .imprecise
      ∧ (answering .error .none true).cfg.extData = .none ∧ (answering .error .none true).cfg.extFetch = true
      ∧ (answering .error .none false).cfg.extFetch = false ∧ (answering .error .none true).cfg.extWalk = true
      ∧ (answering .error .none false).cfg.extWalk = false ∧ (answering .parity .none true).cfg.parity = true
      ∧ (answering .parity .none true).responses = .parity :: []
      ∧ (answering .lateParity .imprecise true).responses = .lateParity :: []
      ∧ (answering .lateParity .imprecise true).cfg.extData = .imprecise
      ∧ (answering .lateParity .none true).responses = .lateParity :: []
      ∧ (answering .lateParity .none true).cfg.extImprecise = false
      ∧ (answering .served .none true).responses = .served :: []
      ∧ (answering .parity .none false).cfg.parity = false ∧ ready.responses = [] := by
  decide

/-- Each kind of shift, with an amount of 0 and another. -/
theorem test_witness_AddressingModes :
    (⟨0#5, .lsl, 1#4⟩ : ImmShift).ty = .lsl ∧ (⟨0#5, .lsr, 1#4⟩ : ImmShift).ty = .lsr
      ∧ (⟨31#5, .asr, 1#4⟩ : ImmShift).ty = .asr
      ∧ ((⟨1#5, .ror, 1#4⟩ : ImmShift).ty = .ror ∧ (⟨1#5, .ror, 1#4⟩ : ImmShift).amount.toNat ≠ 0)
      ∧ ((⟨0#5, .ror, 1#4⟩ : ImmShift).ty = .ror ∧ (⟨0#5, .ror, 1#4⟩ : ImmShift).amount.toNat = 0) := by
  decide

/-- The last two words of the address space. -/
theorem test_witness_WordSequences : ∀ k, k < 2 → Flat ready (0xFFFFFFF8#32 + BitVec.ofNat 32 (4 * k)) .word := by
  unfold Flat; decide

theorem test_witness_Misaligned :
    ready.sctlr.window = [] ∧ aligned .word 0xFFFFFFFA#32 = false ∧ (0xFFFFFFFA#32).toNat + 4 ≤ 2 ^ 32
      ∧ ctlM guarded.sctlr.current = true ∧ ctlA guarded.sctlr.current = true ∧ ctlM ready.sctlr.current = false
      ∧ (0xFFFFFFF7#32).toNat + 8 ≤ 2 ^ 32 ∧ (0xFFFFFFF7#32).extractLsb' 0 2 ≠ 0#2
      ∧ (0xFFFFFFF4#32).toNat + 8 ≤ 2 ^ 32 ∧ (0xFFFFFFF4#32).extractLsb' 0 3 = 4#3
      ∧ 2 ^ 32 < (0xFFFFFFFD#32).toNat + AccessSize.word.bytes := by
  decide

/-- Every size is read at R1; the words there make the three cases of a load of the PC. -/
theorem test_witness_LoadResults :
    condPassed .al ready.cpsr = true ∧ BaseAllowed .post 1#4 [0#4] ∧ BaseAllowed .offset 15#4 [15#4]
      ∧ OffsetForms2 ready .post 1#4 (.ldrImm .al .post true 1#4 0#4) (.ldrReg .al .post true 1#4 0#4) 4095#32
          (.ldrImm .al .post true 1#4 0#4 4095#12)
      ∧ OffsetForms3 ready .offset 1#4 (.ldrhImm .al .offset true 1#4 0#4) (.ldrhReg .al .offset true 1#4 0#4)
          (ready.readReg 4#4) (.ldrhReg .al .offset true 1#4 0#4 4#4)
      ∧ (∃ v t, memRead ready 0x1000#32 .word ready.user = .ok v t)
      ∧ (∃ v t, memRead ready 0x1000#32 .half ready.user = .ok v t)
      ∧ (∃ v t, memRead ready 0x1000#32 .byte ready.user = .ok v t)
      ∧ (∃ v t, memRead ready 0x1000#32 .word true = .ok v t) ∧ (∃ v t, memRead ready 0x1000#32 .byte true = .ok v t)
      ∧ (memRead ready 0x1000#32 .word ready.user = .ok 0x11#32 ready ∧ (0x11#32).getLsbD 0 = true)
      ∧ (memRead ready 0x1004#32 .word ready.user = .ok 0x10#32 ready ∧ (0x10#32).extractLsb' 0 2 = 0#2)
      ∧ (memRead ready 0x1008#32 .word ready.user = .ok 6#32 ready ∧ (6#32).extractLsb' 0 2 = 2#2) :=
  ⟨by decide, fun _ => by decide, fun h => absurd rfl h, .inl ⟨_, rfl, rfl⟩,
    .inr ⟨_, rfl, rfl, by decide, fun h => absurd rfl h⟩, exists_ok (by decide), exists_ok (by decide),
    exists_ok (by decide), exists_ok (by decide), exists_ok (by decide), ⟨rfl, by decide⟩, ⟨rfl, by decide⟩,
    ⟨rfl, by decide⟩⟩

theorem test_witness_StoreResults :
    Runs .al ready ∧ BaseAllowed .pre 1#4 [15#4]
      ∧ OffsetForms2 ready .pre 1#4 (.strImm .al .pre false 1#4 15#4) (.strReg .al .pre false 1#4 15#4)
          (scaledOffset ready ⟨2#5, .lsl, 4#4⟩) (.strReg .al .pre false 1#4 15#4 ⟨2#5, .lsl, 4#4⟩)
      ∧ (∃ u t, memWrite ready 0x1000#32 .word 1 ready.user = .ok u t)
      ∧ (∃ u t, memWrite ready 0x1000#32 .half 1 ready.user = .ok u t)
      ∧ (∃ u t, memWrite ready 0x1000#32 .byte 1 ready.user = .ok u t)
      ∧ (∃ u t, memWrite ready 0x1000#32 .word 1 true = .ok u t)
      ∧ (∃ u t, memWrite ready 0x1000#32 .byte 1 true = .ok u t)
      ∧ ∃ pa t, dataAddress ready 0x1000#32 .word .write ready.user = .ok pa t :=
  ⟨runs_ready, fun _ => by decide, .inr ⟨_, rfl, rfl, by decide, fun _ => by decide⟩, exists_ok (by decide),
    exists_ok (by decide), exists_ok (by decide), exists_ok (by decide), exists_ok (by decide), exists_ok (by decide)⟩

/-- A translation fault of every size, and an alignment fault; an exclusive store that passes its check and meets an
external error; a swap whose read completes and whose write does not. -/
theorem test_witness_AccessAborts :
    condPassed .al guarded.cpsr = true ∧ BaseAllowed .pre 1#4 [0#4] ∧ BaseAllowed .offset 1#4 [15#4]
      ∧ OffsetForms2 guarded .pre 1#4 (.ldrImm .al .pre true 1#4 0#4) (.ldrReg .al .pre true 1#4 0#4) 0#32
          (.ldrImm .al .pre true 1#4 0#4 0#12)
      ∧ (∃ a t, memRead guarded 0x1000#32 .byte guarded.user = .abort a t)
      ∧ (∃ a t, memRead guarded 0x1001#32 .half guarded.user = .abort a t)
      ∧ (∃ a t, memRead guarded 0x1000#32 .word true = .abort a t)
      ∧ (∃ a t, memWrite guarded 0x1000#32 .byte 0 guarded.user = .abort a t)
      ∧ (∃ a t, memWrite guarded 0x1002#32 .word 0 true = .abort a t)
      ∧ (∃ a t, dataAddress guarded (guarded.readReg 1#4) .word .write guarded.user = .abort a t)
      ∧ (let s := { answering .error .precise true with excl := some 0x1000 };
        (∃ pa t, dataAddress s (s.readReg 1#4) .word .write s.user = .ok pa t) ∧ s.excl = some (0x1000#40).toNat
          ∧ ∃ a t, writeAt s 0x1000 (s.readReg 1#4) .word (s.readReg 2#4) = .abort a t)
      ∧ (let s := { answering .served .precise true with responses := [.served, .error] };
        ∃ old t, memRead s (s.readReg 1#4) .word s.user = .ok old t
          ∧ ∃ a u, memWrite t (s.readReg 1#4) .word (s.readReg 2#4) s.user = .abort a u) :=
  ⟨by decide, fun _ => by decide, fun h => absurd rfl h, .inl ⟨_, rfl, rfl⟩, exists_abort (by decide),
    exists_abort (by decide), exists_abort (by decide), exists_abort (by decide), exists_abort (by decide),
    exists_abort (by decide), ⟨exists_ok (by decide), by decide, exists_abort (by decide)⟩,
    ⟨_, _, rfl, exists_abort (by decide)⟩⟩

theorem test_witness_DoublewordResults :
    Runs .al ready ∧ (2#4).getLsbD 0 = false ∧ 2#4 ≠ 14#4 ∧ BaseAllowed .post 1#4 [2#4, 3#4]
      ∧ (0xFFFFFFF8#32).extractLsb' 0 3 = 0#3 ∧ (0xFFFFFFF8#32).toNat + 8 ≤ 2 ^ 32
      ∧ OffsetForms3 ready .post 1#4 (.ldrdImm .al .post true 1#4 2#4) (.ldrdReg .al .post true 1#4 2#4) 8#32
          (.ldrdImm .al .post true 1#4 2#4 8#8)
      ∧ (∃ d t, memRead ready 0x1000#32 .word ready.user = .ok d t
          ∧ ∃ e u, memRead t (0x1000#32 + 4) .word ready.user = .ok e u)
      ∧ ∃ u t, writeWords ready 0x1000#32 ready.user [1#32, 2#32] = .ok u t :=
  ⟨runs_ready, by decide, by decide, fun _ => by decide, by decide, by decide, .inl ⟨_, rfl, rfl⟩,
    ⟨0x11#32, ready, rfl, exists_ok (by decide)⟩, exists_ok (by decide)⟩

theorem test_witness_SemaphoreResults :
    (Runs .al ready ∧ 15#4 ∉ [1#4, 0#4, 2#4] ∧ 0#4 ≠ 1#4 ∧ 0#4 ≠ 2#4
      ∧ (∃ pa t, dataAddress ready 0x1000#32 .word .read ready.user = .ok pa t)
      ∧ (∃ v u, readAt ready 0x1000 0x1000#32 .word = .ok v u)
      ∧ (∃ pa t, dataAddress { ready with excl := some 0x1000 } 0x1000#32 .word .write ready.user = .ok pa t)
      ∧ ({ ready with excl := some 0x1000 }).excl = some (0x1000#40).toNat
      ∧ (∃ v u, writeAt { ready with excl := some 0x1000 } 0x1000 0x1000#32 .word 1 = .ok v u)
      ∧ ready.excl ≠ some (0x1000#40).toNat)
      ∧ Runs .al ready ∧ 15#4 ∉ [1#4, 0#4, 2#4] ∧ 1#4 ≠ 0#4 ∧ 1#4 ≠ 2#4
      ∧ (∃ v, memRead ready 0x1000#32 .word ready.user = .ok v ready)
      ∧ (∃ u t, memWrite ready 0x1000#32 .word 1 ready.user = .ok u t)
      ∧ (∃ v, memRead ready 0x1000#32 .byte ready.user = .ok v ready)
      ∧ ∃ u t, memWrite ready 0x1000#32 .byte 1 ready.user = .ok u t :=
  ⟨⟨runs_ready, by decide, by decide, by decide, exists_ok (by decide), exists_ok (by decide), exists_ok (by decide),
    by decide, exists_ok (by decide), by decide⟩,
    runs_ready, by decide, by decide, by decide, ⟨0x11#32, rfl⟩, exists_ok (by decide), ⟨0x11#32, rfl⟩,
    exists_ok (by decide)⟩

/-- Lists of one, of all and with the PC; words that make each case of the PC; a mode with an SPSR and one without. -/
theorem test_witness_LoadMultipleResults :
    Runs .al ready ∧ 1#4 ≠ 15#4 ∧ 0x8001#16 ≠ 0 ∧ 1#4 ∉ listRegs 0x8001#16
      ∧ (0xFFFFFFF8#32).toNat + 4 * (listRegs 0x8001#16).length ≤ 2 ^ 32
      ∧ readWords ready 0x1000#32 ready.user 2 = .ok [0x11#32, 0x10#32] ready
      ∧ readWords ready 0x1000#32 ready.user 1 = .ok [0x11#32] ready
      ∧ (0x0001#16).getLsbD 15 = false ∧ (0x8000#16).getLsbD 15 = true
      ∧ ([0x11#32, 0x10#32].getLastD 0).extractLsb' 0 2 = 0#2 ∧ ([0x11#32].getLastD 0).getLsbD 0 = true
      ∧ readWords ready 0x1008#32 ready.user 1 = .ok [6#32] ready ∧ ([6#32].getLastD 0).extractLsb' 0 2 = 2#2
      ∧ ready.mode ≠ .usr ∧ ready.mode ≠ .sys ∧ Runs .al readyUser ∧ readyUser.mode = .usr
      ∧ (∃ q, ready.spsr.get ready.mode = some q ∧ q.returnable) ∧ readyUser.spsr.get readyUser.mode = none :=
  ⟨runs_ready, by decide, by decide, by decide, by decide, rfl, rfl, by decide, by decide, by decide, by decide,
    rfl, by decide, by decide, by decide, And.intro (by decide) (by decide), by decide, ⟨_, rfl, by unfold Psr.returnable; decide⟩, by decide⟩

/-- Lists of several and of one, with the PC and without; LDRD with an alignment fault of the pair, and with an abort of
an access; RFE. -/
theorem test_witness_MultipleLoadAborts :
    condPassed .al guarded.cpsr = true ∧ 1#4 ≠ 15#4 ∧ 0x8001#16 ≠ 0 ∧ 1#4 ∉ listRegs 0x8001#16
      ∧ (0x1000#32).toNat + 4 * (listRegs 0x8001#16).length ≤ 2 ^ 32
      ∧ (∃ a t, readWords guarded 0x1000#32 guarded.user 2 = .abort a t)
      ∧ (∃ a t, readWords guarded 0x1000#32 guarded.user 1 = .abort a t)
      ∧ (0x8001#16).getLsbD 15 = true ∧ (0x0003#16).getLsbD 15 = false ∧ guarded.mode ≠ .usr ∧ guarded.mode ≠ .sys
      ∧ (2#4).getLsbD 0 = false ∧ 2#4 ≠ 14#4 ∧ BaseAllowed .post 1#4 [2#4, 3#4]
      ∧ OffsetForms3 guarded .post 1#4 (.ldrdImm .al .post true 1#4 2#4) (.ldrdReg .al .post true 1#4 2#4) 8#32
          (.ldrdImm .al .post true 1#4 2#4 8#8)
      ∧ (∃ a t, checkPair guarded 0x1001#32 .read = .abort a t) ∧ checkPair guarded 0x1000#32 .read = .ok () guarded :=
  ⟨by decide, by decide, by decide, by decide, by decide, exists_abort (by decide), exists_abort (by decide), by decide,
    by decide, by decide, by decide, by decide, by decide, fun _ => by decide, .inl ⟨_, rfl, rfl⟩,
    exists_abort (by decide), rfl⟩

/-- Two words over the end of the section: the first is stored, the second aborts. -/
theorem test_witness_MultipleStoreAborts :
    condPassed .al mapped.cpsr = true ∧ 1#4 ≠ 15#4 ∧ 0x0006#16 ≠ 0 ∧ (listRegs 0x0006#16).head? = some 1#4
      ∧ (0x1FFFFC#32).toNat + 4 * (listRegs 0x0006#16).length ≤ 2 ^ 32
      ∧ (∃ a t, writeWords mapped 0x1FFFFC#32 mapped.user [1, 2] = .abort a t)
      ∧ openWords mapped 0x1FFFFC#32 mapped.user [1, 2] = [0x2FFFFC] ∧ mapped.mem.wf = true
      ∧ backed mapped.cfg 0x2FFFFC 4 = true ∧ mapped.mode ≠ .usr ∧ mapped.mode ≠ .sys
      ∧ (2#4).getLsbD 0 = false ∧ 2#4 ≠ 14#4 ∧ BaseAllowed .post 1#4 [2#4, 3#4]
      ∧ OffsetForms3 mapped .post 1#4 (.strdImm .al .post true 1#4 2#4) (.strdReg .al .post true 1#4 2#4) 8#32
          (.strdImm .al .post true 1#4 2#4 8#8)
      ∧ (0xFFFFFFF8#32).extractLsb' 0 3 = 0#3 ∧ (0xFFFFFFF8#32).toNat + 8 ≤ 2 ^ 32
      ∧ (∃ a t, writeWords mapped 0x200000#32 mapped.user [1, 2] = .abort a t)
      ∧ (∃ a t, checkPair guarded 0x1001#32 .write = .abort a t) ∧ ∃ q, mapped.spsr.get mapped.mode = some q :=
  ⟨by decide, by decide, by decide, by decide, by decide, exists_abort (by decide), by decide, by decide, by decide,
    by decide, by decide, by decide, by decide, fun _ => by decide, .inl ⟨_, rfl, rfl⟩, by decide, by decide,
    exists_abort (by decide), exists_abort (by decide), ⟨_, rfl⟩⟩

theorem test_witness_StoreMultipleResults :
    Runs .al ready ∧ 1#4 ≠ 15#4 ∧ 0x8002#16 ≠ 0 ∧ 1#4 ∈ listRegs 0x8002#16
      ∧ (listRegs 0x8002#16).head? = some 1#4
      ∧ (0xFFFFFFF8#32).toNat + 4 * (listRegs 0x8002#16).length ≤ 2 ^ 32
      ∧ (∃ u t, writeWords ready 0x1000#32 ready.user [0x1000#32, 0x8008#32] = .ok u t)
      ∧ ready.mode ≠ .usr ∧ ready.mode ≠ .sys ∧ Runs .al readyUser ∧ readyUser.mode = .usr :=
  ⟨runs_ready, by decide, by decide, by decide, by decide, by decide, exists_ok (by decide), by decide, by decide,
    And.intro (by decide) (by decide), by decide⟩

theorem test_witness_ReturnStateResults :
    ready.pc ≠ 0xFFFFFFFC#32 ∧ (∃ q, ready.spsr.get ready.mode = some q) ∧ readyUser.spsr.get readyUser.mode = none
      ∧ (multipleStart .ia (ready.readBank .svc 13#4) 2).toNat + 8 ≤ 2 ^ 32
      ∧ (∃ u t, writeWords ready 0#32 ready.user [1#32, 2#32] = .ok u t) ∧ ready.mode ≠ .usr ∧ 1#4 ≠ 15#4
      ∧ (∃ t, readWords ready 0x1000#32 ready.user 2 = .ok [0x11#32, 0x10#32] t) ∧ (Psr.ofWord 0x10#32).returnable
      ∧ Mode.ofBits 0b10100#5 = none :=
  ⟨by decide, ⟨_, rfl⟩, by decide, by decide, exists_ok (by decide), by decide, by decide, ⟨ready, rfl⟩,
    by unfold Psr.returnable; decide, by decide⟩

theorem test_witness_ExceptionInstructions :
    condPassed .al ready.cpsr = true ∧ Cond.ofBits ((0xFF000000#32).extractLsb' 28 4) = none
      ∧ Cond.ofBits ((0xE7F000F0#32).extractLsb' 28 4) = some .al
      ∧ ready.cfg.coprocessors.contains (14#4).toNat = false ∧ ready.cfg.hasIfar = false := by
  decide

theorem test_witness_SystemTransfers :
    Runs .al ready ∧ ready.cfg.coprocessors.contains 15 = true ∧ ready.mode ≠ .usr ∧ 14#4 ≠ 15#4
      ∧ (∃ u t, cp15Write ready 3#4 0#4 0#3 1 = .ok u t) ∧ (∃ v t, cp15Read ready 3#4 0#4 0#3 = .ok v t)
      ∧ Runs .al readyUser ∧ readyUser.mode = .usr :=
  ⟨runs_ready, by decide, by decide, by decide, exists_ok (by decide), exists_ok (by decide),
    And.intro (by decide) (by decide), by decide⟩

/-- A value that each register takes and one it does not; an open window. -/
theorem test_witness_SystemRegisters :
    0xFE9FFFFF#32 &&& 0x01600000#32 = 0 ∧ 0x00200000#32 &&& 0x01600000#32 ≠ 0
      ∧ 0xFFFFC01B#32 &&& (BitVec.ofNat 32 (2 ^ (14 - (ready.ttbcr.current.extractLsb' 0 3).toNat) - 32) ||| 4#32) = 0
      ∧ 0x4#32 &&& (BitVec.ofNat 32 (2 ^ (14 - (ready.ttbcr.current.extractLsb' 0 3).toNat) - 32) ||| 4#32) ≠ 0
      ∧ 0xFFFFC01B#32 &&& 0x00003FE4#32 = 0 ∧ 0x4#32 &&& 0x00003FE4#32 ≠ 0 ∧ 7#32 &&& 0xFFFFFFF8#32 = 0
      ∧ 8#32 &&& 0xFFFFFFF8#32 ≠ 0 ∧ (⟨1, []⟩ : Synced).window = [] ∧ (⟨1, [2]⟩ : Synced).window ≠ [] := by
  decide

/-- Separate TLBs of eight entries, two of them lockable on each side. -/
def locking (fixed unified : Bool) : State :=
  { ready with
    cfg := { Params.default with tlbUnified := unified, dlockN := 2, ilockN := 2, lockBaseFixedZero := fixed }
    tlbD := Tlb.empty 8 (if fixed then 2 else 0), tlbI := Tlb.empty 8 (if fixed then 2 else 0) }

/-- Each side, each form of the base, and the fields at their bounds: base and victim 1 of 2 lockable entries, and 2. -/
theorem test_witness_FaultAndLockdownRegisters :
    (0x00000CFF#32 &&& 0xFFFFF300#32 = 0 ∧ 0x100#32 &&& 0xFFFFF300#32 ≠ 0 ∧ 0x40F#32 &&& 0xFFFFFBF0#32 = 0
      ∧ 0x10#32 &&& 0xFFFFFBF0#32 ≠ 0)
      ∧ (({ Params.default with hasIfar := true }).hasIfar = true ∧ Params.default.hasIfar = false)
      ∧ (Params.default.dlockN = 0 ∧ Params.default.dlockN < 256) ∧ (locking false true).cfg.tlbUnified = true
      ∧ (0 < (locking false false).cfg.ilockN ∧ (locking false false).cfg.tlbUnified = false)
      ∧ lockWidth 8 = 3 ∧ 2 * lockWidth 8 < 32
      ∧ ((0x24000001#32).toNat / 2 ^ 29 < 2 ∧ (0x24000001#32).toNat / 2 ^ 26 % 2 ^ 3 < 2)
      ∧ 2 ≤ (0x40000000#32).toNat / 2 ^ 29 ∧ 2 ≤ (0x08000000#32).toNat / 2 ^ 26 % 2 ^ 3
      ∧ (locking false false).tlbI.Bounded (locking false false).cfg 2
      ∧ (locking true false).tlbD.Bounded (locking true false).cfg 2 := by
  unfold Tlb.Bounded; decide

/-- InvalidateAll takes the unlocked entries out and leaves the locked ones in their slots, main and dedicated, and the
lockdown register as it was (R350, R76). -/
theorem test_invalidate_all_keeps_locked :
    let gone := entryBase 0 0
    let kept := { gone with locked := true }
    let tlb : Tlb :=
      { slots := [some gone, none, some kept], lockSlots := [none, some kept], base := 1, victim := 2, p := true }
    ∃ t, cp15Write { ready with tlbD := tlb } 8#4 7#4 0#3 0 = .ok () t
      ∧ t.tlbD = { tlb with slots := [none, none, some kept] } :=
  ⟨_, rfl, by decide⟩

theorem test_witness_TlbInvalidation :
    5#4 ∈ [5#4, 6#4, 7#4] ∧ guarded.cfg.tlbUnified = true ∧ (locking false false).cfg.tlbUnified = false
      ∧ ctlXP guarded.sctlr.current = true ∧ (0x1000FF#32).extractLsb' 8 4 = 0#4
      ∧ (0xFF#32).extractLsb' 8 24 = 0#24 := by
  decide

/-- The four domain values; permission tables that say nothing, yes and no; a fetch from an execute-never block. -/
theorem test_witness_AccessCheck :
    let e := entryBase 0 0
    let d := fun domain : BitVec 4 => (0x8D#32 >>> (2 * domain.toNat)).setWidth 2
    ({ ready with dacr := ⟨0x8D, []⟩ }.useSynced ⟨0x8D, []⟩).1 = 0x8D#32
      ∧ d 4#4 = 0#2 ∧ d 0#4 = 1#2 ∧ d 3#4 = 2#2 ∧ d 1#4 = 3#2
      ∧ permitted { e with sBit := true, rBit := true } false .read = none
      ∧ permitted { e with ap := 3#2 } true .write = some true ∧ permitted e false .read = some false
      ∧ permitted { e with ap := 3#2, xn := true } true .fetch = some true := by
  decide

/-- The entry of `mapped`'s section. -/
def mappedEntry : TlbEntry := sectionEntry (entryBase 0x00800009 0) 0x00200002 0x00100000

/-- One matching entry, none with a section and with a fault behind it, and two; a check that passes and one that aborts;
reserved attributes. -/
theorem test_witness_TlbLookup :
    (0 < 1 ∧ 0 < 1) ∧ (7 < 8 ∧ 6 < 7) ∧ lockable (locking false false).cfg true ≠ 0 ∧ lockable mapped.cfg true = 0
      ∧ mapped.sctlr.window = [] ∧ ctlM mapped.sctlr.current = true ∧ aligned .word 0xFFFFFFFC#32 = true
      ∧ (0xFFFFFFFC#32).toNat + AccessSize.word.bytes ≤ 2 ^ 32
      ∧ mapped.contextId.window = [] ∧ mapped.replacements = []
      ∧ (let found := fun t : Tlb => t.entries.filter fun e =>
          entryCovers e 0x00100004#32 && (e.global || e.asid == mapped.contextId.current.setWidth 8);
        found mapped.tlbD = [] ∧ found { mapped.tlbD with slots := [some mappedEntry] } = [mappedEntry]
          ∧ 2 ≤ (found { mapped.tlbD with slots := [some mappedEntry, some mappedEntry] }).length)
      ∧ (∃ e t, walk mapped 0x00100004#32 .read = .ok e t) ∧ (∃ a t, walk mapped 0x00200000#32 .read = .abort a t)
      ∧ ctlXP 0#32 = false ∧ ctlXP mapped.sctlr.current = true
      ∧ (∃ e t, lookup mapped 0x00100004#32 .read = .ok e t) ∧ (∃ a t, lookup mapped 0x00200000#32 .read = .abort a t)
      ∧ (∃ u t, checkAccess mapped mappedEntry .read true 0x00100004#32 = .ok u t)
      ∧ (∃ a t, checkAccess mapped { mappedEntry with domain := 5#4 } .read true 0x00100004#32 = .abort a t)
      ∧ ({ mappedEntry with tex := 3#3 }).tex = 3#3 ∧ mappedEntry.tex = 0#3 :=
  ⟨by decide, by decide, by decide, by decide, by decide, by decide, by decide, by decide, by decide, by decide,
    by decide, exists_ok (by decide), exists_abort (by decide), by decide, by decide, exists_ok (by decide),
    exists_abort (by decide), exists_ok (by decide), exists_abort (by decide), by decide, by decide⟩

/-- The descriptor is read at the rounded-down address when TTBR0 has bits set below its base (R192). -/
theorem test_walk_rounds_base_down :
    ∃ e t, walk { mapped with ttbr0 := ⟨0x00007FE0, []⟩ } 0x00100004#32 .read = .ok e t ∧ e = mappedEntry :=
  ⟨_, _, rfl, by decide⟩

/-- The same through the registers (R337): TTBR0 is 0x7000, legal with N = 2; after a TTBCR write with N = 0 bits[13:12]
are insignificant and a walk refuses them, and after one with N = 3 it does not. -/
theorem test_walk_after_ttbcr_write :
    let walked := fun n : Word =>
      match cp15Write { mapped with ttbcr := ⟨2, []⟩ } 2#4 0#4 0#3 0x7000 with
      | .ok _ s1 =>
        match cp15Write s1 2#4 0#4 2#3 n with
        | .ok _ s2 =>
          match cp15Write s2 7#4 5#4 4#3 0 with
          | .ok _ s3 => walk { s3 with mem := Memory.writeBytes [] 0x7004 (wordToBytes 0x00200002 4) } 0x00100004 .read
          | _ => .refused .misaligned
        | _ => .refused .misaligned
      | _ => .refused .misaligned
    (∃ s, walked 3 = .ok mappedEntry s) ∧ walked 0 = .refused .tableBaseInsignificant :=
  ⟨⟨_, rfl⟩, rfl⟩

/-- Each base register with N = 7 at its boundary, a base register that is refused for each reason, a TTBR0 whose bits
below the base are refused, the three writes before such a walk, a descriptor of each
kind and each reserved one, in tables that memory backs; and the section end to end. -/
theorem test_witness_TableWalk :
    ((let s := { mapped with ttbcr := ⟨7, []⟩ };
      s.ttbr1.window = [] ∧ s.ttbcr.window = [] ∧ s.responses = [] ∧ (s.ttbcr.current.extractLsb' 0 3).toNat = 7
        ∧ (0x01FFFFFF#32).toNat < 2 ^ (32 - 7) ∧ ¬(7 = 0 ∨ (0x02000000#32).toNat < 2 ^ (32 - 7)))
      ∧ ((0x4008#32).extractLsb' 3 2 = 1#2 ∧ (0x4004#32).getLsbD 2 = true
        ∧ ¬((0x5093#32).extractLsb' 3 2 = 1#2 ∨ (0x5093#32).getLsbD 2 = true))
      ∧ (0x7000#32 &&& BitVec.ofNat 32 (2 ^ (14 - 0) - 32) ≠ 0 ∧ 0x7000#32 &&& BitVec.ofNat 32 (2 ^ (14 - 3) - 32) = 0
        ∧ ∃ w ∈ ({ mapped with ttbr0Writes := [⟨0x7000, [0]⟩] }).ttbr0Writes, w.value = 0x7000#32 ∧ 0 ∈ w.laterN)
      ∧ ((4#32).extractLsb' 0 2 = 0#2 ∧ (7#32).extractLsb' 0 2 = 3#2)
      ∧ ((0x202#32).extractLsb' 0 2 = 2#2 ∧ (0x202#32).getLsbD 9 = true ∧ (0x80002#32).getLsbD 19 = true
        ∧ (0x40002#32).getLsbD 9 = false ∧ (0x40002#32).getLsbD 19 = false ∧ (0x40002#32).getLsbD 18 = true
        ∧ (2#32).getLsbD 18 = false ∧ ((0x401E2#32).extractLsb' 5 4).toNat * 2 ^ 4 + 0 < 2 ^ 8
        ∧ 2 ^ 0 ≤ ((0x40022#32).extractLsb' 5 4).toNat * 2 ^ 4 + 0)
      ∧ ((0x201#32).extractLsb' 0 2 = 1#2 ∧ (0x201#32).getLsbD 9 = true ∧ (0x5#32).extractLsb' 2 3 ≠ 0#3
        ∧ (0x1E1#32).getLsbD 9 = false ∧ (0x1E1#32).extractLsb' 2 3 = 0#3)
      ∧ ((0x41#32).extractLsb' 0 2 = 1#2 ∧ (0x41#32).extractLsb' 6 3 ≠ 0#3 ∧ (0xF001#32).extractLsb' 6 3 = 0#3
        ∧ (2#32).getLsbD 1 = true ∧ (3#32).getLsbD 1 = true))
      ∧ (∃ s1 s2 s3, cp15Write { mapped with ttbcr := ⟨2, []⟩ } 2#4 0#4 0#3 0x7000 = .ok () s1
        ∧ cp15Write s1 2#4 0#4 2#3 0 = .ok () s2 ∧ cp15Write s2 7#4 5#4 4#3 0 = .ok () s3
        ∧ (0x7000#32).extractLsb' 3 2 ≠ 1#2)
      ∧ (mapped.sctlr.window = [] ∧ mapped.ttbr0.window = [] ∧ mapped.ttbcr.window = [] ∧ mapped.contextId.window = []
      ∧ mapped.dacr.window = [] ∧ mapped.replacements = [] ∧ mapped.responses = [] ∧ mapped.cfg.tlbUnified = true ∧ mapped.tlbD.entries = [])
      ∧ ctlXP mapped.sctlr.current = true ∧ mapped.ttbcr.current = 0 ∧ mapped.ttbr0.current &&& 0x00003FFF#32 = 0
      ∧ (mapped.ttbr0.current + (0x00100004#32 >>> 20) * 4).toNat = 0x4004 ∧ backed mapped.cfg 0x4004 4 = true
      ∧ assemble (ctlEE mapped.sctlr.current) (mapped.mem.readBytes 0x4004 4) = 0x00200002#32
      ∧ 0x00200002#32 &&& 0x000C0203#32 = 2#32 ∧ (0x00200002#32).extractLsb' 12 3 = 0#3
      ∧ domainAccess mapped.dacr.current ((0x00200002#32).extractLsb' 5 4) = 3#2 :=
  ⟨by decide, ⟨_, _, _, rfl, rfl, rfl, by decide⟩, by decide, by decide, by decide, by decide, by decide, by decide,
    by decide, by decide, by decide, by decide⟩

end Sys2Proof.Machine
end

/-!
The condition table of R262: when each of the fifteen conditions passes, and with the codes of the condition field the
table itself.
-/

namespace Sys2Proof.Machine

open Sys2Proof

/-! ### When each condition passes -/

section

variable (p : Psr)

@[simp] theorem condPassed_eq : condPassed .eq p = true ↔ p.z = true := Iff.rfl

@[simp] theorem condPassed_ne : condPassed .ne p = true ↔ p.z = false := by simp [condPassed]

@[simp] theorem condPassed_cs : condPassed .cs p = true ↔ p.c = true := Iff.rfl

@[simp] theorem condPassed_cc : condPassed .cc p = true ↔ p.c = false := by simp [condPassed]

@[simp] theorem condPassed_mi : condPassed .mi p = true ↔ p.n = true := Iff.rfl

@[simp] theorem condPassed_pl : condPassed .pl p = true ↔ p.n = false := by simp [condPassed]

@[simp] theorem condPassed_vs : condPassed .vs p = true ↔ p.v = true := Iff.rfl

@[simp] theorem condPassed_vc : condPassed .vc p = true ↔ p.v = false := by simp [condPassed]

@[simp] theorem condPassed_hi : condPassed .hi p = true ↔ p.c = true ∧ p.z = false := by simp [condPassed]

@[simp] theorem condPassed_ls : condPassed .ls p = true ↔ p.c = false ∨ p.z = true := by simp [condPassed]

@[simp] theorem condPassed_ge : condPassed .ge p = true ↔ p.n = p.v := beq_iff_eq

@[simp] theorem condPassed_lt : condPassed .lt p = true ↔ p.n ≠ p.v := bne_iff_ne

@[simp] theorem condPassed_gt : condPassed .gt p = true ↔ p.z = false ∧ p.n = p.v := by simp [condPassed]

@[simp] theorem condPassed_le : condPassed .le p = true ↔ p.z = true ∨ p.n ≠ p.v := by simp [condPassed]

@[simp] theorem condPassed_al : condPassed .al p = true := rfl

end

/-! ### The table -/

/-- Settles O10: each row pairs the code `Cond.bits` gives its condition with the flags that condition tests. -/
theorem conditionTable : Obligations.ConditionTable := by
  intro p
  exact ⟨⟨Cond.ofBits_bits .eq, condPassed_eq p⟩, ⟨Cond.ofBits_bits .ne, condPassed_ne p⟩,
    ⟨Cond.ofBits_bits .cs, condPassed_cs p⟩, ⟨Cond.ofBits_bits .cc, condPassed_cc p⟩,
    ⟨Cond.ofBits_bits .mi, condPassed_mi p⟩, ⟨Cond.ofBits_bits .pl, condPassed_pl p⟩,
    ⟨Cond.ofBits_bits .vs, condPassed_vs p⟩, ⟨Cond.ofBits_bits .vc, condPassed_vc p⟩,
    ⟨Cond.ofBits_bits .hi, condPassed_hi p⟩, ⟨Cond.ofBits_bits .ls, condPassed_ls p⟩,
    ⟨Cond.ofBits_bits .ge, condPassed_ge p⟩, ⟨Cond.ofBits_bits .lt, condPassed_lt p⟩,
    ⟨Cond.ofBits_bits .gt, condPassed_gt p⟩, ⟨Cond.ofBits_bits .le, condPassed_le p⟩,
    ⟨Cond.ofBits_bits .al, iff_true_intro (condPassed_al p)⟩, Cond.ofBits_ones⟩

end Sys2Proof.Machine

/-!
The branch that names its target in Thumb state, BLX (1) of R403.
-/

namespace Sys2Proof.Machine

open Sys2Proof

/-- Settles O29: BLX (1) has no condition field, so its refusal waits on no test of the state. -/
theorem blxAddressRefused : Obligations.BlxAddressRefused := by
  intro s h imm
  calc exec (.blx1 h imm) s
    _ = execBlx1 h imm s := rfl
    _ = .refused .thumbState := rfl

end Sys2Proof.Machine

/-!
The endianness bit of the CPSR: SETEND of R596.
-/

namespace Sys2Proof.Machine

open Sys2Proof

/-- SETEND has no condition field and asks for no mode: it is the write of E and the advance of the pc. -/
theorem exec_setend (e : Bool) (s : State) :
    exec (.setend e) s = ({ s with cpsr := { s.cpsr with e := e } } : State).advance := rfl

/-- Settles O33: bit 9 tells the two words apart, and the write of E leaves the pc that the advance tests. -/
theorem setendResult : Obligations.SetendResult := by
  refine ⟨?big_endian_word, ?little_endian_word, ?result⟩
  case big_endian_word => decide
  case little_endian_word => decide
  case result =>
    intro s e hpc
    calc exec (.setend e) s
      _ = ({ s with cpsr := { s.cpsr with e := e } } : State).advance := exec_setend e s
      _ = .next { s with cpsr := { s.cpsr with e := e }, pc := s.pc + 4 } := State.advance_next hpc

end Sys2Proof.Machine

/-!
The decoder undoes the encoder: an encoding is eight nibbles, the decoder branches on the fixed bits among them, and the
fields it cuts out again are the operands.
-/

namespace Sys2Proof

/-! ### Fields cut out of nibbles -/

/-- The fields of an operand, put together again. -/
theorem join_bits5_high (x : BitVec 5) : x.extractLsb' 1 4 ++ x.extractLsb' 0 1 = x := by revert x; decide

theorem join_bits5_low (x : BitVec 5) : x.extractLsb' 4 1 ++ x.extractLsb' 0 4 = x := by revert x; decide

theorem join_bits8 (x : BitVec 8) : x.extractLsb' 4 4 ++ x.extractLsb' 0 4 = x := by
  ext i hi
  simp only [BitVec.getElem_append, BitVec.getElem_extractLsb']
  repeat' split
  all_goals (rw [← BitVec.getLsbD_eq_getElem hi]; congr 1; omega)

theorem join_bits12 (x : BitVec 12) : x.extractLsb' 8 4 ++ x.extractLsb' 4 4 ++ x.extractLsb' 0 4 = x := by
  ext i hi
  simp only [BitVec.getElem_append, BitVec.getElem_extractLsb']
  repeat' split
  all_goals (rw [← BitVec.getLsbD_eq_getElem hi]; congr 1; omega)

theorem join_bits15 (x : BitVec 15) :
    x.extractLsb' 12 3 ++ x.extractLsb' 8 4 ++ x.extractLsb' 4 4 ++ x.extractLsb' 0 4 = x := by
  ext i hi
  simp only [BitVec.getElem_append, BitVec.getElem_extractLsb']
  repeat' split
  all_goals (rw [← BitVec.getLsbD_eq_getElem hi]; congr 1; omega)

theorem join_bits16 (x : BitVec 16) :
    x.extractLsb' 12 4 ++ x.extractLsb' 8 4 ++ x.extractLsb' 4 4 ++ x.extractLsb' 0 4 = x := by
  ext i hi
  simp only [BitVec.getElem_append, BitVec.getElem_extractLsb']
  repeat' split
  all_goals (rw [← BitVec.getLsbD_eq_getElem hi]; congr 1; omega)

theorem join_bits24 (x : BitVec 24) :
    x.extractLsb' 20 4 ++ x.extractLsb' 16 4 ++ x.extractLsb' 12 4 ++ x.extractLsb' 8 4 ++ x.extractLsb' 4 4
      ++ x.extractLsb' 0 4 = x := by
  ext i hi
  simp only [BitVec.getElem_append, BitVec.getElem_extractLsb']
  repeat' split
  all_goals (rw [← BitVec.getLsbD_eq_getElem hi]; congr 1; omega)

theorem bitVec1_cases (x : BitVec 1) : x = 0#1 ∨ x = 1#1 := by revert x; decide

theorem bitVec2_cases (x : BitVec 2) : x = 0#2 ∨ x = 1#2 ∨ x = 2#2 ∨ x = 3#2 := by revert x; decide

theorem bitVec3_cases (x : BitVec 3) :
    x = 0#3 ∨ x = 1#3 ∨ x = 2#3 ∨ x = 3#3 ∨ x = 4#3 ∨ x = 5#3 ∨ x = 6#3 ∨ x = 7#3 := by revert x; decide

/-- A nibble of three bits above a zero or a one. -/
theorem bits4_of_bits3 (x : BitVec 3) :
    (x ++ 0#1)[0] = false ∧ (x ++ 1#1)[0] = true ∧ (x ++ 0#1).extractLsb' 1 3 = x
      ∧ (x ++ 1#1).extractLsb' 1 3 = x := by revert x; decide

/-- The nibble that holds the low bit of a shift amount, the shift of a saturation and 01. -/
theorem saturate_nibble (x : BitVec 1) (sh : Bool) :
    (x ++ BitVec.ofBool sh ++ 1#2)[0] = true ∧ (x ++ BitVec.ofBool sh ++ 1#2)[1] = false
      ∧ (x ++ BitVec.ofBool sh ++ 1#2)[2] = sh ∧ (x ++ BitVec.ofBool sh ++ 1#2).extractLsb' 3 1 = x := by
  revert x; cases sh <;> decide

/-- The nibble that holds the low bit of a shift amount, the shift type and a zero. -/
theorem immShift_nibble (x : BitVec 1) (t : ShiftType) :
    (x ++ t.bits ++ 0#1).getLsbD 0 = false ∧ (x ++ t.bits ++ 0#1).extractLsb' 3 1 = x
      ∧ ShiftType.ofBits ((x ++ t.bits ++ 0#1).extractLsb' 1 2) = t := by
  revert x; cases t <;> decide

/-- The branch of a decoder for another value than the one it tests. -/
theorem cond_beq_of_bne {x y : BitVec 4} (h : (x != y) = true) (i j : Instr) : (bif x == y then i else j) = j := by
  have h : (x == y) = false := by simpa using h
  rw [h]; rfl

/-! ### Decoding eight nibbles -/

theorem decode_joinNibbles {w : Word} {n7 n6 n5 n4 n3 n2 n1 n0 : BitVec 4}
    (h : w = joinNibbles n7 n6 n5 n4 n3 n2 n1 n0) : decode w = decodeNibbles w n7 n6 n5 n4 n3 n2 n1 n0 := by
  subst h
  simp only [decode, nibble_zero, nibble_one, nibble_two, nibble_three, nibble_four, nibble_five, nibble_six,
    nibble_seven]

/-- An instruction with a condition field decodes by its other nibbles, and `x` by the fields `y` cut out of them. -/
theorem decode_encode_of_field {α : Type} {i : α → Instr} {x y : α} {c : Cond} {n6 n5 n4 n3 n2 n1 n0 : BitVec 4}
    (hxy : y = x) (he : encode (i x) = joinNibbles c.bits n6 n5 n4 n3 n2 n1 n0)
    (hd : ∀ w, decodeConditional w c n6 n5 n4 n3 n2 n1 n0 = i y) : decode (encode (i x)) = i x := by
  rw [decode_joinNibbles he, decodeNibbles, Cond.ofBits_bits]
  exact (hd _).trans (congrArg i hxy)

theorem decode_encode_of_nibbles {i : Instr} {c : Cond} {n6 n5 n4 n3 n2 n1 n0 : BitVec 4}
    (he : encode i = joinNibbles c.bits n6 n5 n4 n3 n2 n1 n0)
    (hd : ∀ w, decodeConditional w c n6 n5 n4 n3 n2 n1 n0 = i) : decode (encode i) = i :=
  decode_encode_of_field (i := fun _ : Unit => i) (x := ()) rfl he hd

/-- The same with the field 1111, which is no condition. -/
theorem decode_encode_of_field' {α : Type} {i : α → Instr} {x y : α} {n6 n5 n4 n3 n2 n1 n0 : BitVec 4}
    (hxy : y = x) (he : encode (i x) = joinNibbles 0xF#4 n6 n5 n4 n3 n2 n1 n0)
    (hd : ∀ w, decodeUnconditional w n6 n5 n4 n3 n2 n1 n0 = i y) : decode (encode (i x)) = i x := by
  rw [decode_joinNibbles he, decodeNibbles, Cond.ofBits_ones]
  exact (hd _).trans (congrArg i hxy)

theorem decode_encode_of_nibbles' {i : Instr} {n6 n5 n4 n3 n2 n1 n0 : BitVec 4}
    (he : encode i = joinNibbles 0xF#4 n6 n5 n4 n3 n2 n1 n0)
    (hd : ∀ w, decodeUnconditional w n6 n5 n4 n3 n2 n1 n0 = i) : decode (encode i) = i :=
  decode_encode_of_field' (i := fun _ : Unit => i) (x := ()) rfl he hd

/-- An operand shifted by an immediate: the amount stands in two nibbles, its low bit above the type and the zero that
tells it from a shift by a register. -/
theorem decode_encode_of_immShift {i : ImmShift → Instr} {c : Cond} {n6 n5 n4 n3 : BitVec 4} (op : ImmShift)
    (he : encode (i op) = joinNibbles c.bits n6 n5 n4 n3 (op.amount.extractLsb' 1 4)
      (op.amount.extractLsb' 0 1 ++ op.ty.bits ++ 0#1) op.rm)
    (hd : ∀ w n2 n1 n0, n1.getLsbD 0 = false → decodeConditional w c n6 n5 n4 n3 n2 n1 n0
      = i ⟨n2 ++ n1.extractLsb' 3 1, .ofBits (n1.extractLsb' 1 2), n0⟩) : decode (encode (i op)) = i op := by
  refine decode_encode_of_field (y := ⟨op.amount.extractLsb' 1 4 ++ op.amount.extractLsb' 0 1, op.ty, op.rm⟩)
    (by rw [join_bits5_high]) he fun w => ?_
  rw [hd _ _ _ _ (immShift_nibble ..).1, (immShift_nibble ..).2.1, (immShift_nibble ..).2.2]

/-- The data-processing instructions with an operand shifted by an immediate. -/
theorem decodeConditional_shiftImm {c : Cond} {n6 n5 n1 : BitVec 4} (h6 : n6.toNat = 0 ∨ n6.toNat = 1)
    (hc : isControlSpace n6 n5 = false) (h1 : n1.getLsbD 0 = false) (w : Word) (n4 n3 n2 n0 : BitVec 4) :
    decodeConditional w c n6 n5 n4 n3 n2 n1 n0 = decodeShiftImm w c n6 n5 n4 n3 n2 n1 n0 := by
  obtain h6 | h6 := h6 <;> simp only [decodeConditional, h6, decodeGroup0, hc, h1, Bool.and_false, cond_false]

/-- Addressing mode 2 with a scaled register offset. -/
theorem decodeConditional_mode2Reg {c : Cond} {n6 n1 : BitVec 4} (h6 : n6.toNat = 6 ∨ n6.toNat = 7)
    (h1 : n1.getLsbD 0 = false) (w : Word) (n5 n4 n3 n2 n0 : BitVec 4) :
    decodeConditional w c n6 n5 n4 n3 n2 n1 n0 = decodeMode2Reg c n6 n5 n4 n3 n2 n1 n0 := by
  obtain h6 | h6 := h6 <;> simp only [decodeConditional, h6, h1, cond_false]

/-- An operand shifted by a register. -/
theorem decode_encode_of_regShift {i : RegShift → Instr} {c : Cond} {n6 n5 n4 n3 : BitVec 4} (op : RegShift)
    (he : encode (i op) = joinNibbles c.bits n6 n5 n4 n3 op.rs (0#1 ++ op.ty.bits ++ 1#1) op.rm)
    (hd : ∀ w rs ty rm, decodeConditional w c n6 n5 n4 n3 rs (0#1 ++ ShiftType.bits ty ++ 1#1) rm
      = i ⟨rs, ty, rm⟩) :
    decode (encode (i op)) = i op :=
  decode_encode_of_field rfl he fun w => hd w op.rs op.ty op.rm

/-- An immediate operand. -/
theorem decode_encode_of_rotImm {i : RotImm → Instr} {c : Cond} {n6 n5 n4 n3 : BitVec 4} (op : RotImm)
    (he : encode (i op) = joinNibbles c.bits n6 n5 n4 n3 op.rot (op.imm.extractLsb' 4 4) (op.imm.extractLsb' 0 4))
    (hd : ∀ w rot high low, decodeConditional w c n6 n5 n4 n3 rot high low = i ⟨rot, high ++ low⟩) :
    decode (encode (i op)) = i op :=
  decode_encode_of_field (y := ⟨op.rot, op.imm.extractLsb' 4 4 ++ op.imm.extractLsb' 0 4⟩) (by rw [join_bits8]) he
    fun w => hd w _ _ _

/-! ### The round trip, for each constructor -/

namespace RoundTrip

theorem cps (imod : BitVec 2) (mmod a i f : Bool) (mode : BitVec 5) :
    decode (encode (.cps imod mmod a i f mode)) = .cps imod mmod a i f mode :=
  decode_encode_of_field' (i := .cps imod mmod a i f) (join_bits5_low mode) rfl fun _ => by
    obtain h | h := bitVec1_cases (mode.extractLsb' 4 1) <;> rw [h] <;>
      obtain rfl | rfl | rfl | rfl := bitVec2_cases imod <;> cases mmod <;> cases a <;> cases i <;> cases f <;> rfl

theorem setend (e : Bool) : decode (encode (.setend e)) = .setend e :=
  decode_encode_of_nibbles' rfl fun _ => by cases e <;> rfl

theorem pldImm (u : Bool) (rn : Reg) (imm : BitVec 12) : decode (encode (.pldImm u rn imm)) = .pldImm u rn imm :=
  decode_encode_of_field' (i := .pldImm u rn) (join_bits12 imm) rfl fun _ => by cases u <;> rfl

theorem pldReg (u : Bool) (rn : Reg) (op : ImmShift) : decode (encode (.pldReg u rn op)) = .pldReg u rn op :=
  decode_encode_of_field' (i := .pldReg u rn)
    (y := ⟨op.amount.extractLsb' 1 4 ++ op.amount.extractLsb' 0 1, op.ty, op.rm⟩)
    (by rw [join_bits5_high]) rfl fun _ => by
      obtain h | h := bitVec1_cases (op.amount.extractLsb' 0 1) <;> rw [h] <;> generalize op.ty = ty <;>
        cases u <;> cases ty <;> rfl

theorem srs (am : AddrMode4) (wb : Bool) (mode : BitVec 5) : decode (encode (.srs am wb mode)) = .srs am wb mode :=
  decode_encode_of_field' (i := .srs am wb) (join_bits5_low mode) rfl fun _ => by
    obtain h | h := bitVec1_cases (mode.extractLsb' 4 1) <;> rw [h] <;> cases am <;> cases wb <;> rfl

theorem rfe (am : AddrMode4) (wb : Bool) (rn : Reg) : decode (encode (.rfe am wb rn)) = .rfe am wb rn :=
  decode_encode_of_nibbles' rfl fun _ => by cases am <;> cases wb <;> rfl

theorem blx1 (h : Bool) (imm : BitVec 24) : decode (encode (.blx1 h imm)) = .blx1 h imm :=
  decode_encode_of_field' (i := .blx1 h) (join_bits24 imm) rfl fun _ => by cases h <;> rfl

theorem mcrr2 (rn rd : Reg) (cp op crm : BitVec 4) :
    decode (encode (.mcrr2 rn rd cp op crm)) = .mcrr2 rn rd cp op crm :=
  decode_encode_of_nibbles' rfl fun _ => rfl

theorem mrrc2 (rn rd : Reg) (cp op crm : BitVec 4) :
    decode (encode (.mrrc2 rn rd cp op crm)) = .mrrc2 rn rd cp op crm :=
  decode_encode_of_nibbles' rfl fun _ => rfl

theorem stc2 (p u n wb : Bool) (rn : Reg) (crd cp : BitVec 4) (off : BitVec 8) (hwf :
    (Instr.stc2 p u n wb rn crd cp off).wellFormed = true) :
    decode (encode (.stc2 p u n wb rn crd cp off)) = .stc2 p u n wb rn crd cp off :=
  decode_encode_of_field' (i := .stc2 p u n wb rn crd cp) (join_bits8 off) rfl fun _ => by
    cases p <;> cases u <;> cases wb <;> cases n <;> first | rfl | cases hwf

theorem ldc2 (p u n wb : Bool) (rn : Reg) (crd cp : BitVec 4) (off : BitVec 8) (hwf :
    (Instr.ldc2 p u n wb rn crd cp off).wellFormed = true) :
    decode (encode (.ldc2 p u n wb rn crd cp off)) = .ldc2 p u n wb rn crd cp off :=
  decode_encode_of_field' (i := .ldc2 p u n wb rn crd cp) (join_bits8 off) rfl fun _ => by
    cases p <;> cases u <;> cases wb <;> cases n <;> first | rfl | cases hwf

theorem cdp2 (op1 crn crd cp : BitVec 4) (op2 : BitVec 3) (crm : BitVec 4) :
    decode (encode (.cdp2 op1 crn crd cp op2 crm)) = .cdp2 op1 crn crd cp op2 crm :=
  decode_encode_of_nibbles' rfl fun _ => by
    simp [decodeUnconditional, bits4_of_bits3 op2]

theorem mcr2 (op1 : BitVec 3) (crn : BitVec 4) (rd : Reg) (cp : BitVec 4) (op2 : BitVec 3) (crm : BitVec 4) :
    decode (encode (.mcr2 op1 crn rd cp op2 crm)) = .mcr2 op1 crn rd cp op2 crm :=
  decode_encode_of_nibbles' rfl fun _ => by
    simp [decodeUnconditional, bits4_of_bits3 op2, bits4_of_bits3 op1]

theorem mrc2 (op1 : BitVec 3) (crn : BitVec 4) (rd : Reg) (cp : BitVec 4) (op2 : BitVec 3) (crm : BitVec 4) :
    decode (encode (.mrc2 op1 crn rd cp op2 crm)) = .mrc2 op1 crn rd cp op2 crm :=
  decode_encode_of_nibbles' rfl fun _ => by
    simp [decodeUnconditional, bits4_of_bits3 op2, bits4_of_bits3 op1]

theorem mul (c : Cond) (s : Bool) (rd rs rm : Reg) : decode (encode (.mul c s rd rs rm)) = .mul c s rd rs rm :=
  decode_encode_of_nibbles rfl fun _ => by cases s <;> rfl

theorem mla (c : Cond) (s : Bool) (rd rn rs rm : Reg) :
    decode (encode (.mla c s rd rn rs rm)) = .mla c s rd rn rs rm :=
  decode_encode_of_nibbles rfl fun _ => by cases s <;> rfl

theorem umaal (c : Cond) (rdHi rdLo rs rm : Reg) :
    decode (encode (.umaal c rdHi rdLo rs rm)) = .umaal c rdHi rdLo rs rm :=
  decode_encode_of_nibbles rfl fun _ => rfl

theorem umull (c : Cond) (s : Bool) (rdHi rdLo rs rm : Reg) :
    decode (encode (.umull c s rdHi rdLo rs rm)) = .umull c s rdHi rdLo rs rm :=
  decode_encode_of_nibbles rfl fun _ => by cases s <;> rfl

theorem umlal (c : Cond) (s : Bool) (rdHi rdLo rs rm : Reg) :
    decode (encode (.umlal c s rdHi rdLo rs rm)) = .umlal c s rdHi rdLo rs rm :=
  decode_encode_of_nibbles rfl fun _ => by cases s <;> rfl

theorem smull (c : Cond) (s : Bool) (rdHi rdLo rs rm : Reg) :
    decode (encode (.smull c s rdHi rdLo rs rm)) = .smull c s rdHi rdLo rs rm :=
  decode_encode_of_nibbles rfl fun _ => by cases s <;> rfl

theorem smlal (c : Cond) (s : Bool) (rdHi rdLo rs rm : Reg) :
    decode (encode (.smlal c s rdHi rdLo rs rm)) = .smlal c s rdHi rdLo rs rm :=
  decode_encode_of_nibbles rfl fun _ => by cases s <;> rfl

theorem swp (c : Cond) (rn rd rm : Reg) : decode (encode (.swp c rn rd rm)) = .swp c rn rd rm :=
  decode_encode_of_nibbles rfl fun _ => rfl

theorem swpb (c : Cond) (rn rd rm : Reg) : decode (encode (.swpb c rn rd rm)) = .swpb c rn rd rm :=
  decode_encode_of_nibbles rfl fun _ => rfl

theorem strex (c : Cond) (rn rd rm : Reg) : decode (encode (.strex c rn rd rm)) = .strex c rn rd rm :=
  decode_encode_of_nibbles rfl fun _ => rfl

theorem ldrex (c : Cond) (rn rd : Reg) : decode (encode (.ldrex c rn rd)) = .ldrex c rn rd :=
  decode_encode_of_nibbles rfl fun _ => rfl

theorem strhReg (c : Cond) (idx : IndexMode) (u : Bool) (rn rd rm : Reg) :
    decode (encode (.strhReg c idx u rn rd rm)) = .strhReg c idx u rn rd rm :=
  decode_encode_of_nibbles rfl fun _ => by cases idx <;> cases u <;> rfl

theorem strhImm (c : Cond) (idx : IndexMode) (u : Bool) (rn rd : Reg) (off : BitVec 8) :
    decode (encode (.strhImm c idx u rn rd off)) = .strhImm c idx u rn rd off :=
  decode_encode_of_field (i := .strhImm c idx u rn rd) (join_bits8 off) rfl fun _ => by cases idx <;> cases u <;> rfl

theorem ldrhReg (c : Cond) (idx : IndexMode) (u : Bool) (rn rd rm : Reg) :
    decode (encode (.ldrhReg c idx u rn rd rm)) = .ldrhReg c idx u rn rd rm :=
  decode_encode_of_nibbles rfl fun _ => by cases idx <;> cases u <;> rfl

theorem ldrhImm (c : Cond) (idx : IndexMode) (u : Bool) (rn rd : Reg) (off : BitVec 8) :
    decode (encode (.ldrhImm c idx u rn rd off)) = .ldrhImm c idx u rn rd off :=
  decode_encode_of_field (i := .ldrhImm c idx u rn rd) (join_bits8 off) rfl fun _ => by cases idx <;> cases u <;> rfl

theorem ldrdReg (c : Cond) (idx : IndexMode) (u : Bool) (rn rd rm : Reg) :
    decode (encode (.ldrdReg c idx u rn rd rm)) = .ldrdReg c idx u rn rd rm :=
  decode_encode_of_nibbles rfl fun _ => by cases idx <;> cases u <;> rfl

theorem ldrdImm (c : Cond) (idx : IndexMode) (u : Bool) (rn rd : Reg) (off : BitVec 8) :
    decode (encode (.ldrdImm c idx u rn rd off)) = .ldrdImm c idx u rn rd off :=
  decode_encode_of_field (i := .ldrdImm c idx u rn rd) (join_bits8 off) rfl fun _ => by cases idx <;> cases u <;> rfl

theorem ldrsbReg (c : Cond) (idx : IndexMode) (u : Bool) (rn rd rm : Reg) :
    decode (encode (.ldrsbReg c idx u rn rd rm)) = .ldrsbReg c idx u rn rd rm :=
  decode_encode_of_nibbles rfl fun _ => by cases idx <;> cases u <;> rfl

theorem ldrsbImm (c : Cond) (idx : IndexMode) (u : Bool) (rn rd : Reg) (off : BitVec 8) :
    decode (encode (.ldrsbImm c idx u rn rd off)) = .ldrsbImm c idx u rn rd off :=
  decode_encode_of_field (i := .ldrsbImm c idx u rn rd) (join_bits8 off) rfl fun _ => by cases idx <;> cases u <;> rfl

theorem strdReg (c : Cond) (idx : IndexMode) (u : Bool) (rn rd rm : Reg) :
    decode (encode (.strdReg c idx u rn rd rm)) = .strdReg c idx u rn rd rm :=
  decode_encode_of_nibbles rfl fun _ => by cases idx <;> cases u <;> rfl

theorem strdImm (c : Cond) (idx : IndexMode) (u : Bool) (rn rd : Reg) (off : BitVec 8) :
    decode (encode (.strdImm c idx u rn rd off)) = .strdImm c idx u rn rd off :=
  decode_encode_of_field (i := .strdImm c idx u rn rd) (join_bits8 off) rfl fun _ => by cases idx <;> cases u <;> rfl

theorem ldrshReg (c : Cond) (idx : IndexMode) (u : Bool) (rn rd rm : Reg) :
    decode (encode (.ldrshReg c idx u rn rd rm)) = .ldrshReg c idx u rn rd rm :=
  decode_encode_of_nibbles rfl fun _ => by cases idx <;> cases u <;> rfl

theorem ldrshImm (c : Cond) (idx : IndexMode) (u : Bool) (rn rd : Reg) (off : BitVec 8) :
    decode (encode (.ldrshImm c idx u rn rd off)) = .ldrshImm c idx u rn rd off :=
  decode_encode_of_field (i := .ldrshImm c idx u rn rd) (join_bits8 off) rfl fun _ => by cases idx <;> cases u <;> rfl

theorem mrs (c : Cond) (r : Bool) (rd : Reg) : decode (encode (.mrs c r rd)) = .mrs c r rd :=
  decode_encode_of_nibbles rfl fun _ => by cases r <;> rfl

theorem msrReg (c : Cond) (r : Bool) (mask : BitVec 4) (rm : Reg) :
    decode (encode (.msrReg c r mask rm)) = .msrReg c r mask rm :=
  decode_encode_of_nibbles rfl fun _ => by cases r <;> rfl

theorem bx (c : Cond) (rm : Reg) : decode (encode (.bx c rm)) = .bx c rm := decode_encode_of_nibbles rfl fun _ => rfl

theorem clz (c : Cond) (rd rm : Reg) : decode (encode (.clz c rd rm)) = .clz c rd rm :=
  decode_encode_of_nibbles rfl fun _ => rfl

theorem bxj (c : Cond) (rm : Reg) : decode (encode (.bxj c rm)) = .bxj c rm :=
  decode_encode_of_nibbles rfl fun _ => rfl

theorem blx2 (c : Cond) (rm : Reg) : decode (encode (.blx2 c rm)) = .blx2 c rm :=
  decode_encode_of_nibbles rfl fun _ => rfl

theorem qadd (c : Cond) (rn rd rm : Reg) : decode (encode (.qadd c rn rd rm)) = .qadd c rn rd rm :=
  decode_encode_of_nibbles rfl fun _ => rfl

theorem qsub (c : Cond) (rn rd rm : Reg) : decode (encode (.qsub c rn rd rm)) = .qsub c rn rd rm :=
  decode_encode_of_nibbles rfl fun _ => rfl

theorem qdadd (c : Cond) (rn rd rm : Reg) : decode (encode (.qdadd c rn rd rm)) = .qdadd c rn rd rm :=
  decode_encode_of_nibbles rfl fun _ => rfl

theorem qdsub (c : Cond) (rn rd rm : Reg) : decode (encode (.qdsub c rn rd rm)) = .qdsub c rn rd rm :=
  decode_encode_of_nibbles rfl fun _ => rfl

theorem bkpt (imm : BitVec 16) : decode (encode (.bkpt imm)) = .bkpt imm :=
  decode_encode_of_field (i := .bkpt) (c := .al) (join_bits16 imm) rfl fun _ => rfl

theorem smlaxy (c : Cond) (rd rn rs : Reg) (y x : Bool) (rm : Reg) :
    decode (encode (.smlaxy c rd rn rs y x rm)) = .smlaxy c rd rn rs y x rm :=
  decode_encode_of_nibbles rfl fun _ => by cases y <;> cases x <;> rfl

theorem smlawy (c : Cond) (rd rn rs : Reg) (y : Bool) (rm : Reg) :
    decode (encode (.smlawy c rd rn rs y rm)) = .smlawy c rd rn rs y rm :=
  decode_encode_of_nibbles rfl fun _ => by cases y <;> rfl

theorem smulwy (c : Cond) (rd rs : Reg) (y : Bool) (rm : Reg) :
    decode (encode (.smulwy c rd rs y rm)) = .smulwy c rd rs y rm :=
  decode_encode_of_nibbles rfl fun _ => by cases y <;> rfl

theorem smlalxy (c : Cond) (rdHi rdLo rs : Reg) (y x : Bool) (rm : Reg) :
    decode (encode (.smlalxy c rdHi rdLo rs y x rm)) = .smlalxy c rdHi rdLo rs y x rm :=
  decode_encode_of_nibbles rfl fun _ => by cases y <;> cases x <;> rfl

theorem smulxy (c : Cond) (rd rs : Reg) (y x : Bool) (rm : Reg) :
    decode (encode (.smulxy c rd rs y x rm)) = .smulxy c rd rs y x rm :=
  decode_encode_of_nibbles rfl fun _ => by cases y <;> cases x <;> rfl

theorem andShiftImm (c : Cond) (s : Bool) (rn rd : Reg) (op : ImmShift) :
    decode (encode (.andShiftImm c s rn rd op)) = .andShiftImm c s rn rd op :=
  decode_encode_of_immShift op rfl fun _ _ _ _ h => by
    cases s <;> exact decodeConditional_shiftImm (.inl rfl) rfl h ..

theorem eorShiftImm (c : Cond) (s : Bool) (rn rd : Reg) (op : ImmShift) :
    decode (encode (.eorShiftImm c s rn rd op)) = .eorShiftImm c s rn rd op :=
  decode_encode_of_immShift op rfl fun _ _ _ _ h => by
    cases s <;> exact decodeConditional_shiftImm (.inl rfl) rfl h ..

theorem subShiftImm (c : Cond) (s : Bool) (rn rd : Reg) (op : ImmShift) :
    decode (encode (.subShiftImm c s rn rd op)) = .subShiftImm c s rn rd op :=
  decode_encode_of_immShift op rfl fun _ _ _ _ h => by
    cases s <;> exact decodeConditional_shiftImm (.inl rfl) rfl h ..

theorem rsbShiftImm (c : Cond) (s : Bool) (rn rd : Reg) (op : ImmShift) :
    decode (encode (.rsbShiftImm c s rn rd op)) = .rsbShiftImm c s rn rd op :=
  decode_encode_of_immShift op rfl fun _ _ _ _ h => by
    cases s <;> exact decodeConditional_shiftImm (.inl rfl) rfl h ..

theorem addShiftImm (c : Cond) (s : Bool) (rn rd : Reg) (op : ImmShift) :
    decode (encode (.addShiftImm c s rn rd op)) = .addShiftImm c s rn rd op :=
  decode_encode_of_immShift op rfl fun _ _ _ _ h => by
    cases s <;> exact decodeConditional_shiftImm (.inl rfl) rfl h ..

theorem adcShiftImm (c : Cond) (s : Bool) (rn rd : Reg) (op : ImmShift) :
    decode (encode (.adcShiftImm c s rn rd op)) = .adcShiftImm c s rn rd op :=
  decode_encode_of_immShift op rfl fun _ _ _ _ h => by
    cases s <;> exact decodeConditional_shiftImm (.inl rfl) rfl h ..

theorem sbcShiftImm (c : Cond) (s : Bool) (rn rd : Reg) (op : ImmShift) :
    decode (encode (.sbcShiftImm c s rn rd op)) = .sbcShiftImm c s rn rd op :=
  decode_encode_of_immShift op rfl fun _ _ _ _ h => by
    cases s <;> exact decodeConditional_shiftImm (.inl rfl) rfl h ..

theorem rscShiftImm (c : Cond) (s : Bool) (rn rd : Reg) (op : ImmShift) :
    decode (encode (.rscShiftImm c s rn rd op)) = .rscShiftImm c s rn rd op :=
  decode_encode_of_immShift op rfl fun _ _ _ _ h => by
    cases s <;> exact decodeConditional_shiftImm (.inl rfl) rfl h ..

theorem tstShiftImm (c : Cond) (rn : Reg) (op : ImmShift) :
    decode (encode (.tstShiftImm c rn op)) = .tstShiftImm c rn op :=
  decode_encode_of_immShift op rfl fun _ _ _ _ h => by
    exact decodeConditional_shiftImm (.inr rfl) rfl h ..

theorem teqShiftImm (c : Cond) (rn : Reg) (op : ImmShift) :
    decode (encode (.teqShiftImm c rn op)) = .teqShiftImm c rn op :=
  decode_encode_of_immShift op rfl fun _ _ _ _ h => by
    exact decodeConditional_shiftImm (.inr rfl) rfl h ..

theorem cmpShiftImm (c : Cond) (rn : Reg) (op : ImmShift) :
    decode (encode (.cmpShiftImm c rn op)) = .cmpShiftImm c rn op :=
  decode_encode_of_immShift op rfl fun _ _ _ _ h => by
    exact decodeConditional_shiftImm (.inr rfl) rfl h ..

theorem cmnShiftImm (c : Cond) (rn : Reg) (op : ImmShift) :
    decode (encode (.cmnShiftImm c rn op)) = .cmnShiftImm c rn op :=
  decode_encode_of_immShift op rfl fun _ _ _ _ h => by
    exact decodeConditional_shiftImm (.inr rfl) rfl h ..

theorem orrShiftImm (c : Cond) (s : Bool) (rn rd : Reg) (op : ImmShift) :
    decode (encode (.orrShiftImm c s rn rd op)) = .orrShiftImm c s rn rd op :=
  decode_encode_of_immShift op rfl fun _ _ _ _ h => by
    cases s <;> exact decodeConditional_shiftImm (.inr rfl) rfl h ..

theorem movShiftImm (c : Cond) (s : Bool) (rd : Reg) (op : ImmShift) :
    decode (encode (.movShiftImm c s rd op)) = .movShiftImm c s rd op :=
  decode_encode_of_immShift op rfl fun _ _ _ _ h => by
    cases s <;> exact decodeConditional_shiftImm (.inr rfl) rfl h ..

theorem bicShiftImm (c : Cond) (s : Bool) (rn rd : Reg) (op : ImmShift) :
    decode (encode (.bicShiftImm c s rn rd op)) = .bicShiftImm c s rn rd op :=
  decode_encode_of_immShift op rfl fun _ _ _ _ h => by
    cases s <;> exact decodeConditional_shiftImm (.inr rfl) rfl h ..

theorem mvnShiftImm (c : Cond) (s : Bool) (rd : Reg) (op : ImmShift) :
    decode (encode (.mvnShiftImm c s rd op)) = .mvnShiftImm c s rd op :=
  decode_encode_of_immShift op rfl fun _ _ _ _ h => by
    cases s <;> exact decodeConditional_shiftImm (.inr rfl) rfl h ..

theorem andShiftReg (c : Cond) (s : Bool) (rn rd : Reg) (op : RegShift) :
    decode (encode (.andShiftReg c s rn rd op)) = .andShiftReg c s rn rd op :=
  decode_encode_of_regShift op rfl fun _ _ ty _ => by cases s <;> cases ty <;> rfl

theorem eorShiftReg (c : Cond) (s : Bool) (rn rd : Reg) (op : RegShift) :
    decode (encode (.eorShiftReg c s rn rd op)) = .eorShiftReg c s rn rd op :=
  decode_encode_of_regShift op rfl fun _ _ ty _ => by cases s <;> cases ty <;> rfl

theorem subShiftReg (c : Cond) (s : Bool) (rn rd : Reg) (op : RegShift) :
    decode (encode (.subShiftReg c s rn rd op)) = .subShiftReg c s rn rd op :=
  decode_encode_of_regShift op rfl fun _ _ ty _ => by cases s <;> cases ty <;> rfl

theorem rsbShiftReg (c : Cond) (s : Bool) (rn rd : Reg) (op : RegShift) :
    decode (encode (.rsbShiftReg c s rn rd op)) = .rsbShiftReg c s rn rd op :=
  decode_encode_of_regShift op rfl fun _ _ ty _ => by cases s <;> cases ty <;> rfl

theorem addShiftReg (c : Cond) (s : Bool) (rn rd : Reg) (op : RegShift) :
    decode (encode (.addShiftReg c s rn rd op)) = .addShiftReg c s rn rd op :=
  decode_encode_of_regShift op rfl fun _ _ ty _ => by cases s <;> cases ty <;> rfl

theorem adcShiftReg (c : Cond) (s : Bool) (rn rd : Reg) (op : RegShift) :
    decode (encode (.adcShiftReg c s rn rd op)) = .adcShiftReg c s rn rd op :=
  decode_encode_of_regShift op rfl fun _ _ ty _ => by cases s <;> cases ty <;> rfl

theorem sbcShiftReg (c : Cond) (s : Bool) (rn rd : Reg) (op : RegShift) :
    decode (encode (.sbcShiftReg c s rn rd op)) = .sbcShiftReg c s rn rd op :=
  decode_encode_of_regShift op rfl fun _ _ ty _ => by cases s <;> cases ty <;> rfl

theorem rscShiftReg (c : Cond) (s : Bool) (rn rd : Reg) (op : RegShift) :
    decode (encode (.rscShiftReg c s rn rd op)) = .rscShiftReg c s rn rd op :=
  decode_encode_of_regShift op rfl fun _ _ ty _ => by cases s <;> cases ty <;> rfl

theorem tstShiftReg (c : Cond) (rn : Reg) (op : RegShift) :
    decode (encode (.tstShiftReg c rn op)) = .tstShiftReg c rn op :=
  decode_encode_of_regShift op rfl fun _ _ ty _ => by cases ty <;> rfl

theorem teqShiftReg (c : Cond) (rn : Reg) (op : RegShift) :
    decode (encode (.teqShiftReg c rn op)) = .teqShiftReg c rn op :=
  decode_encode_of_regShift op rfl fun _ _ ty _ => by cases ty <;> rfl

theorem cmpShiftReg (c : Cond) (rn : Reg) (op : RegShift) :
    decode (encode (.cmpShiftReg c rn op)) = .cmpShiftReg c rn op :=
  decode_encode_of_regShift op rfl fun _ _ ty _ => by cases ty <;> rfl

theorem cmnShiftReg (c : Cond) (rn : Reg) (op : RegShift) :
    decode (encode (.cmnShiftReg c rn op)) = .cmnShiftReg c rn op :=
  decode_encode_of_regShift op rfl fun _ _ ty _ => by cases ty <;> rfl

theorem orrShiftReg (c : Cond) (s : Bool) (rn rd : Reg) (op : RegShift) :
    decode (encode (.orrShiftReg c s rn rd op)) = .orrShiftReg c s rn rd op :=
  decode_encode_of_regShift op rfl fun _ _ ty _ => by cases s <;> cases ty <;> rfl

theorem movShiftReg (c : Cond) (s : Bool) (rd : Reg) (op : RegShift) :
    decode (encode (.movShiftReg c s rd op)) = .movShiftReg c s rd op :=
  decode_encode_of_regShift op rfl fun _ _ ty _ => by cases s <;> cases ty <;> rfl

theorem bicShiftReg (c : Cond) (s : Bool) (rn rd : Reg) (op : RegShift) :
    decode (encode (.bicShiftReg c s rn rd op)) = .bicShiftReg c s rn rd op :=
  decode_encode_of_regShift op rfl fun _ _ ty _ => by cases s <;> cases ty <;> rfl

theorem mvnShiftReg (c : Cond) (s : Bool) (rd : Reg) (op : RegShift) :
    decode (encode (.mvnShiftReg c s rd op)) = .mvnShiftReg c s rd op :=
  decode_encode_of_regShift op rfl fun _ _ ty _ => by cases s <;> cases ty <;> rfl

theorem msrImm (c : Cond) (r : Bool) (mask : BitVec 4) (op : RotImm) :
    decode (encode (.msrImm c r mask op)) = .msrImm c r mask op :=
  decode_encode_of_rotImm op rfl fun _ _ _ _ => by cases r <;> rfl

theorem andImm (c : Cond) (s : Bool) (rn rd : Reg) (op : RotImm) :
    decode (encode (.andImm c s rn rd op)) = .andImm c s rn rd op :=
  decode_encode_of_rotImm op rfl fun _ _ _ _ => by cases s <;> rfl

theorem eorImm (c : Cond) (s : Bool) (rn rd : Reg) (op : RotImm) :
    decode (encode (.eorImm c s rn rd op)) = .eorImm c s rn rd op :=
  decode_encode_of_rotImm op rfl fun _ _ _ _ => by cases s <;> rfl

theorem subImm (c : Cond) (s : Bool) (rn rd : Reg) (op : RotImm) :
    decode (encode (.subImm c s rn rd op)) = .subImm c s rn rd op :=
  decode_encode_of_rotImm op rfl fun _ _ _ _ => by cases s <;> rfl

theorem rsbImm (c : Cond) (s : Bool) (rn rd : Reg) (op : RotImm) :
    decode (encode (.rsbImm c s rn rd op)) = .rsbImm c s rn rd op :=
  decode_encode_of_rotImm op rfl fun _ _ _ _ => by cases s <;> rfl

theorem addImm (c : Cond) (s : Bool) (rn rd : Reg) (op : RotImm) :
    decode (encode (.addImm c s rn rd op)) = .addImm c s rn rd op :=
  decode_encode_of_rotImm op rfl fun _ _ _ _ => by cases s <;> rfl

theorem adcImm (c : Cond) (s : Bool) (rn rd : Reg) (op : RotImm) :
    decode (encode (.adcImm c s rn rd op)) = .adcImm c s rn rd op :=
  decode_encode_of_rotImm op rfl fun _ _ _ _ => by cases s <;> rfl

theorem sbcImm (c : Cond) (s : Bool) (rn rd : Reg) (op : RotImm) :
    decode (encode (.sbcImm c s rn rd op)) = .sbcImm c s rn rd op :=
  decode_encode_of_rotImm op rfl fun _ _ _ _ => by cases s <;> rfl

theorem rscImm (c : Cond) (s : Bool) (rn rd : Reg) (op : RotImm) :
    decode (encode (.rscImm c s rn rd op)) = .rscImm c s rn rd op :=
  decode_encode_of_rotImm op rfl fun _ _ _ _ => by cases s <;> rfl

theorem tstImm (c : Cond) (rn : Reg) (op : RotImm) : decode (encode (.tstImm c rn op)) = .tstImm c rn op :=
  decode_encode_of_rotImm op rfl fun _ _ _ _ => rfl

theorem teqImm (c : Cond) (rn : Reg) (op : RotImm) : decode (encode (.teqImm c rn op)) = .teqImm c rn op :=
  decode_encode_of_rotImm op rfl fun _ _ _ _ => rfl

theorem cmpImm (c : Cond) (rn : Reg) (op : RotImm) : decode (encode (.cmpImm c rn op)) = .cmpImm c rn op :=
  decode_encode_of_rotImm op rfl fun _ _ _ _ => rfl

theorem cmnImm (c : Cond) (rn : Reg) (op : RotImm) : decode (encode (.cmnImm c rn op)) = .cmnImm c rn op :=
  decode_encode_of_rotImm op rfl fun _ _ _ _ => rfl

theorem orrImm (c : Cond) (s : Bool) (rn rd : Reg) (op : RotImm) :
    decode (encode (.orrImm c s rn rd op)) = .orrImm c s rn rd op :=
  decode_encode_of_rotImm op rfl fun _ _ _ _ => by cases s <;> rfl

theorem movImm (c : Cond) (s : Bool) (rd : Reg) (op : RotImm) :
    decode (encode (.movImm c s rd op)) = .movImm c s rd op :=
  decode_encode_of_rotImm op rfl fun _ _ _ _ => by cases s <;> rfl

theorem bicImm (c : Cond) (s : Bool) (rn rd : Reg) (op : RotImm) :
    decode (encode (.bicImm c s rn rd op)) = .bicImm c s rn rd op :=
  decode_encode_of_rotImm op rfl fun _ _ _ _ => by cases s <;> rfl

theorem mvnImm (c : Cond) (s : Bool) (rd : Reg) (op : RotImm) :
    decode (encode (.mvnImm c s rd op)) = .mvnImm c s rd op :=
  decode_encode_of_rotImm op rfl fun _ _ _ _ => by cases s <;> rfl

theorem strtImm (c : Cond) (u : Bool) (rn rd : Reg) (imm : BitVec 12) :
    decode (encode (.strtImm c u rn rd imm)) = .strtImm c u rn rd imm :=
  decode_encode_of_field (i := .strtImm c u rn rd) (join_bits12 imm) rfl fun _ => by cases u <;> rfl

theorem ldrtImm (c : Cond) (u : Bool) (rn rd : Reg) (imm : BitVec 12) :
    decode (encode (.ldrtImm c u rn rd imm)) = .ldrtImm c u rn rd imm :=
  decode_encode_of_field (i := .ldrtImm c u rn rd) (join_bits12 imm) rfl fun _ => by cases u <;> rfl

theorem strbtImm (c : Cond) (u : Bool) (rn rd : Reg) (imm : BitVec 12) :
    decode (encode (.strbtImm c u rn rd imm)) = .strbtImm c u rn rd imm :=
  decode_encode_of_field (i := .strbtImm c u rn rd) (join_bits12 imm) rfl fun _ => by cases u <;> rfl

theorem ldrbtImm (c : Cond) (u : Bool) (rn rd : Reg) (imm : BitVec 12) :
    decode (encode (.ldrbtImm c u rn rd imm)) = .ldrbtImm c u rn rd imm :=
  decode_encode_of_field (i := .ldrbtImm c u rn rd) (join_bits12 imm) rfl fun _ => by cases u <;> rfl

theorem strImm (c : Cond) (idx : IndexMode) (u : Bool) (rn rd : Reg) (imm : BitVec 12) :
    decode (encode (.strImm c idx u rn rd imm)) = .strImm c idx u rn rd imm :=
  decode_encode_of_field (i := .strImm c idx u rn rd) (join_bits12 imm) rfl fun _ => by cases idx <;> cases u <;> rfl

theorem ldrImm (c : Cond) (idx : IndexMode) (u : Bool) (rn rd : Reg) (imm : BitVec 12) :
    decode (encode (.ldrImm c idx u rn rd imm)) = .ldrImm c idx u rn rd imm :=
  decode_encode_of_field (i := .ldrImm c idx u rn rd) (join_bits12 imm) rfl fun _ => by cases idx <;> cases u <;> rfl

theorem strbImm (c : Cond) (idx : IndexMode) (u : Bool) (rn rd : Reg) (imm : BitVec 12) :
    decode (encode (.strbImm c idx u rn rd imm)) = .strbImm c idx u rn rd imm :=
  decode_encode_of_field (i := .strbImm c idx u rn rd) (join_bits12 imm) rfl fun _ => by cases idx <;> cases u <;> rfl

theorem ldrbImm (c : Cond) (idx : IndexMode) (u : Bool) (rn rd : Reg) (imm : BitVec 12) :
    decode (encode (.ldrbImm c idx u rn rd imm)) = .ldrbImm c idx u rn rd imm :=
  decode_encode_of_field (i := .ldrbImm c idx u rn rd) (join_bits12 imm) rfl fun _ => by cases idx <;> cases u <;> rfl

theorem strtReg (c : Cond) (u : Bool) (rn rd : Reg) (op : ImmShift) :
    decode (encode (.strtReg c u rn rd op)) = .strtReg c u rn rd op :=
  decode_encode_of_immShift op rfl fun _ _ _ _ h => by
    cases u <;> exact decodeConditional_mode2Reg (.inl rfl) h ..

theorem ldrtReg (c : Cond) (u : Bool) (rn rd : Reg) (op : ImmShift) :
    decode (encode (.ldrtReg c u rn rd op)) = .ldrtReg c u rn rd op :=
  decode_encode_of_immShift op rfl fun _ _ _ _ h => by
    cases u <;> exact decodeConditional_mode2Reg (.inl rfl) h ..

theorem strbtReg (c : Cond) (u : Bool) (rn rd : Reg) (op : ImmShift) :
    decode (encode (.strbtReg c u rn rd op)) = .strbtReg c u rn rd op :=
  decode_encode_of_immShift op rfl fun _ _ _ _ h => by
    cases u <;> exact decodeConditional_mode2Reg (.inl rfl) h ..

theorem ldrbtReg (c : Cond) (u : Bool) (rn rd : Reg) (op : ImmShift) :
    decode (encode (.ldrbtReg c u rn rd op)) = .ldrbtReg c u rn rd op :=
  decode_encode_of_immShift op rfl fun _ _ _ _ h => by
    cases u <;> exact decodeConditional_mode2Reg (.inl rfl) h ..

theorem strReg (c : Cond) (idx : IndexMode) (u : Bool) (rn rd : Reg) (op : ImmShift) :
    decode (encode (.strReg c idx u rn rd op)) = .strReg c idx u rn rd op :=
  decode_encode_of_immShift op rfl fun _ _ _ _ h => by
    cases idx
    case post => cases u <;> exact decodeConditional_mode2Reg (.inl rfl) h ..
    all_goals cases u <;> exact decodeConditional_mode2Reg (.inr rfl) h ..

theorem ldrReg (c : Cond) (idx : IndexMode) (u : Bool) (rn rd : Reg) (op : ImmShift) :
    decode (encode (.ldrReg c idx u rn rd op)) = .ldrReg c idx u rn rd op :=
  decode_encode_of_immShift op rfl fun _ _ _ _ h => by
    cases idx
    case post => cases u <;> exact decodeConditional_mode2Reg (.inl rfl) h ..
    all_goals cases u <;> exact decodeConditional_mode2Reg (.inr rfl) h ..

theorem strbReg (c : Cond) (idx : IndexMode) (u : Bool) (rn rd : Reg) (op : ImmShift) :
    decode (encode (.strbReg c idx u rn rd op)) = .strbReg c idx u rn rd op :=
  decode_encode_of_immShift op rfl fun _ _ _ _ h => by
    cases idx
    case post => cases u <;> exact decodeConditional_mode2Reg (.inl rfl) h ..
    all_goals cases u <;> exact decodeConditional_mode2Reg (.inr rfl) h ..

theorem ldrbReg (c : Cond) (idx : IndexMode) (u : Bool) (rn rd : Reg) (op : ImmShift) :
    decode (encode (.ldrbReg c idx u rn rd op)) = .ldrbReg c idx u rn rd op :=
  decode_encode_of_immShift op rfl fun _ _ _ _ h => by
    cases idx
    case post => cases u <;> exact decodeConditional_mode2Reg (.inl rfl) h ..
    all_goals cases u <;> exact decodeConditional_mode2Reg (.inr rfl) h ..

theorem sadd16 (c : Cond) (rn rd rm : Reg) : decode (encode (.sadd16 c rn rd rm)) = .sadd16 c rn rd rm :=
  decode_encode_of_nibbles rfl fun _ => rfl

theorem saddsubx (c : Cond) (rn rd rm : Reg) : decode (encode (.saddsubx c rn rd rm)) = .saddsubx c rn rd rm :=
  decode_encode_of_nibbles rfl fun _ => rfl

theorem ssubaddx (c : Cond) (rn rd rm : Reg) : decode (encode (.ssubaddx c rn rd rm)) = .ssubaddx c rn rd rm :=
  decode_encode_of_nibbles rfl fun _ => rfl

theorem ssub16 (c : Cond) (rn rd rm : Reg) : decode (encode (.ssub16 c rn rd rm)) = .ssub16 c rn rd rm :=
  decode_encode_of_nibbles rfl fun _ => rfl

theorem sadd8 (c : Cond) (rn rd rm : Reg) : decode (encode (.sadd8 c rn rd rm)) = .sadd8 c rn rd rm :=
  decode_encode_of_nibbles rfl fun _ => rfl

theorem ssub8 (c : Cond) (rn rd rm : Reg) : decode (encode (.ssub8 c rn rd rm)) = .ssub8 c rn rd rm :=
  decode_encode_of_nibbles rfl fun _ => rfl

theorem qadd16 (c : Cond) (rn rd rm : Reg) : decode (encode (.qadd16 c rn rd rm)) = .qadd16 c rn rd rm :=
  decode_encode_of_nibbles rfl fun _ => rfl

theorem qaddsubx (c : Cond) (rn rd rm : Reg) : decode (encode (.qaddsubx c rn rd rm)) = .qaddsubx c rn rd rm :=
  decode_encode_of_nibbles rfl fun _ => rfl

theorem qsubaddx (c : Cond) (rn rd rm : Reg) : decode (encode (.qsubaddx c rn rd rm)) = .qsubaddx c rn rd rm :=
  decode_encode_of_nibbles rfl fun _ => rfl

theorem qsub16 (c : Cond) (rn rd rm : Reg) : decode (encode (.qsub16 c rn rd rm)) = .qsub16 c rn rd rm :=
  decode_encode_of_nibbles rfl fun _ => rfl

theorem qadd8 (c : Cond) (rn rd rm : Reg) : decode (encode (.qadd8 c rn rd rm)) = .qadd8 c rn rd rm :=
  decode_encode_of_nibbles rfl fun _ => rfl

theorem qsub8 (c : Cond) (rn rd rm : Reg) : decode (encode (.qsub8 c rn rd rm)) = .qsub8 c rn rd rm :=
  decode_encode_of_nibbles rfl fun _ => rfl

theorem shadd16 (c : Cond) (rn rd rm : Reg) : decode (encode (.shadd16 c rn rd rm)) = .shadd16 c rn rd rm :=
  decode_encode_of_nibbles rfl fun _ => rfl

theorem shaddsubx (c : Cond) (rn rd rm : Reg) : decode (encode (.shaddsubx c rn rd rm)) = .shaddsubx c rn rd rm :=
  decode_encode_of_nibbles rfl fun _ => rfl

theorem shsubaddx (c : Cond) (rn rd rm : Reg) : decode (encode (.shsubaddx c rn rd rm)) = .shsubaddx c rn rd rm :=
  decode_encode_of_nibbles rfl fun _ => rfl

theorem shsub16 (c : Cond) (rn rd rm : Reg) : decode (encode (.shsub16 c rn rd rm)) = .shsub16 c rn rd rm :=
  decode_encode_of_nibbles rfl fun _ => rfl

theorem shadd8 (c : Cond) (rn rd rm : Reg) : decode (encode (.shadd8 c rn rd rm)) = .shadd8 c rn rd rm :=
  decode_encode_of_nibbles rfl fun _ => rfl

theorem shsub8 (c : Cond) (rn rd rm : Reg) : decode (encode (.shsub8 c rn rd rm)) = .shsub8 c rn rd rm :=
  decode_encode_of_nibbles rfl fun _ => rfl

theorem uadd16 (c : Cond) (rn rd rm : Reg) : decode (encode (.uadd16 c rn rd rm)) = .uadd16 c rn rd rm :=
  decode_encode_of_nibbles rfl fun _ => rfl

theorem uaddsubx (c : Cond) (rn rd rm : Reg) : decode (encode (.uaddsubx c rn rd rm)) = .uaddsubx c rn rd rm :=
  decode_encode_of_nibbles rfl fun _ => rfl

theorem usubaddx (c : Cond) (rn rd rm : Reg) : decode (encode (.usubaddx c rn rd rm)) = .usubaddx c rn rd rm :=
  decode_encode_of_nibbles rfl fun _ => rfl

theorem usub16 (c : Cond) (rn rd rm : Reg) : decode (encode (.usub16 c rn rd rm)) = .usub16 c rn rd rm :=
  decode_encode_of_nibbles rfl fun _ => rfl

theorem uadd8 (c : Cond) (rn rd rm : Reg) : decode (encode (.uadd8 c rn rd rm)) = .uadd8 c rn rd rm :=
  decode_encode_of_nibbles rfl fun _ => rfl

theorem usub8 (c : Cond) (rn rd rm : Reg) : decode (encode (.usub8 c rn rd rm)) = .usub8 c rn rd rm :=
  decode_encode_of_nibbles rfl fun _ => rfl

theorem uqadd16 (c : Cond) (rn rd rm : Reg) : decode (encode (.uqadd16 c rn rd rm)) = .uqadd16 c rn rd rm :=
  decode_encode_of_nibbles rfl fun _ => rfl

theorem uqaddsubx (c : Cond) (rn rd rm : Reg) : decode (encode (.uqaddsubx c rn rd rm)) = .uqaddsubx c rn rd rm :=
  decode_encode_of_nibbles rfl fun _ => rfl

theorem uqsubaddx (c : Cond) (rn rd rm : Reg) : decode (encode (.uqsubaddx c rn rd rm)) = .uqsubaddx c rn rd rm :=
  decode_encode_of_nibbles rfl fun _ => rfl

theorem uqsub16 (c : Cond) (rn rd rm : Reg) : decode (encode (.uqsub16 c rn rd rm)) = .uqsub16 c rn rd rm :=
  decode_encode_of_nibbles rfl fun _ => rfl

theorem uqadd8 (c : Cond) (rn rd rm : Reg) : decode (encode (.uqadd8 c rn rd rm)) = .uqadd8 c rn rd rm :=
  decode_encode_of_nibbles rfl fun _ => rfl

theorem uqsub8 (c : Cond) (rn rd rm : Reg) : decode (encode (.uqsub8 c rn rd rm)) = .uqsub8 c rn rd rm :=
  decode_encode_of_nibbles rfl fun _ => rfl

theorem uhadd16 (c : Cond) (rn rd rm : Reg) : decode (encode (.uhadd16 c rn rd rm)) = .uhadd16 c rn rd rm :=
  decode_encode_of_nibbles rfl fun _ => rfl

theorem uhaddsubx (c : Cond) (rn rd rm : Reg) : decode (encode (.uhaddsubx c rn rd rm)) = .uhaddsubx c rn rd rm :=
  decode_encode_of_nibbles rfl fun _ => rfl

theorem uhsubaddx (c : Cond) (rn rd rm : Reg) : decode (encode (.uhsubaddx c rn rd rm)) = .uhsubaddx c rn rd rm :=
  decode_encode_of_nibbles rfl fun _ => rfl

theorem uhsub16 (c : Cond) (rn rd rm : Reg) : decode (encode (.uhsub16 c rn rd rm)) = .uhsub16 c rn rd rm :=
  decode_encode_of_nibbles rfl fun _ => rfl

theorem uhadd8 (c : Cond) (rn rd rm : Reg) : decode (encode (.uhadd8 c rn rd rm)) = .uhadd8 c rn rd rm :=
  decode_encode_of_nibbles rfl fun _ => rfl

theorem uhsub8 (c : Cond) (rn rd rm : Reg) : decode (encode (.uhsub8 c rn rd rm)) = .uhsub8 c rn rd rm :=
  decode_encode_of_nibbles rfl fun _ => rfl

theorem pkhbt (c : Cond) (rn rd : Reg) (imm : BitVec 5) (rm : Reg) :
    decode (encode (.pkhbt c rn rd imm rm)) = .pkhbt c rn rd imm rm :=
  decode_encode_of_field (i := fun x => .pkhbt c rn rd x rm) (join_bits5_high imm) rfl fun _ => by
    obtain h | h := bitVec1_cases (imm.extractLsb' 0 1) <;> rw [h] <;> rfl

theorem pkhtb (c : Cond) (rn rd : Reg) (imm : BitVec 5) (rm : Reg) :
    decode (encode (.pkhtb c rn rd imm rm)) = .pkhtb c rn rd imm rm :=
  decode_encode_of_field (i := fun x => .pkhtb c rn rd x rm) (join_bits5_high imm) rfl fun _ => by
    obtain h | h := bitVec1_cases (imm.extractLsb' 0 1) <;> rw [h] <;> rfl

theorem ssat (c : Cond) (sat : BitVec 5) (rd : Reg) (imm : BitVec 5) (sh : Bool) (rm : Reg) :
    decode (encode (.ssat c sat rd imm sh rm)) = .ssat c sat rd imm sh rm :=
  decode_encode_of_field (i := fun x : BitVec 5 × BitVec 5 => .ssat c x.1 rd x.2 sh rm) (x := (sat, imm))
    (y := (sat.extractLsb' 4 1 ++ sat.extractLsb' 0 4, imm.extractLsb' 1 4 ++ imm.extractLsb' 0 1))
    (Prod.ext (join_bits5_low sat) (join_bits5_high imm)) rfl fun _ => by
      obtain h | h := bitVec1_cases (sat.extractLsb' 4 1) <;> rw [h] <;>
        simp [decodeConditional, decodeMedia, decodePackSaturate, saturate_nibble]

theorem usat (c : Cond) (sat : BitVec 5) (rd : Reg) (imm : BitVec 5) (sh : Bool) (rm : Reg) :
    decode (encode (.usat c sat rd imm sh rm)) = .usat c sat rd imm sh rm :=
  decode_encode_of_field (i := fun x : BitVec 5 × BitVec 5 => .usat c x.1 rd x.2 sh rm) (x := (sat, imm))
    (y := (sat.extractLsb' 4 1 ++ sat.extractLsb' 0 4, imm.extractLsb' 1 4 ++ imm.extractLsb' 0 1))
    (Prod.ext (join_bits5_low sat) (join_bits5_high imm)) rfl fun _ => by
      obtain h | h := bitVec1_cases (sat.extractLsb' 4 1) <;> rw [h] <;>
        simp [decodeConditional, decodeMedia, decodePackSaturate, saturate_nibble]

theorem ssat16 (c : Cond) (sat : BitVec 4) (rd rm : Reg) :
    decode (encode (.ssat16 c sat rd rm)) = .ssat16 c sat rd rm :=
  decode_encode_of_nibbles rfl fun _ => rfl

theorem usat16 (c : Cond) (sat : BitVec 4) (rd rm : Reg) :
    decode (encode (.usat16 c sat rd rm)) = .usat16 c sat rd rm :=
  decode_encode_of_nibbles rfl fun _ => rfl

theorem rev (c : Cond) (rd rm : Reg) : decode (encode (.rev c rd rm)) = .rev c rd rm :=
  decode_encode_of_nibbles rfl fun _ => rfl

theorem rev16 (c : Cond) (rd rm : Reg) : decode (encode (.rev16 c rd rm)) = .rev16 c rd rm :=
  decode_encode_of_nibbles rfl fun _ => rfl

theorem revsh (c : Cond) (rd rm : Reg) : decode (encode (.revsh c rd rm)) = .revsh c rd rm :=
  decode_encode_of_nibbles rfl fun _ => rfl

theorem sel (c : Cond) (rn rd rm : Reg) : decode (encode (.sel c rn rd rm)) = .sel c rn rd rm :=
  decode_encode_of_nibbles rfl fun _ => rfl

theorem sxtb16 (c : Cond) (rd : Reg) (rot : BitVec 2) (rm : Reg) :
    decode (encode (.sxtb16 c rd rot rm)) = .sxtb16 c rd rot rm :=
  decode_encode_of_nibbles rfl fun _ => by
    obtain rfl | rfl | rfl | rfl := bitVec2_cases rot <;> rfl

theorem sxtab16 (c : Cond) (rn rd : Reg) (rot : BitVec 2) (rm : Reg) (hwf :
    (Instr.sxtab16 c rn rd rot rm).wellFormed = true) :
    decode (encode (.sxtab16 c rn rd rot rm)) = .sxtab16 c rn rd rot rm :=
  decode_encode_of_nibbles rfl fun _ => by
    obtain rfl | rfl | rfl | rfl := bitVec2_cases rot <;> exact cond_beq_of_bne hwf _ _

theorem sxtb (c : Cond) (rd : Reg) (rot : BitVec 2) (rm : Reg) :
    decode (encode (.sxtb c rd rot rm)) = .sxtb c rd rot rm :=
  decode_encode_of_nibbles rfl fun _ => by
    obtain rfl | rfl | rfl | rfl := bitVec2_cases rot <;> rfl

theorem sxtab (c : Cond) (rn rd : Reg) (rot : BitVec 2) (rm : Reg) (hwf :
    (Instr.sxtab c rn rd rot rm).wellFormed = true) :
    decode (encode (.sxtab c rn rd rot rm)) = .sxtab c rn rd rot rm :=
  decode_encode_of_nibbles rfl fun _ => by
    obtain rfl | rfl | rfl | rfl := bitVec2_cases rot <;> exact cond_beq_of_bne hwf _ _

theorem sxth (c : Cond) (rd : Reg) (rot : BitVec 2) (rm : Reg) :
    decode (encode (.sxth c rd rot rm)) = .sxth c rd rot rm :=
  decode_encode_of_nibbles rfl fun _ => by
    obtain rfl | rfl | rfl | rfl := bitVec2_cases rot <;> rfl

theorem sxtah (c : Cond) (rn rd : Reg) (rot : BitVec 2) (rm : Reg) (hwf :
    (Instr.sxtah c rn rd rot rm).wellFormed = true) :
    decode (encode (.sxtah c rn rd rot rm)) = .sxtah c rn rd rot rm :=
  decode_encode_of_nibbles rfl fun _ => by
    obtain rfl | rfl | rfl | rfl := bitVec2_cases rot <;> exact cond_beq_of_bne hwf _ _

theorem uxtb16 (c : Cond) (rd : Reg) (rot : BitVec 2) (rm : Reg) :
    decode (encode (.uxtb16 c rd rot rm)) = .uxtb16 c rd rot rm :=
  decode_encode_of_nibbles rfl fun _ => by
    obtain rfl | rfl | rfl | rfl := bitVec2_cases rot <;> rfl

theorem uxtab16 (c : Cond) (rn rd : Reg) (rot : BitVec 2) (rm : Reg) (hwf :
    (Instr.uxtab16 c rn rd rot rm).wellFormed = true) :
    decode (encode (.uxtab16 c rn rd rot rm)) = .uxtab16 c rn rd rot rm :=
  decode_encode_of_nibbles rfl fun _ => by
    obtain rfl | rfl | rfl | rfl := bitVec2_cases rot <;> exact cond_beq_of_bne hwf _ _

theorem uxtb (c : Cond) (rd : Reg) (rot : BitVec 2) (rm : Reg) :
    decode (encode (.uxtb c rd rot rm)) = .uxtb c rd rot rm :=
  decode_encode_of_nibbles rfl fun _ => by
    obtain rfl | rfl | rfl | rfl := bitVec2_cases rot <;> rfl

theorem uxtab (c : Cond) (rn rd : Reg) (rot : BitVec 2) (rm : Reg) (hwf :
    (Instr.uxtab c rn rd rot rm).wellFormed = true) :
    decode (encode (.uxtab c rn rd rot rm)) = .uxtab c rn rd rot rm :=
  decode_encode_of_nibbles rfl fun _ => by
    obtain rfl | rfl | rfl | rfl := bitVec2_cases rot <;> exact cond_beq_of_bne hwf _ _

theorem uxth (c : Cond) (rd : Reg) (rot : BitVec 2) (rm : Reg) :
    decode (encode (.uxth c rd rot rm)) = .uxth c rd rot rm :=
  decode_encode_of_nibbles rfl fun _ => by
    obtain rfl | rfl | rfl | rfl := bitVec2_cases rot <;> rfl

theorem uxtah (c : Cond) (rn rd : Reg) (rot : BitVec 2) (rm : Reg) (hwf :
    (Instr.uxtah c rn rd rot rm).wellFormed = true) :
    decode (encode (.uxtah c rn rd rot rm)) = .uxtah c rn rd rot rm :=
  decode_encode_of_nibbles rfl fun _ => by
    obtain rfl | rfl | rfl | rfl := bitVec2_cases rot <;> exact cond_beq_of_bne hwf _ _

theorem smuad (c : Cond) (rd rs : Reg) (x : Bool) (rm : Reg) :
    decode (encode (.smuad c rd rs x rm)) = .smuad c rd rs x rm :=
  decode_encode_of_nibbles rfl fun _ => by cases x <;> rfl

theorem smlad (c : Cond) (rd rn rs : Reg) (x : Bool) (rm : Reg) (hwf :
    (Instr.smlad c rd rn rs x rm).wellFormed = true) :
    decode (encode (.smlad c rd rn rs x rm)) = .smlad c rd rn rs x rm :=
  decode_encode_of_nibbles rfl fun _ => by cases x <;> exact cond_beq_of_bne hwf _ _

theorem smusd (c : Cond) (rd rs : Reg) (x : Bool) (rm : Reg) :
    decode (encode (.smusd c rd rs x rm)) = .smusd c rd rs x rm :=
  decode_encode_of_nibbles rfl fun _ => by cases x <;> rfl

theorem smlsd (c : Cond) (rd rn rs : Reg) (x : Bool) (rm : Reg) (hwf :
    (Instr.smlsd c rd rn rs x rm).wellFormed = true) :
    decode (encode (.smlsd c rd rn rs x rm)) = .smlsd c rd rn rs x rm :=
  decode_encode_of_nibbles rfl fun _ => by cases x <;> exact cond_beq_of_bne hwf _ _

theorem smlald (c : Cond) (rdHi rdLo rs : Reg) (x : Bool) (rm : Reg) :
    decode (encode (.smlald c rdHi rdLo rs x rm)) = .smlald c rdHi rdLo rs x rm :=
  decode_encode_of_nibbles rfl fun _ => by cases x <;> rfl

theorem smlsld (c : Cond) (rdHi rdLo rs : Reg) (x : Bool) (rm : Reg) :
    decode (encode (.smlsld c rdHi rdLo rs x rm)) = .smlsld c rdHi rdLo rs x rm :=
  decode_encode_of_nibbles rfl fun _ => by cases x <;> rfl

theorem smmul (c : Cond) (rd rs : Reg) (r : Bool) (rm : Reg) :
    decode (encode (.smmul c rd rs r rm)) = .smmul c rd rs r rm :=
  decode_encode_of_nibbles rfl fun _ => by cases r <;> rfl

theorem smmla (c : Cond) (rd rn rs : Reg) (r : Bool) (rm : Reg) (hwf :
    (Instr.smmla c rd rn rs r rm).wellFormed = true) :
    decode (encode (.smmla c rd rn rs r rm)) = .smmla c rd rn rs r rm :=
  decode_encode_of_nibbles rfl fun _ => by cases r <;> exact cond_beq_of_bne hwf _ _

theorem smmls (c : Cond) (rd rn rs : Reg) (r : Bool) (rm : Reg) :
    decode (encode (.smmls c rd rn rs r rm)) = .smmls c rd rn rs r rm :=
  decode_encode_of_nibbles rfl fun _ => by cases r <;> rfl

theorem usad8 (c : Cond) (rd rs rm : Reg) : decode (encode (.usad8 c rd rs rm)) = .usad8 c rd rs rm :=
  decode_encode_of_nibbles rfl fun _ => rfl

theorem usada8 (c : Cond) (rd rn rs rm : Reg) (hwf : (Instr.usada8 c rd rn rs rm).wellFormed = true) :
    decode (encode (.usada8 c rd rn rs rm)) = .usada8 c rd rn rs rm :=
  decode_encode_of_nibbles rfl fun _ => by exact cond_beq_of_bne hwf _ _

theorem ldm1 (c : Cond) (am : AddrMode4) (wb : Bool) (rn : Reg) (list : BitVec 16) :
    decode (encode (.ldm1 c am wb rn list)) = .ldm1 c am wb rn list :=
  decode_encode_of_field (i := .ldm1 c am wb rn) (join_bits16 list) rfl fun _ => by cases am <;> cases wb <;> rfl

theorem ldm3 (c : Cond) (am : AddrMode4) (wb : Bool) (rn : Reg) (list : BitVec 15) :
    decode (encode (.ldm3 c am wb rn list)) = .ldm3 c am wb rn list :=
  decode_encode_of_field (i := .ldm3 c am wb rn) (join_bits15 list) rfl fun _ => by
    obtain h | h | h | h | h | h | h | h := bitVec3_cases (list.extractLsb' 12 3) <;> rw [h] <;>
      cases am <;> cases wb <;> rfl

theorem ldm2 (c : Cond) (am : AddrMode4) (wb : Bool) (rn : Reg) (list : BitVec 15) :
    decode (encode (.ldm2 c am wb rn list)) = .ldm2 c am wb rn list :=
  decode_encode_of_field (i := .ldm2 c am wb rn) (join_bits15 list) rfl fun _ => by
    obtain h | h | h | h | h | h | h | h := bitVec3_cases (list.extractLsb' 12 3) <;> rw [h] <;>
      cases am <;> cases wb <;> rfl

theorem stm1 (c : Cond) (am : AddrMode4) (wb : Bool) (rn : Reg) (list : BitVec 16) :
    decode (encode (.stm1 c am wb rn list)) = .stm1 c am wb rn list :=
  decode_encode_of_field (i := .stm1 c am wb rn) (join_bits16 list) rfl fun _ => by cases am <;> cases wb <;> rfl

theorem stm2 (c : Cond) (am : AddrMode4) (wb : Bool) (rn : Reg) (list : BitVec 16) :
    decode (encode (.stm2 c am wb rn list)) = .stm2 c am wb rn list :=
  decode_encode_of_field (i := .stm2 c am wb rn) (join_bits16 list) rfl fun _ => by cases am <;> cases wb <;> rfl

theorem b (c : Cond) (imm : BitVec 24) : decode (encode (.b c imm)) = .b c imm :=
  decode_encode_of_field (i := .b c) (join_bits24 imm) rfl fun _ => rfl

theorem bl (c : Cond) (imm : BitVec 24) : decode (encode (.bl c imm)) = .bl c imm :=
  decode_encode_of_field (i := .bl c) (join_bits24 imm) rfl fun _ => rfl

theorem mcrr (c : Cond) (rn rd : Reg) (cp op crm : BitVec 4) :
    decode (encode (.mcrr c rn rd cp op crm)) = .mcrr c rn rd cp op crm :=
  decode_encode_of_nibbles rfl fun _ => rfl

theorem mrrc (c : Cond) (rn rd : Reg) (cp op crm : BitVec 4) :
    decode (encode (.mrrc c rn rd cp op crm)) = .mrrc c rn rd cp op crm :=
  decode_encode_of_nibbles rfl fun _ => rfl

theorem stc (c : Cond) (p u n wb : Bool) (rn : Reg) (crd cp : BitVec 4) (off : BitVec 8) (hwf :
    (Instr.stc c p u n wb rn crd cp off).wellFormed = true) :
    decode (encode (.stc c p u n wb rn crd cp off)) = .stc c p u n wb rn crd cp off :=
  decode_encode_of_field (i := .stc c p u n wb rn crd cp) (join_bits8 off) rfl fun _ => by
    cases p <;> cases u <;> cases wb <;> cases n <;> first | rfl | cases hwf

theorem ldc (c : Cond) (p u n wb : Bool) (rn : Reg) (crd cp : BitVec 4) (off : BitVec 8) (hwf :
    (Instr.ldc c p u n wb rn crd cp off).wellFormed = true) :
    decode (encode (.ldc c p u n wb rn crd cp off)) = .ldc c p u n wb rn crd cp off :=
  decode_encode_of_field (i := .ldc c p u n wb rn crd cp) (join_bits8 off) rfl fun _ => by
    cases p <;> cases u <;> cases wb <;> cases n <;> first | rfl | cases hwf

theorem cdp (c : Cond) (op1 crn crd cp : BitVec 4) (op2 : BitVec 3) (crm : BitVec 4) :
    decode (encode (.cdp c op1 crn crd cp op2 crm)) = .cdp c op1 crn crd cp op2 crm :=
  decode_encode_of_nibbles rfl fun _ => by
    simp [decodeConditional, decodeCoproc, bits4_of_bits3 op2]

theorem mcr (c : Cond) (op1 : BitVec 3) (crn : BitVec 4) (rd : Reg) (cp : BitVec 4) (op2 : BitVec 3) (crm : BitVec 4) :
    decode (encode (.mcr c op1 crn rd cp op2 crm)) = .mcr c op1 crn rd cp op2 crm :=
  decode_encode_of_nibbles rfl fun _ => by
    simp [decodeConditional, decodeCoproc, bits4_of_bits3 op2, bits4_of_bits3 op1]

theorem mrc (c : Cond) (op1 : BitVec 3) (crn : BitVec 4) (rd : Reg) (cp : BitVec 4) (op2 : BitVec 3) (crm : BitVec 4) :
    decode (encode (.mrc c op1 crn rd cp op2 crm)) = .mrc c op1 crn rd cp op2 crm :=
  decode_encode_of_nibbles rfl fun _ => by
    simp [decodeConditional, decodeCoproc, bits4_of_bits3 op2, bits4_of_bits3 op1]

theorem swi (c : Cond) (imm : BitVec 24) : decode (encode (.swi c imm)) = .swi c imm :=
  decode_encode_of_field (i := .swi c) (join_bits24 imm) rfl fun _ => rfl

end RoundTrip

/-- Settles O1: for each constructor the decoder's branches end at it, and the operands are the fields it cuts out. -/
theorem decodeEncode : Obligations.DecodeEncode := by
  intro i hwf hundefined hunpredictable
  cases i with
  | cps => exact RoundTrip.cps ..
  | setend => exact RoundTrip.setend ..
  | pldImm => exact RoundTrip.pldImm ..
  | pldReg => exact RoundTrip.pldReg ..
  | srs => exact RoundTrip.srs ..
  | rfe => exact RoundTrip.rfe ..
  | blx1 => exact RoundTrip.blx1 ..
  | mcrr2 => exact RoundTrip.mcrr2 ..
  | mrrc2 => exact RoundTrip.mrrc2 ..
  | stc2 => exact RoundTrip.stc2 _ _ _ _ _ _ _ _ hwf
  | ldc2 => exact RoundTrip.ldc2 _ _ _ _ _ _ _ _ hwf
  | cdp2 => exact RoundTrip.cdp2 ..
  | mcr2 => exact RoundTrip.mcr2 ..
  | mrc2 => exact RoundTrip.mrc2 ..
  | mul => exact RoundTrip.mul ..
  | mla => exact RoundTrip.mla ..
  | umaal => exact RoundTrip.umaal ..
  | umull => exact RoundTrip.umull ..
  | umlal => exact RoundTrip.umlal ..
  | smull => exact RoundTrip.smull ..
  | smlal => exact RoundTrip.smlal ..
  | swp => exact RoundTrip.swp ..
  | swpb => exact RoundTrip.swpb ..
  | strex => exact RoundTrip.strex ..
  | ldrex => exact RoundTrip.ldrex ..
  | strhReg => exact RoundTrip.strhReg ..
  | strhImm => exact RoundTrip.strhImm ..
  | ldrhReg => exact RoundTrip.ldrhReg ..
  | ldrhImm => exact RoundTrip.ldrhImm ..
  | ldrdReg => exact RoundTrip.ldrdReg ..
  | ldrdImm => exact RoundTrip.ldrdImm ..
  | ldrsbReg => exact RoundTrip.ldrsbReg ..
  | ldrsbImm => exact RoundTrip.ldrsbImm ..
  | strdReg => exact RoundTrip.strdReg ..
  | strdImm => exact RoundTrip.strdImm ..
  | ldrshReg => exact RoundTrip.ldrshReg ..
  | ldrshImm => exact RoundTrip.ldrshImm ..
  | mrs => exact RoundTrip.mrs ..
  | msrReg => exact RoundTrip.msrReg ..
  | bx => exact RoundTrip.bx ..
  | clz => exact RoundTrip.clz ..
  | bxj => exact RoundTrip.bxj ..
  | blx2 => exact RoundTrip.blx2 ..
  | qadd => exact RoundTrip.qadd ..
  | qsub => exact RoundTrip.qsub ..
  | qdadd => exact RoundTrip.qdadd ..
  | qdsub => exact RoundTrip.qdsub ..
  | bkpt => exact RoundTrip.bkpt ..
  | smlaxy => exact RoundTrip.smlaxy ..
  | smlawy => exact RoundTrip.smlawy ..
  | smulwy => exact RoundTrip.smulwy ..
  | smlalxy => exact RoundTrip.smlalxy ..
  | smulxy => exact RoundTrip.smulxy ..
  | andShiftImm => exact RoundTrip.andShiftImm ..
  | eorShiftImm => exact RoundTrip.eorShiftImm ..
  | subShiftImm => exact RoundTrip.subShiftImm ..
  | rsbShiftImm => exact RoundTrip.rsbShiftImm ..
  | addShiftImm => exact RoundTrip.addShiftImm ..
  | adcShiftImm => exact RoundTrip.adcShiftImm ..
  | sbcShiftImm => exact RoundTrip.sbcShiftImm ..
  | rscShiftImm => exact RoundTrip.rscShiftImm ..
  | tstShiftImm => exact RoundTrip.tstShiftImm ..
  | teqShiftImm => exact RoundTrip.teqShiftImm ..
  | cmpShiftImm => exact RoundTrip.cmpShiftImm ..
  | cmnShiftImm => exact RoundTrip.cmnShiftImm ..
  | orrShiftImm => exact RoundTrip.orrShiftImm ..
  | movShiftImm => exact RoundTrip.movShiftImm ..
  | bicShiftImm => exact RoundTrip.bicShiftImm ..
  | mvnShiftImm => exact RoundTrip.mvnShiftImm ..
  | andShiftReg => exact RoundTrip.andShiftReg ..
  | eorShiftReg => exact RoundTrip.eorShiftReg ..
  | subShiftReg => exact RoundTrip.subShiftReg ..
  | rsbShiftReg => exact RoundTrip.rsbShiftReg ..
  | addShiftReg => exact RoundTrip.addShiftReg ..
  | adcShiftReg => exact RoundTrip.adcShiftReg ..
  | sbcShiftReg => exact RoundTrip.sbcShiftReg ..
  | rscShiftReg => exact RoundTrip.rscShiftReg ..
  | tstShiftReg => exact RoundTrip.tstShiftReg ..
  | teqShiftReg => exact RoundTrip.teqShiftReg ..
  | cmpShiftReg => exact RoundTrip.cmpShiftReg ..
  | cmnShiftReg => exact RoundTrip.cmnShiftReg ..
  | orrShiftReg => exact RoundTrip.orrShiftReg ..
  | movShiftReg => exact RoundTrip.movShiftReg ..
  | bicShiftReg => exact RoundTrip.bicShiftReg ..
  | mvnShiftReg => exact RoundTrip.mvnShiftReg ..
  | msrImm => exact RoundTrip.msrImm ..
  | andImm => exact RoundTrip.andImm ..
  | eorImm => exact RoundTrip.eorImm ..
  | subImm => exact RoundTrip.subImm ..
  | rsbImm => exact RoundTrip.rsbImm ..
  | addImm => exact RoundTrip.addImm ..
  | adcImm => exact RoundTrip.adcImm ..
  | sbcImm => exact RoundTrip.sbcImm ..
  | rscImm => exact RoundTrip.rscImm ..
  | tstImm => exact RoundTrip.tstImm ..
  | teqImm => exact RoundTrip.teqImm ..
  | cmpImm => exact RoundTrip.cmpImm ..
  | cmnImm => exact RoundTrip.cmnImm ..
  | orrImm => exact RoundTrip.orrImm ..
  | movImm => exact RoundTrip.movImm ..
  | bicImm => exact RoundTrip.bicImm ..
  | mvnImm => exact RoundTrip.mvnImm ..
  | strtImm => exact RoundTrip.strtImm ..
  | ldrtImm => exact RoundTrip.ldrtImm ..
  | strbtImm => exact RoundTrip.strbtImm ..
  | ldrbtImm => exact RoundTrip.ldrbtImm ..
  | strImm => exact RoundTrip.strImm ..
  | ldrImm => exact RoundTrip.ldrImm ..
  | strbImm => exact RoundTrip.strbImm ..
  | ldrbImm => exact RoundTrip.ldrbImm ..
  | strtReg => exact RoundTrip.strtReg ..
  | ldrtReg => exact RoundTrip.ldrtReg ..
  | strbtReg => exact RoundTrip.strbtReg ..
  | ldrbtReg => exact RoundTrip.ldrbtReg ..
  | strReg => exact RoundTrip.strReg ..
  | ldrReg => exact RoundTrip.ldrReg ..
  | strbReg => exact RoundTrip.strbReg ..
  | ldrbReg => exact RoundTrip.ldrbReg ..
  | sadd16 => exact RoundTrip.sadd16 ..
  | saddsubx => exact RoundTrip.saddsubx ..
  | ssubaddx => exact RoundTrip.ssubaddx ..
  | ssub16 => exact RoundTrip.ssub16 ..
  | sadd8 => exact RoundTrip.sadd8 ..
  | ssub8 => exact RoundTrip.ssub8 ..
  | qadd16 => exact RoundTrip.qadd16 ..
  | qaddsubx => exact RoundTrip.qaddsubx ..
  | qsubaddx => exact RoundTrip.qsubaddx ..
  | qsub16 => exact RoundTrip.qsub16 ..
  | qadd8 => exact RoundTrip.qadd8 ..
  | qsub8 => exact RoundTrip.qsub8 ..
  | shadd16 => exact RoundTrip.shadd16 ..
  | shaddsubx => exact RoundTrip.shaddsubx ..
  | shsubaddx => exact RoundTrip.shsubaddx ..
  | shsub16 => exact RoundTrip.shsub16 ..
  | shadd8 => exact RoundTrip.shadd8 ..
  | shsub8 => exact RoundTrip.shsub8 ..
  | uadd16 => exact RoundTrip.uadd16 ..
  | uaddsubx => exact RoundTrip.uaddsubx ..
  | usubaddx => exact RoundTrip.usubaddx ..
  | usub16 => exact RoundTrip.usub16 ..
  | uadd8 => exact RoundTrip.uadd8 ..
  | usub8 => exact RoundTrip.usub8 ..
  | uqadd16 => exact RoundTrip.uqadd16 ..
  | uqaddsubx => exact RoundTrip.uqaddsubx ..
  | uqsubaddx => exact RoundTrip.uqsubaddx ..
  | uqsub16 => exact RoundTrip.uqsub16 ..
  | uqadd8 => exact RoundTrip.uqadd8 ..
  | uqsub8 => exact RoundTrip.uqsub8 ..
  | uhadd16 => exact RoundTrip.uhadd16 ..
  | uhaddsubx => exact RoundTrip.uhaddsubx ..
  | uhsubaddx => exact RoundTrip.uhsubaddx ..
  | uhsub16 => exact RoundTrip.uhsub16 ..
  | uhadd8 => exact RoundTrip.uhadd8 ..
  | uhsub8 => exact RoundTrip.uhsub8 ..
  | pkhbt => exact RoundTrip.pkhbt ..
  | pkhtb => exact RoundTrip.pkhtb ..
  | ssat => exact RoundTrip.ssat ..
  | usat => exact RoundTrip.usat ..
  | ssat16 => exact RoundTrip.ssat16 ..
  | usat16 => exact RoundTrip.usat16 ..
  | rev => exact RoundTrip.rev ..
  | rev16 => exact RoundTrip.rev16 ..
  | revsh => exact RoundTrip.revsh ..
  | sel => exact RoundTrip.sel ..
  | sxtb16 => exact RoundTrip.sxtb16 ..
  | sxtab16 => exact RoundTrip.sxtab16 _ _ _ _ _ hwf
  | sxtb => exact RoundTrip.sxtb ..
  | sxtab => exact RoundTrip.sxtab _ _ _ _ _ hwf
  | sxth => exact RoundTrip.sxth ..
  | sxtah => exact RoundTrip.sxtah _ _ _ _ _ hwf
  | uxtb16 => exact RoundTrip.uxtb16 ..
  | uxtab16 => exact RoundTrip.uxtab16 _ _ _ _ _ hwf
  | uxtb => exact RoundTrip.uxtb ..
  | uxtab => exact RoundTrip.uxtab _ _ _ _ _ hwf
  | uxth => exact RoundTrip.uxth ..
  | uxtah => exact RoundTrip.uxtah _ _ _ _ _ hwf
  | smuad => exact RoundTrip.smuad ..
  | smlad => exact RoundTrip.smlad _ _ _ _ _ _ hwf
  | smusd => exact RoundTrip.smusd ..
  | smlsd => exact RoundTrip.smlsd _ _ _ _ _ _ hwf
  | smlald => exact RoundTrip.smlald ..
  | smlsld => exact RoundTrip.smlsld ..
  | smmul => exact RoundTrip.smmul ..
  | smmla => exact RoundTrip.smmla _ _ _ _ _ _ hwf
  | smmls => exact RoundTrip.smmls ..
  | usad8 => exact RoundTrip.usad8 ..
  | usada8 => exact RoundTrip.usada8 _ _ _ _ _ hwf
  | ldm1 => exact RoundTrip.ldm1 ..
  | ldm3 => exact RoundTrip.ldm3 ..
  | ldm2 => exact RoundTrip.ldm2 ..
  | stm1 => exact RoundTrip.stm1 ..
  | stm2 => exact RoundTrip.stm2 ..
  | b => exact RoundTrip.b ..
  | bl => exact RoundTrip.bl ..
  | mcrr => exact RoundTrip.mcrr ..
  | mrrc => exact RoundTrip.mrrc ..
  | stc => exact RoundTrip.stc _ _ _ _ _ _ _ _ _ hwf
  | ldc => exact RoundTrip.ldc _ _ _ _ _ _ _ _ _ hwf
  | cdp => exact RoundTrip.cdp ..
  | mcr => exact RoundTrip.mcr ..
  | mrc => exact RoundTrip.mrc ..
  | swi => exact RoundTrip.swi ..
  | undefinedWord w => exact absurd rfl (hundefined w)
  | unpredictableWord w => exact absurd rfl (hunpredictable w)

end Sys2Proof

/-!
Every word decodes to a well-formed instruction that encodes to it: along the decoder, each row fixes some bits of the
nibbles and puts the others into operands, and the encoder puts the same nibbles together again.
-/

namespace Sys2Proof

/-- What the decoder owes the word `w`: a well-formed instruction that encodes to it. -/
def Good (w : Word) (i : Instr) : Prop :=
  i.wellFormed = true ∧ encode i = w

theorem good_undefinedWord (w : Word) : Good w (.undefinedWord w) := ⟨rfl, rfl⟩

theorem good_unpredictableWord (w : Word) : Good w (.unpredictableWord w) := ⟨rfl, rfl⟩

/-- A row with should-be bits: the instruction where they are as they should be, else the word itself. -/
theorem Good.row {w : Word} {p : Prop} [Decidable p] {i : Instr} (h : p → Good w i) :
    Good w (if p then i else .unpredictableWord w) := by
  by_cases hp : p
  · rw [if_pos hp]; exact h hp
  · rw [if_neg hp]; exact good_unpredictableWord w

theorem Good.cond {w : Word} {b : Bool} {i j : Instr} (h : b = true → Good w i) (h' : b = false → Good w j) :
    Good w (bif b then i else j) := by
  cases b
  · exact h' rfl
  · exact h rfl

/-- An instruction that encodes to eight nibbles is good for the word of those nibbles. -/
theorem good_of_nibbles {i : Instr} {m7 m6 m5 m4 m3 m2 m1 m0 n7 n6 n5 n4 n3 n2 n1 n0 : BitVec 4}
    (hwf : i.wellFormed = true) (henc : encode i = joinNibbles m7 m6 m5 m4 m3 m2 m1 m0)
    (h7 : m7 = n7) (h6 : m6 = n6) (h5 : m5 = n5) (h4 : m4 = n4) (h3 : m3 = n3) (h2 : m2 = n2)
    (h1 : m1 = n1) (h0 : m0 = n0) : Good (joinNibbles n7 n6 n5 n4 n3 n2 n1 n0) i := by
  subst h7 h6 h5 h4 h3 h2 h1 h0
  exact ⟨hwf, henc⟩

theorem nibble_of_toNat {n : BitVec 4} {k : Nat} (h : n.toNat = k) (hk : k < 16) : n = BitVec.ofNat 4 k :=
  BitVec.eq_of_toNat_eq (by rw [h, BitVec.toNat_ofNat]; exact (Nat.mod_eq_of_lt hk).symm)

/-! ### Nibbles put together from the fields that were cut out of them -/

theorem extract_join_high (a b : BitVec 4) : (a ++ b).extractLsb' 4 4 = a := BitVec.extractLsb'_append_eq_left

theorem extract_join_low {n : Nat} (a : BitVec n) (b : BitVec 4) : (a ++ b).extractLsb' 0 4 = b :=
  BitVec.extractLsb'_append_eq_right

/-- A nibble above the lowest of several is the nibble one place lower without the lowest. -/
theorem extract_join_up {n : Nat} (a : BitVec n) (b : BitVec 4) (k : Nat) :
    (a ++ b).extractLsb' (k + 4) 4 = a.extractLsb' k 4 := by
  rw [BitVec.extractLsb'_append_eq_of_le (Nat.le_add_left 4 k), Nat.add_sub_cancel]

theorem join_bits (n : BitVec 4) : BitVec.ofBool (n.getLsbD 3) ++ BitVec.ofBool (n.getLsbD 2) ++ BitVec.ofBool
    (n.getLsbD 1)
    ++ BitVec.ofBool (n.getLsbD 0) = n := by revert n; decide

theorem join_high3 (n : BitVec 4) : n.extractLsb' 1 3 ++ BitVec.ofBool (n.getLsbD 0) = n := by revert n; decide

theorem join_low3 (n : BitVec 4) : BitVec.ofBool (n.getLsbD 3) ++ n.extractLsb' 0 3 = n := by revert n; decide

theorem join_high2 (n : BitVec 4) : n.extractLsb' 2 2 ++ n.extractLsb' 0 2 = n := by revert n; decide

/-- The top four of the five bits of a shift amount. -/
theorem amount_high (n2 n1 : BitVec 4) : (n2 ++ n1.extractLsb' 3 1).extractLsb' 1 4 = n2 :=
  BitVec.extractLsb'_append_eq_left

theorem amount_low (n2 n1 : BitVec 4) : (n2 ++ n1.extractLsb' 3 1).extractLsb' 0 1 = n1.extractLsb' 3 1 :=
  BitVec.extractLsb'_append_eq_right

/-- The nibble of a shift by an immediate amount: the lowest bit of the amount, the type and a zero. -/
theorem shiftImm_nibble {n2 n1 : BitVec 4} (h : n1.getLsbD 0 = false) :
    (n2 ++ n1.extractLsb' 3 1).extractLsb' 0 1 ++ (ShiftType.ofBits (n1.extractLsb' 1 2)).bits ++ 0#1 = n1 := by
  rw [amount_low, ShiftType.bits_ofBits]
  revert h; revert n1; decide

/-- The nibble of a shift by a register: a zero, the type and a one. -/
theorem shiftReg_nibble {n1 : BitVec 4} (h3 : n1.getLsbD 3 = false) (h0 : n1.getLsbD 0 = true) :
    0#1 ++ (ShiftType.ofBits (n1.extractLsb' 1 2)).bits ++ 1#1 = n1 := by
  rw [ShiftType.bits_ofBits]
  revert h3 h0; revert n1; decide

/-- The nibble of a saturation: the lowest bit of the amount, the shift and 01. -/
theorem saturate_nibble_of {n2 n1 : BitVec 4} (h : n1.extractLsb' 0 2 = 1#2) :
    (n2 ++ n1.extractLsb' 3 1).extractLsb' 0 1 ++ BitVec.ofBool (n1.getLsbD 2) ++ 1#2 = n1 := by
  rw [amount_low]
  revert h; revert n1; decide

/-- The nibble of a halfword pack: the lowest bit of the amount and three fixed bits. -/
theorem pack_nibble {n2 n1 : BitVec 4} {x : BitVec 3} (h : n1.extractLsb' 0 3 = x) :
    (n2 ++ n1.extractLsb' 3 1).extractLsb' 0 1 ++ x = n1 := by
  rw [amount_low, ← h]
  clear h
  revert n1; decide

theorem IndexMode.p_ofBits (p w : Bool) : (IndexMode.ofBits p w).p = p := by cases p <;> cases w <;> rfl

/-- W can be read off the indexing mode unless P = 0 and W = 1. -/
theorem IndexMode.w_ofBits {p w : Bool} (h : p = true ∨ w = false) : (IndexMode.ofBits p w).w = w := by
  cases p <;> cases w <;> simp_all [IndexMode.ofBits, IndexMode.w]

/-- The nibble U, B, W, L of an indexed form. -/
theorem indexed_nibble {n6 n5 : BitVec 4} {b l : BitVec 1} (hb : BitVec.ofBool (n5.getLsbD 2) = b)
    (hl : BitVec.ofBool (n5.getLsbD 0) = l)
    (hp : n6.getLsbD 0 = true ∨ n5.getLsbD 1 = false) :
    BitVec.ofBool (n5.getLsbD 3) ++ b ++ BitVec.ofBool (IndexMode.ofBits (n6.getLsbD 0) (n5.getLsbD 1)).w ++ l = n5 :=
        by
  rw [IndexMode.w_ofBits hp, ← hb, ← hl]
  exact join_bits n5

/-- The nibble of a T form: its three lower bits are fixed. -/
theorem unindexed_nibble {n5 : BitVec 4} {x : BitVec 3} (h : n5.extractLsb' 0 3 = x) :
    BitVec.ofBool (n5.getLsbD 3) ++ x = n5 := by
  rw [← h]
  exact join_low3 n5

/-- The opcode `k` of a data-processing instruction is split between two nibbles. -/
theorem opcode_nibbles {n6 n5 : BitVec 4} {b : BitVec 3} {k : Nat} (hb : n6.extractLsb' 1 3 = b)
    (h : (n6.extractLsb' 0 1 ++ n5.extractLsb' 1 3).toNat = k) :
    b ++ BitVec.ofNat 1 (k / 8) = n6 ∧ BitVec.ofNat 3 k ++ BitVec.ofBool (n5.getLsbD 0) = n5 := by
  subst hb h
  revert n6 n5
  decide

/-- The opcode that no row names is the last one. -/
theorem opcode_last {o : BitVec (1 + 3)} (h0 : o.toNat ≠ 0) (h1 : o.toNat ≠ 1) (h2 : o.toNat ≠ 2) (h3 : o.toNat ≠ 3)
    (h4 : o.toNat ≠ 4) (h5 : o.toNat ≠ 5) (h6 : o.toNat ≠ 6) (h7 : o.toNat ≠ 7) (h8 : o.toNat ≠ 8)
    (h9 : o.toNat ≠ 9) (h10 : o.toNat ≠ 10) (h11 : o.toNat ≠ 11) (h12 : o.toNat ≠ 12) (h13 : o.toNat ≠ 13)
    (h14 : o.toNat ≠ 14) : o.toNat = 15 := by
  have := o.isLt
  omega

/-- A comparison, opcodes 8 to 11, has its S bit set: with S clear the word is in the control space. -/
theorem compare_nibble {n6 n5 : BitVec 4} {k : Nat} (hc : isControlSpace n6 n5 = false)
    (h : (n6.extractLsb' 0 1 ++ n5.extractLsb' 1 3).toNat = k) (hk : k / 4 = 2) :
    BitVec.ofNat 3 k ++ 1#1 = n5 := by
  subst h
  revert n6 n5
  decide

/-! ### The rows of each decoder -/

theorem good_decodeMultiply (c : Cond) (n5 n4 n3 n2 n0 : BitVec 4) :
    Good (joinNibbles c.bits 0#4 n5 n4 n3 n2 9#4 n0)
      (decodeMultiply (joinNibbles c.bits 0#4 n5 n4 n3 n2 9#4 n0) c n5 n4 n3 n2 n0) := by
  unfold decodeMultiply
  split
  case h_1 h | h_2 h =>
    obtain rfl := nibble_of_toNat h (by decide)
    refine Good.row fun h3 => ?_
    subst h3
    exact ⟨rfl, rfl⟩
  case h_14 => exact good_undefinedWord _
  all_goals
    rename_i h
    obtain rfl := nibble_of_toNat h (by decide)
    exact ⟨rfl, rfl⟩

theorem good_decodeSwapExclusive (c : Cond) (n5 n4 n3 n2 n0 : BitVec 4) :
    Good (joinNibbles c.bits 1#4 n5 n4 n3 n2 9#4 n0)
      (decodeSwapExclusive (joinNibbles c.bits 1#4 n5 n4 n3 n2 9#4 n0) c n5 n4 n3 n2 n0) := by
  unfold decodeSwapExclusive
  split
  case h_4 h =>
    obtain rfl := nibble_of_toNat h (by decide)
    refine Good.row fun ⟨h2, h0⟩ => ?_
    subst h2 h0
    exact ⟨rfl, rfl⟩
  case h_5 => exact good_undefinedWord _
  all_goals
    rename_i h
    obtain rfl := nibble_of_toNat h (by decide)
    refine Good.row fun h2 => ?_
    subst h2
    exact ⟨rfl, rfl⟩

theorem good_decodeMode3 {c : Cond} {n6 n5 n4 n3 n2 n1 n0 : BitVec 4} (h6 : n6 = 0#4 ∨ n6 = 1#4)
    (h1 : n1 = 0xB#4 ∨ n1 = 0xD#4 ∨ n1 = 0xF#4) :
    Good (joinNibbles c.bits n6 n5 n4 n3 n2 n1 n0)
      (decodeMode3 (joinNibbles c.bits n6 n5 n4 n3 n2 n1 n0) c n6 n5 n4 n3 n2 n1 n0) := by
  have hp : 0#3 ++ BitVec.ofBool (IndexMode.ofBits (n6.getLsbD 0) (n5.getLsbD 1)).p = n6 := by
    rw [IndexMode.p_ofBits]
    obtain rfl | rfl := h6 <;> rfl
  cases hl : n5.getLsbD 0 <;> cases hb : n5.getLsbD 2
  case false.false | true.false =>
    obtain rfl | rfl | rfl := h1
    all_goals
      simp only [decodeMode3, hl, hb]
      refine Good.row fun ⟨h2, hw⟩ => ?_
      subst h2
      exact good_of_nibbles rfl rfl rfl hp (indexed_nibble (congrArg _ hb) (congrArg _ hl) hw) rfl rfl rfl rfl rfl
  case false.true | true.true =>
    obtain rfl | rfl | rfl := h1
    all_goals
      simp only [decodeMode3, hl, hb]
      refine Good.row fun hw => ?_
      exact good_of_nibbles rfl rfl rfl hp (indexed_nibble (congrArg _ hb) (congrArg _ hl) hw) rfl rfl
          (extract_join_high n2 n0) rfl
        (extract_join_low n2 n0)

/-- The second nibble of the control space, from the two bits between its fixed ones. -/
theorem control_nibble {n5 : BitVec 4} {k : Nat} (h3 : n5.getLsbD 3 = false) (h0 : n5.getLsbD 0 = false)
    (h : (n5.extractLsb' 1 2).toNat = k) : n5 = 0#1 ++ BitVec.ofNat 2 k ++ 0#1 := by
  subst h
  revert h3 h0; revert n5; decide

theorem good_decodeMisc {c : Cond} {n5 n4 n3 n2 n1 n0 : BitVec 4} (h3 : n5.getLsbD 3 = false)
    (h0 : n5.getLsbD 0 = false) :
    Good (joinNibbles c.bits 1#4 n5 n4 n3 n2 n1 n0)
      (decodeMisc (joinNibbles c.bits 1#4 n5 n4 n3 n2 n1 n0) c n5 n4 n3 n2 n1 n0) := by
  unfold decodeMisc
  split
  case h_30 => exact good_undefinedWord _
  all_goals
    rename_i hn1 hn5
    obtain rfl := nibble_of_toNat hn1 (by decide)
    obtain rfl := control_nibble h3 h0 hn5
  case h_1 | h_2 =>
    refine Good.row fun ⟨h2, h0, h4⟩ => ?_
    subst h2 h0 h4
    exact ⟨rfl, rfl⟩
  case h_3 | h_4 =>
    refine Good.row fun ⟨h2, h3⟩ => ?_
    subst h2 h3
    exact ⟨rfl, rfl⟩
  case h_5 | h_7 | h_8 =>
    refine Good.row fun ⟨h4, h3, h2⟩ => ?_
    subst h4 h3 h2
    exact ⟨rfl, rfl⟩
  case h_6 =>
    refine Good.row fun ⟨h4, h2⟩ => ?_
    subst h4 h2
    exact ⟨rfl, rfl⟩
  case h_13 =>
    refine Good.row fun hc => ?_
    subst hc
    exact good_of_nibbles rfl rfl rfl rfl rfl (extract_join_up _ n0 8 |>.trans (extract_join_up _ n2 4) |>.trans
      (extract_join_high n4 n3)) (extract_join_up _ n0 4 |>.trans (extract_join_up _ n2 0) |>.trans
      (extract_join_low n4 n3)) (extract_join_up _ n0 0 |>.trans (extract_join_low _ n2)) rfl (extract_join_low _ n0)
  case h_9 | h_10 | h_11 | h_12 | h_20 | h_21 | h_26 | h_27 | h_28 | h_29 =>
    refine Good.row fun h => ?_
    subst h
    exact ⟨rfl, rfl⟩
  all_goals exact ⟨rfl, rfl⟩

theorem good_decodeShiftImm {c : Cond} {n6 n5 n4 n3 n2 n1 n0 : BitVec 4} (h6 : n6.extractLsb' 1 3 = 0#3)
    (hc : isControlSpace n6 n5 = false) (h0 : n1.getLsbD 0 = false) :
    Good (joinNibbles c.bits n6 n5 n4 n3 n2 n1 n0)
      (decodeShiftImm (joinNibbles c.bits n6 n5 n4 n3 n2 n1 n0) c n6 n5 n4 n3 n2 n1 n0) := by
  unfold decodeShiftImm
  split
  case h_16 =>
    obtain ⟨hn6, hn5⟩ := opcode_nibbles h6 (opcode_last ‹_› ‹_› ‹_› ‹_› ‹_› ‹_› ‹_› ‹_› ‹_› ‹_› ‹_› ‹_› ‹_› ‹_› ‹_›)
    refine Good.row fun h => ?_
    exact good_of_nibbles rfl rfl rfl hn6 hn5 h.symm rfl (amount_high n2 n1) (shiftImm_nibble h0) rfl
  all_goals
    rename_i hk
    obtain ⟨hn6, hn5⟩ := opcode_nibbles h6 hk
  case h_9 | h_10 | h_11 | h_12 =>
    refine Good.row fun h => ?_
    exact good_of_nibbles rfl rfl rfl hn6 (compare_nibble hc hk rfl) rfl h.symm (amount_high n2 n1) (shiftImm_nibble
        h0) rfl
  case h_14 =>
    refine Good.row fun h => ?_
    exact good_of_nibbles rfl rfl rfl hn6 hn5 h.symm rfl (amount_high n2 n1) (shiftImm_nibble h0) rfl
  all_goals exact good_of_nibbles rfl rfl rfl hn6 hn5 rfl rfl (amount_high n2 n1) (shiftImm_nibble h0) rfl

theorem good_decodeShiftReg {c : Cond} {n6 n5 n4 n3 n2 n1 n0 : BitVec 4} (h6 : n6.extractLsb' 1 3 = 0#3)
    (hc : isControlSpace n6 n5 = false) (h3 : n1.getLsbD 3 = false) (h0 : n1.getLsbD 0 = true) :
    Good (joinNibbles c.bits n6 n5 n4 n3 n2 n1 n0)
      (decodeShiftReg (joinNibbles c.bits n6 n5 n4 n3 n2 n1 n0) c n6 n5 n4 n3 n2 n1 n0) := by
  unfold decodeShiftReg
  split
  case h_16 =>
    obtain ⟨hn6, hn5⟩ := opcode_nibbles h6 (opcode_last ‹_› ‹_› ‹_› ‹_› ‹_› ‹_› ‹_› ‹_› ‹_› ‹_› ‹_› ‹_› ‹_› ‹_› ‹_›)
    refine Good.row fun h => ?_
    exact good_of_nibbles rfl rfl rfl hn6 hn5 h.symm rfl rfl (shiftReg_nibble h3 h0) rfl
  all_goals
    rename_i hk
    obtain ⟨hn6, hn5⟩ := opcode_nibbles h6 hk
  case h_9 | h_10 | h_11 | h_12 =>
    refine Good.row fun h => ?_
    exact good_of_nibbles rfl rfl rfl hn6 (compare_nibble hc hk rfl) rfl h.symm rfl (shiftReg_nibble h3 h0) rfl
  case h_14 =>
    refine Good.row fun h => ?_
    exact good_of_nibbles rfl rfl rfl hn6 hn5 h.symm rfl rfl (shiftReg_nibble h3 h0) rfl
  all_goals exact good_of_nibbles rfl rfl rfl hn6 hn5 rfl rfl rfl (shiftReg_nibble h3 h0) rfl

theorem good_decodeImm {c : Cond} {n6 n5 n4 n3 n2 n1 n0 : BitVec 4} (h6 : n6.extractLsb' 1 3 = 1#3)
    (hc : isControlSpace n6 n5 = false) :
    Good (joinNibbles c.bits n6 n5 n4 n3 n2 n1 n0)
      (decodeImm (joinNibbles c.bits n6 n5 n4 n3 n2 n1 n0) c n6 n5 n4 n3 n2 n1 n0) := by
  unfold decodeImm
  split
  case h_16 =>
    obtain ⟨hn6, hn5⟩ := opcode_nibbles h6 (opcode_last ‹_› ‹_› ‹_› ‹_› ‹_› ‹_› ‹_› ‹_› ‹_› ‹_› ‹_› ‹_› ‹_› ‹_› ‹_›)
    refine Good.row fun h => ?_
    exact good_of_nibbles rfl rfl rfl hn6 hn5 h.symm rfl rfl (extract_join_high n1 n0) (extract_join_low n1 n0)
  all_goals
    rename_i hk
    obtain ⟨hn6, hn5⟩ := opcode_nibbles h6 hk
  case h_9 | h_10 | h_11 | h_12 =>
    refine Good.row fun h => ?_
    exact good_of_nibbles rfl rfl rfl hn6 (compare_nibble hc hk rfl) rfl h.symm rfl (extract_join_high n1 n0)
        (extract_join_low n1 n0)
  case h_14 =>
    refine Good.row fun h => ?_
    exact good_of_nibbles rfl rfl rfl hn6 hn5 h.symm rfl rfl (extract_join_high n1 n0) (extract_join_low n1 n0)
  all_goals exact good_of_nibbles rfl rfl rfl hn6 hn5 rfl rfl rfl (extract_join_high n1 n0) (extract_join_low n1 n0)

theorem good_decodeGroup0 {c : Cond} {n6 n5 n4 n3 n2 n1 n0 : BitVec 4} (h6 : n6.extractLsb' 1 3 = 0#3) :
    Good (joinNibbles c.bits n6 n5 n4 n3 n2 n1 n0)
      (decodeGroup0 (joinNibbles c.bits n6 n5 n4 n3 n2 n1 n0) c n6 n5 n4 n3 n2 n1 n0) := by
  have hn6 : n6 = if n6.getLsbD 0 then 1#4 else 0#4 := by revert h6; revert n6; decide
  refine Good.cond (fun h => ?_) (fun h => ?_)
  · refine Good.cond (fun h9 => ?_) (fun h9 => ?_)
    · obtain rfl : n1 = 9#4 := eq_of_beq h9
      refine Good.cond (fun hb => ?_) (fun hb => ?_)
      · obtain rfl : n6 = 1#4 := by rw [hn6, if_pos hb]
        exact good_decodeSwapExclusive c n5 n4 n3 n2 n0
      · obtain rfl : n6 = 0#4 := by rw [hn6, if_neg (hb ▸ Bool.false_ne_true)]
        exact good_decodeMultiply c n5 n4 n3 n2 n0
    · have h1 : n1 = 0xB#4 ∨ n1 = 0xD#4 ∨ n1 = 0xF#4 := by revert h h9; revert n1; decide
      exact good_decodeMode3 (by revert h6; revert n6; decide) h1
  · refine Good.cond (fun hc => ?_) (fun hc => ?_)
    · obtain ⟨hb, h3, h0⟩ : n6.getLsbD 0 = true ∧ n5.getLsbD 3 = false ∧ n5.getLsbD 0 = false := by
        simpa [isControlSpace, and_assoc] using hc
      obtain rfl : n6 = 1#4 := by rw [hn6, if_pos hb]
      exact good_decodeMisc h3 h0
    · refine Good.cond (fun h0 => ?_) (fun h0 => ?_)
      · have h3 : n1.getLsbD 3 = false := by rw [← h, h0, Bool.and_true]
        exact good_decodeShiftReg h6 hc h3 h0
      · exact good_decodeShiftImm h6 hc h0

theorem good_decodeGroup1 {c : Cond} {n6 n5 n4 n3 n2 n1 n0 : BitVec 4} (h6 : n6.extractLsb' 1 3 = 1#3) :
    Good (joinNibbles c.bits n6 n5 n4 n3 n2 n1 n0)
      (decodeGroup1 (joinNibbles c.bits n6 n5 n4 n3 n2 n1 n0) c n6 n5 n4 n3 n2 n1 n0) := by
  refine Good.cond (fun hc => ?_) (fun hc => good_decodeImm h6 hc)
  refine Good.cond (fun h1 => ?_) (fun _ => good_undefinedWord _)
  refine Good.row fun h3 => ?_
  have hn6 : 3#4 = n6 := by revert h6 hc; revert n6 n5; decide
  have hn5 : 0#1 ++ BitVec.ofBool (n5.getLsbD 2) ++ 2#2 = n5 := by revert h1 hc; revert n6 n5; decide
  exact good_of_nibbles rfl rfl rfl hn6 hn5 rfl h3.symm rfl (extract_join_high n1 n0) (extract_join_low n1 n0)

/-- A T form: P = 0 and W = 1. -/
theorem unindexed_nibbles {n6 n5 : BitVec 4} {a : BitVec 3} {b l : BitVec 1} (ha : n6.extractLsb' 1 3 = a)
    (hb : BitVec.ofBool (n5.getLsbD 2) = b) (hl : BitVec.ofBool (n5.getLsbD 0) = l)
    (hw : (!n6.getLsbD 0 && n5.getLsbD 1) = true) :
    a ++ 0#1 = n6 ∧ BitVec.ofBool (n5.getLsbD 3) ++ (b ++ 1#1 ++ l) = n5 := by
  subst ha hb hl
  revert n6 n5
  decide

theorem indexed_p {n6 : BitVec 4} {a : BitVec 3} {w : Bool} (ha : n6.extractLsb' 1 3 = a) :
    a ++ BitVec.ofBool (IndexMode.ofBits (n6.getLsbD 0) w).p = n6 := by
  rw [IndexMode.p_ofBits, ← ha]
  exact join_high3 n6

theorem good_decodeMode2Imm {w : Word} {c : Cond} {n6 n5 n4 n3 n2 n1 n0 : BitVec 4} (h6 : n6.extractLsb' 1 3 = 2#3)
    (hw : w = joinNibbles c.bits n6 n5 n4 n3 n2 n1 n0) :
    Good w (decodeMode2Imm c n6 n5 n4 n3 n2 n1 n0) := by
  subst hw
  have h2 := extract_join_up (n2 ++ n1) n0 4 |>.trans (extract_join_high n2 n1)
  have h1 := extract_join_up (n2 ++ n1) n0 0 |>.trans (extract_join_low n2 n1)
  have h0 := extract_join_low (n2 ++ n1) n0
  cases hl : n5.getLsbD 0 <;> cases hb : n5.getLsbD 2 <;> cases ht : !n6.getLsbD 0 && n5.getLsbD 1
  case false.false.true | false.true.true | true.false.true | true.true.true =>
    obtain ⟨hn6, hn5⟩ := unindexed_nibbles h6 (congrArg _ hb) (congrArg _ hl) ht
    simp only [decodeMode2Imm, hl, hb, ht]
    exact good_of_nibbles rfl rfl rfl hn6 hn5 rfl rfl h2 h1 h0
  all_goals
    have hw : n6.getLsbD 0 = true ∨ n5.getLsbD 1 = false := by
      cases hp : n6.getLsbD 0 <;> simp_all
    simp only [decodeMode2Imm, hl, hb, ht]
    exact good_of_nibbles rfl rfl rfl (indexed_p h6) (indexed_nibble (congrArg _ hb) (congrArg _ hl) hw) rfl rfl
      h2 h1 h0

theorem good_decodeMode2Reg {w : Word} {c : Cond} {n6 n5 n4 n3 n2 n1 n0 : BitVec 4} (h6 : n6.extractLsb' 1 3 = 3#3)
    (h0 : n1.getLsbD 0 = false) (hw : w = joinNibbles c.bits n6 n5 n4 n3 n2 n1 n0) :
    Good w (decodeMode2Reg c n6 n5 n4 n3 n2 n1 n0) := by
  subst hw
  cases hl : n5.getLsbD 0 <;> cases hb : n5.getLsbD 2 <;> cases ht : !n6.getLsbD 0 && n5.getLsbD 1
  case false.false.true | false.true.true | true.false.true | true.true.true =>
    obtain ⟨hn6, hn5⟩ := unindexed_nibbles h6 (congrArg _ hb) (congrArg _ hl) ht
    simp only [decodeMode2Reg, hl, hb, ht]
    exact good_of_nibbles rfl rfl rfl hn6 hn5 rfl rfl (amount_high n2 n1) (shiftImm_nibble h0) rfl
  all_goals
    have hw : n6.getLsbD 0 = true ∨ n5.getLsbD 1 = false := by
      cases hp : n6.getLsbD 0 <;> simp_all
    simp only [decodeMode2Reg, hl, hb, ht]
    exact good_of_nibbles rfl rfl rfl (indexed_p h6) (indexed_nibble (congrArg _ hb) (congrArg _ hl) hw) rfl rfl
      (amount_high n2 n1) (shiftImm_nibble h0) rfl

theorem good_decodeParallel (c : Cond) (n5 n4 n3 n2 n1 n0 : BitVec 4) :
    Good (joinNibbles c.bits 6#4 n5 n4 n3 n2 n1 n0)
      (decodeParallel (joinNibbles c.bits 6#4 n5 n4 n3 n2 n1 n0) c n5 n4 n3 n2 n1 n0) := by
  unfold decodeParallel
  split
  case h_37 => exact good_undefinedWord _
  all_goals
    rename_i h5 h1
    obtain rfl := nibble_of_toNat h5 (by decide)
    obtain rfl := nibble_of_toNat h1 (by decide)
    refine Good.row fun h2 => ?_
    subst h2
    exact ⟨rfl, rfl⟩

theorem good_decodePackSaturate {c : Cond} {n5 n4 n3 n2 n1 n0 : BitVec 4} (h1 : n1.extractLsb' 0 2 = 1#2) :
    Good (joinNibbles c.bits 6#4 n5 n4 n3 n2 n1 n0)
      (decodePackSaturate (joinNibbles c.bits 6#4 n5 n4 n3 n2 n1 n0) c n5 n4 n3 n2 n1 n0) := by
  unfold decodePackSaturate
  split
  case h_1 h =>
    obtain rfl := nibble_of_toNat h (by decide)
    refine Good.cond (fun hb => ?_) (fun hb => ?_)
    · have h5 : n1.extractLsb' 0 3 = 5#3 := by revert h1 hb; revert n1; decide
      exact good_of_nibbles rfl rfl rfl rfl rfl rfl rfl (amount_high n2 n1) (pack_nibble h5) rfl
    · have h1 : n1.extractLsb' 0 3 = 1#3 := by revert h1 hb; revert n1; decide
      exact good_of_nibbles rfl rfl rfl rfl rfl rfl rfl (amount_high n2 n1) (pack_nibble h1) rfl
  case h_6 => exact good_undefinedWord _
  all_goals
    rename_i h
    obtain rfl := nibble_of_toNat h (by decide)
    exact good_of_nibbles rfl rfl rfl rfl (congrArg (_ ++ ·) BitVec.extractLsb'_append_eq_left)
      (extract_join_low _ n4) rfl (amount_high n2 n1) (saturate_nibble_of h1) rfl

/-- The rows of an extend instruction: without a first operand, and with one. -/
theorem good_extendRow {w : Word} {n4 n2 : BitVec 4} {i j : Instr}
    (hi : n4 = 0xF#4 → n2.extractLsb' 2 2 ++ 0#2 = n2 → Good w i)
    (hj : (n4 != 0xF#4) = true → n2.extractLsb' 2 2 ++ 0#2 = n2 → Good w j) :
    Good w (bif n4 == 0xF#4 then (if n2.extractLsb' 0 2 = 0#2 then i else .unpredictableWord w)
      else if n2.extractLsb' 0 2 = 0#2 then j else .unpredictableWord w) := by
  have hn2 (h : n2.extractLsb' 0 2 = 0#2) : n2.extractLsb' 2 2 ++ 0#2 = n2 := by rw [← h, join_high2]
  refine Good.cond (fun h4 => Good.row fun h => hi (eq_of_beq h4) (hn2 h)) (fun h4 => Good.row fun h => hj ?_ (hn2 h))
  rw [bne, h4, Bool.not_false]

theorem good_decodeMediaMisc (c : Cond) (n5 n4 n3 n2 n1 n0 : BitVec 4) :
    Good (joinNibbles c.bits 6#4 n5 n4 n3 n2 n1 n0)
      (decodeMediaMisc (joinNibbles c.bits 6#4 n5 n4 n3 n2 n1 n0) c n5 n4 n3 n2 n1 n0) := by
  unfold decodeMediaMisc
  split
  case h_13 => exact good_undefinedWord _
  all_goals
    rename_i h5 h1
    obtain rfl := nibble_of_toNat h5 (by decide)
    obtain rfl := nibble_of_toNat h1 (by decide)
  case h_1 | h_2 | h_6 =>
    refine Good.row fun h => ?_
    subst h
    exact ⟨rfl, rfl⟩
  case h_3 | h_4 | h_5 =>
    refine Good.row fun ⟨h4, h2⟩ => ?_
    subst h4 h2
    exact ⟨rfl, rfl⟩
  all_goals
    refine good_extendRow (fun h4 h2 => ?_) (fun h4 h2 => ?_)
    · exact good_of_nibbles rfl rfl rfl rfl rfl h4.symm rfl h2 rfl rfl
    · exact good_of_nibbles h4 rfl rfl rfl rfl rfl rfl h2 rfl rfl

theorem good_decodeMultiply3 (c : Cond) (n5 n4 n3 n2 n1 n0 : BitVec 4) :
    Good (joinNibbles c.bits 7#4 n5 n4 n3 n2 n1 n0)
      (decodeMultiply3 (joinNibbles c.bits 7#4 n5 n4 n3 n2 n1 n0) c n5 n4 n3 n2 n1 n0) := by
  unfold decodeMultiply3
  split
  case h_14 => exact good_undefinedWord _
  all_goals
    rename_i h5 h1
    obtain rfl := nibble_of_toNat h5 (by decide)
    obtain rfl := nibble_of_toNat h1 (by decide)
  case h_1 | h_2 | h_3 | h_4 | h_9 | h_10 | h_13 =>
    refine Good.cond (fun h3 => ?_) (fun h3 => ?_)
    · obtain rfl : n3 = 0xF#4 := eq_of_beq h3
      exact ⟨rfl, rfl⟩
    · exact ⟨by rw [Instr.wellFormed, bne, h3, Bool.not_false], rfl⟩
  all_goals exact ⟨rfl, rfl⟩

theorem good_decodeMedia {c : Cond} {n6 n5 n4 n3 n2 n1 n0 : BitVec 4} (h6 : n6.extractLsb' 1 3 = 3#3)
    (h1 : n1.getLsbD 0 = true) :
    Good (joinNibbles c.bits n6 n5 n4 n3 n2 n1 n0)
      (decodeMedia (joinNibbles c.bits n6 n5 n4 n3 n2 n1 n0) c n6 n5 n4 n3 n2 n1 n0) := by
  refine Good.cond (fun h => ?_) (fun h => ?_)
  · obtain rfl : n6 = 7#4 := by revert h6 h; revert n6; decide
    exact good_decodeMultiply3 c n5 n4 n3 n2 n1 n0
  · obtain rfl : n6 = 6#4 := by revert h6 h; revert n6; decide
    refine Good.cond (fun _ => good_decodeParallel c n5 n4 n3 n2 n1 n0) (fun _ => ?_)
    refine Good.cond (fun _ => good_decodeMediaMisc c n5 n4 n3 n2 n1 n0) (fun hb => ?_)
    exact good_decodePackSaturate (by revert h1 hb; revert n1; decide)

/-- The nibbles P and U, S, W, L of a transfer of several registers. -/
theorem multiple_nibbles {n6 n5 : BitVec 4} {a : BitVec 3} {s l : BitVec 1} (ha : n6.extractLsb' 1 3 = a)
    (hs : BitVec.ofBool (n5.getLsbD 2) = s) (hl : BitVec.ofBool (n5.getLsbD 0) = l) :
    a ++ BitVec.ofBool (AddrMode4.ofBits (n6.getLsbD 0) (n5.getLsbD 3)).p = n6
      ∧ BitVec.ofBool (AddrMode4.ofBits (n6.getLsbD 0) (n5.getLsbD 3)).u ++ s ++ BitVec.ofBool (n5.getLsbD 1) ++ l
        = n5 := by
  rw [AddrMode4.p_ofBits, AddrMode4.u_ofBits, ← ha, ← hs, ← hl]
  exact ⟨join_high3 n6, join_bits n5⟩

theorem good_decodeMultiple {w : Word} {c : Cond} {n6 n5 n4 n3 n2 n1 n0 : BitVec 4} (h6 : n6.extractLsb' 1 3 = 4#3)
    (hw : w = joinNibbles c.bits n6 n5 n4 n3 n2 n1 n0) :
    Good w (decodeMultiple c n6 n5 n4 n3 n2 n1 n0) := by
  subst hw
  have list3 := (extract_join_up (n3 ++ n2 ++ n1) n0 8).trans ((extract_join_up (n3 ++ n2) n1 4).trans
    (extract_join_high n3 n2))
  have list2 {m : Nat} (a : BitVec m) := (extract_join_up (a ++ n2 ++ n1) n0 4).trans
    ((extract_join_up (a ++ n2) n1 0).trans (extract_join_low a n2))
  have list1 {m : Nat} (a : BitVec m) := (extract_join_up (a ++ n2 ++ n1) n0 0).trans (extract_join_low (a ++ n2) n1)
  have list0 {m : Nat} (a : BitVec m) := extract_join_low (a ++ n2 ++ n1) n0
  have list3' : (n3.extractLsb' 0 3 ++ n2 ++ n1 ++ n0).extractLsb' 12 3 = n3.extractLsb' 0 3 := by
    rw [BitVec.append_assoc, BitVec.append_assoc]
    exact BitVec.extractLsb'_append_eq_left
  cases hl : n5.getLsbD 0 <;> cases hs : n5.getLsbD 2
  all_goals
    obtain ⟨hn6, hn5⟩ := multiple_nibbles h6 (congrArg _ hs) (congrArg _ hl)
    simp only [decodeMultiple, hl, hs]
  case true.true =>
    refine Good.cond (fun h => ?_) (fun h => ?_)
    all_goals
      have hn3 := join_low3 n3
      rw [h, ← list3'] at hn3
      exact good_of_nibbles rfl rfl rfl hn6 hn5 rfl hn3 (list2 _) (list1 _) (list0 _)
  all_goals exact good_of_nibbles rfl rfl rfl hn6 hn5 rfl list3 (list2 n3) (list1 n3) (list0 n3)

/-- The nibbles P and U, N, W, L of a coprocessor load or store. -/
theorem coproc_nibbles {n6 n5 : BitVec 4} {a : BitVec 3} {l : BitVec 1} (ha : n6.extractLsb' 1 3 = a)
    (hl : BitVec.ofBool (n5.getLsbD 0) = l) :
    a ++ BitVec.ofBool (n6.getLsbD 0) = n6 ∧ BitVec.ofBool (n5.getLsbD 3) ++ BitVec.ofBool (n5.getLsbD 2)
      ++ BitVec.ofBool (n5.getLsbD 1) ++ l = n5 := by
  rw [← ha, ← hl]
  exact ⟨join_high3 n6, join_bits n5⟩

/-- The words with P, U and W clear, among them the transfers of two registers. -/
theorem coproc_pair_nibbles {n6 n5 : BitVec 4} (ha : n6.extractLsb' 1 3 = 6#3)
    (h : (!n6.getLsbD 0 && !n5.getLsbD 3 && !n5.getLsbD 1) = true) (hn : n5.getLsbD 2 = true) :
    0xC#4 = n6 ∧ 2#3 ++ BitVec.ofBool (n5.getLsbD 0) = n5 := by
  revert n6 n5
  decide

theorem coproc_single_wf {p u w : Bool} (h : (!p && !u && !w) = false) : (p || u || w) = true := by
  cases p <;> cases u <;> simp_all

theorem good_decodeCoprocLoadStore {c : Cond} {n6 n5 n4 n3 n2 n1 n0 : BitVec 4} (h6 : n6.extractLsb' 1 3 = 6#3) :
    Good (joinNibbles c.bits n6 n5 n4 n3 n2 n1 n0)
      (decodeCoprocLoadStore (joinNibbles c.bits n6 n5 n4 n3 n2 n1 n0) c n6 n5 n4 n3 n2 n1 n0) := by
  refine Good.cond (fun hp => ?_) (fun hp => ?_)
  · refine Good.cond (fun hn => ?_) (fun _ => good_undefinedWord _)
    obtain ⟨hn6, hn5⟩ := coproc_pair_nibbles h6 hp hn
    refine Good.cond (fun hl => ?_) (fun hl => ?_)
    all_goals
      rw [hl] at hn5
      exact good_of_nibbles rfl rfl rfl hn6 hn5 rfl rfl rfl rfl rfl
  · refine Good.cond (fun hl => ?_) (fun hl => ?_)
    all_goals
      obtain ⟨hn6, hn5⟩ := coproc_nibbles h6 (congrArg _ hl)
      exact good_of_nibbles (coproc_single_wf hp) rfl rfl hn6 hn5 rfl rfl rfl (extract_join_high n1 n0)
        (extract_join_low n1 n0)

theorem good_decodeCoproc2LoadStore {n6 n5 n4 n3 n2 n1 n0 : BitVec 4} (h6 : n6.extractLsb' 1 3 = 6#3) :
    Good (joinNibbles 0xF#4 n6 n5 n4 n3 n2 n1 n0)
      (decodeCoproc2LoadStore (joinNibbles 0xF#4 n6 n5 n4 n3 n2 n1 n0) n6 n5 n4 n3 n2 n1 n0) := by
  refine Good.cond (fun hp => ?_) (fun hp => ?_)
  · refine Good.cond (fun hn => ?_) (fun _ => good_undefinedWord _)
    obtain ⟨hn6, hn5⟩ := coproc_pair_nibbles h6 hp hn
    refine Good.cond (fun hl => ?_) (fun hl => ?_)
    all_goals
      rw [hl] at hn5
      exact good_of_nibbles rfl rfl rfl hn6 hn5 rfl rfl rfl rfl rfl
  · refine Good.cond (fun hl => ?_) (fun hl => ?_)
    all_goals
      obtain ⟨hn6, hn5⟩ := coproc_nibbles h6 (congrArg _ hl)
      exact good_of_nibbles (coproc_single_wf hp) rfl rfl hn6 hn5 rfl rfl rfl (extract_join_high n1 n0)
        (extract_join_low n1 n0)

/-- A nibble of three bits above one that is known. -/
theorem high3_nibble {n : BitVec 4} {b : BitVec 1} (h : BitVec.ofBool (n.getLsbD 0) = b) : n.extractLsb' 1 3 ++ b = n
    := by
  rw [← h]
  exact join_high3 n

theorem good_decodeCoproc {w : Word} {c : Cond} {n5 n4 n3 n2 n1 n0 : BitVec 4}
    (hw : w = joinNibbles c.bits 0xE#4 n5 n4 n3 n2 n1 n0) : Good w (decodeCoproc c n5 n4 n3 n2 n1 n0) := by
  subst hw
  refine Good.cond (fun h1 => ?_) (fun h1 => ?_)
  all_goals
    have h1 := high3_nibble (congrArg BitVec.ofBool (Bool.not_inj (h1.trans (Bool.not_not _).symm)))
  · exact good_of_nibbles rfl rfl rfl rfl rfl rfl rfl rfl h1 rfl
  · refine Good.cond (fun h5 => ?_) (fun h5 => ?_)
    all_goals
      exact good_of_nibbles rfl rfl rfl rfl (high3_nibble (congrArg _ h5)) rfl rfl rfl h1 rfl

/-- The six nibbles of a 24-bit immediate. -/
theorem good_of_imm24 {i : Instr} {m7 m6 n7 n6 n5 n4 n3 n2 n1 n0 : BitVec 4} (hwf : i.wellFormed = true)
    (henc : encode i = joinNibbles m7 m6 ((n5 ++ n4 ++ n3 ++ n2 ++ n1 ++ n0).extractLsb' 20 4)
      ((n5 ++ n4 ++ n3 ++ n2 ++ n1 ++ n0).extractLsb' 16 4) ((n5 ++ n4 ++ n3 ++ n2 ++ n1 ++ n0).extractLsb' 12 4)
      ((n5 ++ n4 ++ n3 ++ n2 ++ n1 ++ n0).extractLsb' 8 4) ((n5 ++ n4 ++ n3 ++ n2 ++ n1 ++ n0).extractLsb' 4 4)
      ((n5 ++ n4 ++ n3 ++ n2 ++ n1 ++ n0).extractLsb' 0 4))
    (h7 : m7 = n7) (h6 : m6 = n6) : Good (joinNibbles n7 n6 n5 n4 n3 n2 n1 n0) i := by
  refine good_of_nibbles hwf henc h7 h6 ?_ ?_ ?_ ?_ ?_ (extract_join_low _ n0)
  · rw [extract_join_up _ n0 16, extract_join_up _ n1 12, extract_join_up _ n2 8, extract_join_up _ n3 4,
      extract_join_high]
  · rw [extract_join_up _ n0 12, extract_join_up _ n1 8, extract_join_up _ n2 4, extract_join_up _ n3 0,
      extract_join_low]
  · rw [extract_join_up _ n0 8, extract_join_up _ n1 4, extract_join_up _ n2 0, extract_join_low]
  · rw [extract_join_up _ n0 4, extract_join_up _ n1 0, extract_join_low]
  · rw [extract_join_up _ n0 0, extract_join_low]

theorem good_decodeConditional (c : Cond) (n6 n5 n4 n3 n2 n1 n0 : BitVec 4) :
    Good (joinNibbles c.bits n6 n5 n4 n3 n2 n1 n0)
      (decodeConditional (joinNibbles c.bits n6 n5 n4 n3 n2 n1 n0) c n6 n5 n4 n3 n2 n1 n0) := by
  unfold decodeConditional
  split
  case h_16 =>
    obtain rfl : n6 = 0xF#4 := by revert n6; decide
    exact good_of_imm24 rfl rfl rfl rfl
  all_goals
    rename_i h
    obtain rfl := nibble_of_toNat h (by decide)
  case h_1 | h_2 => exact good_decodeGroup0 rfl
  case h_3 | h_4 => exact good_decodeGroup1 rfl
  case h_5 | h_6 => exact good_decodeMode2Imm rfl rfl
  case h_7 | h_8 =>
    exact Good.cond (fun h1 => good_decodeMedia rfl h1) (fun h1 => good_decodeMode2Reg rfl h1 rfl)
  case h_9 | h_10 => exact good_decodeMultiple rfl rfl
  case h_11 | h_12 => exact good_of_imm24 rfl rfl rfl rfl
  case h_13 | h_14 => exact good_decodeCoprocLoadStore rfl
  case h_15 => exact good_decodeCoproc rfl

theorem good_decodeCpsSetend (n6 n5 n4 n3 n2 n1 n0 : BitVec 4) :
    Good (joinNibbles 0xF#4 n6 n5 n4 n3 n2 n1 n0)
      (decodeCpsSetend (joinNibbles 0xF#4 n6 n5 n4 n3 n2 n1 n0) n6 n5 n4 n3 n2 n1 n0) := by
  refine Good.cond (fun h => ?_) (fun _ => good_undefinedWord _)
  obtain ⟨⟨rfl, rfl⟩, h1⟩ : (n6 = 1#4 ∧ n5 = 0#4) ∧ n1.getLsbD 1 = false := by
    simpa only [Bool.and_eq_true, beq_iff_eq, Bool.not_eq_true'] using h
  refine Good.cond (fun h4 => ?_) (fun h4 => ?_)
  · refine Good.row fun ⟨h3, h2⟩ => ?_
    have hn4 : n4.extractLsb' 2 2 ++ BitVec.ofBool (n4.getLsbD 1) ++ 0#1 = n4 := by revert h4; revert n4; decide
    have hn2 : 0#3 ++ BitVec.ofBool (n2.getLsbD 0) = n2 := by rw [← h2]; exact join_high3 n2
    have hn1 : BitVec.ofBool (n1.getLsbD 3) ++ BitVec.ofBool (n1.getLsbD 2) ++ 0#1
        ++ (n1.extractLsb' 0 1 ++ n0).extractLsb' 4 1 = n1 := by
      rw [BitVec.extractLsb'_append_eq_left]
      revert h1; revert n1; decide
    exact good_of_nibbles rfl rfl rfl rfl rfl hn4 h3.symm hn2 hn1 (extract_join_low _ n0)
  · refine Good.cond (fun h => ?_) (fun _ => good_unpredictableWord _)
    obtain ⟨rfl, rfl⟩ : n4 = 1#4 ∧ n1 = 0#4 := by simpa only [Bool.and_eq_true, beq_iff_eq] using h
    refine Good.row fun ⟨h3, h2, h2', h0⟩ => ?_
    have hn2 : 0#2 ++ BitVec.ofBool (n2.getLsbD 1) ++ 0#1 = n2 := by clear * - h2 h2'; revert n2; decide
    exact good_of_nibbles rfl rfl rfl rfl rfl rfl h3.symm hn2 rfl h0.symm

theorem good_decodePld {n6 n5 n4 n3 n2 n1 n0 : BitVec 4} (h6 : n6.getLsbD 3 = false ∧ n6.getLsbD 2 = true) :
    Good (joinNibbles 0xF#4 n6 n5 n4 n3 n2 n1 n0)
      (decodePld (joinNibbles 0xF#4 n6 n5 n4 n3 n2 n1 n0) n6 n5 n4 n3 n2 n1 n0) := by
  refine Good.cond (fun h => ?_) (fun _ => good_undefinedWord _)
  obtain ⟨hp, h5⟩ : n6.getLsbD 0 = true ∧ n5.extractLsb' 0 3 = 5#3 := by
    simpa only [Bool.and_eq_true, beq_iff_eq] using h
  have hn5 := unindexed_nibble h5
  refine Good.cond (fun hi => ?_) (fun hi => ?_)
  · obtain rfl : n6 = 5#4 := by clear * - h6 hp hi; revert n6; decide
    refine Good.cond (fun h3 => ?_) (fun _ => good_unpredictableWord _)
    obtain rfl : n3 = 0xF#4 := eq_of_beq h3
    exact good_of_nibbles rfl rfl rfl rfl hn5 rfl rfl
      (extract_join_up (n2 ++ n1) n0 4 |>.trans (extract_join_high n2 n1))
      (extract_join_up (n2 ++ n1) n0 0 |>.trans (extract_join_low n2 n1)) (extract_join_low (n2 ++ n1) n0)
  · obtain rfl : n6 = 7#4 := by clear * - h6 hp hi; revert n6; decide
    refine Good.cond (fun _ => good_undefinedWord _) (fun h1 => ?_)
    refine Good.cond (fun h3 => ?_) (fun _ => good_unpredictableWord _)
    obtain rfl : n3 = 0xF#4 := eq_of_beq h3
    exact good_of_nibbles rfl rfl rfl rfl hn5 rfl rfl (amount_high n2 n1) (shiftImm_nibble h1) rfl

theorem good_decodeSrsRfe {n6 n5 n4 n3 n2 n1 n0 : BitVec 4} (h6 : n6.extractLsb' 1 3 = 4#3) :
    Good (joinNibbles 0xF#4 n6 n5 n4 n3 n2 n1 n0)
      (decodeSrsRfe (joinNibbles 0xF#4 n6 n5 n4 n3 n2 n1 n0) n6 n5 n4 n3 n2 n1 n0) := by
  refine Good.cond (fun h => ?_) (fun _ => Good.cond (fun h => ?_) (fun _ => good_undefinedWord _))
  · obtain ⟨hs, hl⟩ : n5.getLsbD 2 = true ∧ n5.getLsbD 0 = false := by
      simpa only [Bool.and_eq_true, Bool.not_eq_true'] using h
    obtain ⟨hn6, hn5⟩ := multiple_nibbles h6 (congrArg _ hs) (congrArg _ hl)
    refine Good.cond (fun h => ?_) (fun _ => good_unpredictableWord _)
    obtain ⟨rfl, rfl⟩ : n4 = 0xD#4 ∧ n2 = 5#4 := by simpa only [Bool.and_eq_true, beq_iff_eq] using h
    refine Good.row fun ⟨h3, h1⟩ => ?_
    have hn1 : 0#3 ++ (n1.extractLsb' 0 1 ++ n0).extractLsb' 4 1 = n1 := by
      rw [BitVec.extractLsb'_append_eq_left, ← h1]
      clear * -
      revert n1; decide
    exact good_of_nibbles rfl rfl rfl hn6 hn5 rfl h3.symm rfl hn1 (extract_join_low _ n0)
  · obtain ⟨hs, hl⟩ : n5.getLsbD 2 = false ∧ n5.getLsbD 0 = true := by
      simpa only [Bool.and_eq_true, Bool.not_eq_true'] using h
    obtain ⟨hn6, hn5⟩ := multiple_nibbles h6 (congrArg _ hs) (congrArg _ hl)
    refine Good.cond (fun h => ?_) (fun _ => good_unpredictableWord _)
    obtain rfl : n2 = 0xA#4 := eq_of_beq h
    refine Good.row fun ⟨h3, h1, h0⟩ => ?_
    exact good_of_nibbles rfl rfl rfl hn6 hn5 rfl h3.symm rfl h1.symm h0.symm

theorem good_decodeUnconditional (n6 n5 n4 n3 n2 n1 n0 : BitVec 4) :
    Good (joinNibbles 0xF#4 n6 n5 n4 n3 n2 n1 n0)
      (decodeUnconditional (joinNibbles 0xF#4 n6 n5 n4 n3 n2 n1 n0) n6 n5 n4 n3 n2 n1 n0) := by
  unfold decodeUnconditional
  split
  case h_16 => exact good_undefinedWord _
  case h_1 | h_2 | h_3 | h_4 => exact good_decodeCpsSetend n6 n5 n4 n3 n2 n1 n0
  all_goals
    rename_i h
    obtain rfl := nibble_of_toNat h (by decide)
  case h_5 | h_6 | h_7 | h_8 => exact good_decodePld ⟨rfl, rfl⟩
  case h_9 | h_10 => exact good_decodeSrsRfe rfl
  case h_11 | h_12 => exact good_of_imm24 rfl rfl rfl rfl
  case h_13 | h_14 => exact good_decodeCoproc2LoadStore rfl
  case h_15 =>
    refine Good.cond (fun h1 => ?_) (fun h1 => ?_)
    all_goals
      have h1 := high3_nibble (congrArg BitVec.ofBool (Bool.not_inj (h1.trans (Bool.not_not _).symm)))
    · exact good_of_nibbles rfl rfl rfl rfl rfl rfl rfl rfl h1 rfl
    · refine Good.cond (fun h5 => ?_) (fun h5 => ?_)
      all_goals
        exact good_of_nibbles rfl rfl rfl rfl (high3_nibble (congrArg _ h5)) rfl rfl rfl h1 rfl

theorem good_decode (n7 n6 n5 n4 n3 n2 n1 n0 : BitVec 4) :
    Good (joinNibbles n7 n6 n5 n4 n3 n2 n1 n0) (decodeNibbles (joinNibbles n7 n6 n5 n4 n3 n2 n1 n0) n7 n6 n5 n4 n3 n2
        n1 n0) := by
  unfold decodeNibbles
  split
  case h_1 h =>
    obtain rfl : n7 = 0xF#4 := by clear * - h; revert n7; decide
    exact good_decodeUnconditional n6 n5 n4 n3 n2 n1 n0
  case h_2 c h =>
    obtain rfl := Cond.bits_of_ofBits h
    exact good_decodeConditional c n6 n5 n4 n3 n2 n1 n0

/-- Settles O2: a word is the join of its nibbles, and each row of the decoder names an instruction that encodes to
these nibbles. -/
theorem encodeDecode : Obligations.EncodeDecode := by
  intro w
  have h := good_decode (nibble w 7) (nibble w 6) (nibble w 5) (nibble w 4) (nibble w 3) (nibble w 2) (nibble w 1)
    (nibble w 0)
  rw [joinNibbles_nibble] at h
  exact h

end Sys2Proof

/-!
The bounds of `State.Bounded` along the accesses of an instruction: what the replacement mechanism, a walk and the memory
system may do to a TLB and to the pending aborts.
-/

namespace Sys2Proof.Machine

open Sys2Proof

/-! ### TLBs in bounds -/

/-- An entry that gives a physical address of the implementation (R80). -/
def TlbEntry.InRange (e : TlbEntry) (c : Params) : Prop := e.pa.toNat < 2 ^ (32 + c.paExtraBits)

theorem lockWidth_bound (n : Nat) : n ≤ 2 ^ lockWidth n := by
  unfold lockWidth
  split
  · omega
  · have := Nat.lt_log2_self (n := n - 1)
    omega

theorem nextVictim_bound {base victim entries m : Nat} (choice : Option Nat) (hb : base < m) (he : entries ≤ m)
    : nextVictim base victim entries choice < m := by
  unfold nextVictim
  have hturn : (if entries ≤ victim + 1 then base else victim + 1) < m := by split <;> omega
  cases choice with
  | none => exact hturn
  | some v =>
    show (if base ≤ victim && base ≤ v && v < entries then v else _) < m
    split
    · rename_i h
      simp only [Bool.and_eq_true, decide_eq_true_eq] at h
      omega
    · exact hturn

theorem Tlb.mem_entries {t : Tlb} {e : TlbEntry} :
    e ∈ t.entries ↔ some e ∈ t.slots ∨ some e ∈ t.lockSlots := by
  simp [Tlb.entries]

/-- A change of the slots that adds at most one entry keeps the bounds. -/
theorem Tlb.Bounded.of_slots {t u : Tlb} {c : Params} {n : Nat} (h : t.Bounded c n)
    (hs : u.slots.length = t.slots.length) (hl : u.lockSlots.length = t.lockSlots.length) (hb : u.base = t.base)
    (hp : u.p = t.p) (hv : u.victim < 2 ^ lockWidth c.tlbEntries)
    (he : ∀ e ∈ u.entries, e ∈ t.entries ∨ TlbEntry.InRange e c) : u.Bounded c n := by
  obtain ⟨h1, h2, h3, h4, h5, h6, h7⟩ := h
  exact ⟨hs.trans h1, hl.trans h2, hb ▸ h3, hv, hb ▸ hp ▸ h5, hb ▸ h6, fun e k => (he e k).elim (h7 e) id⟩

theorem Tlb.Bounded.forget {t : Tlb} {c : Params} {n : Nat} (h : t.Bounded c n) (base : Nat) (drop : List Nat) :
    (t.forget base drop).Bounded c n := by
  refine h.of_slots List.length_mapIdx rfl rfl rfl h.2.2.2.1 fun e he => .inl ?_
  rw [Tlb.mem_entries] at he ⊢
  refine he.imp_left fun hs => ?_
  obtain ⟨i, hi, hx⟩ := List.mem_mapIdx.1 hs
  cases hy : t.slots[i] with
  | none => rw [hy] at hx; cases hx
  | some y =>
    rw [hy] at hx
    dsimp only at hx
    split at hx
    · cases hx
    · rw [← hx, ← hy]; exact List.getElem_mem hi

theorem Tlb.Bounded.filter {t : Tlb} {c : Params} {n : Nat} (h : t.Bounded c n) (keep : TlbEntry → Bool) :
    (t.filter keep).Bounded c n := by
  refine h.of_slots (List.length_map _) (List.length_map _) rfl rfl h.2.2.2.1 fun e he => .inl ?_
  rw [Tlb.mem_entries] at he ⊢
  have aux {l : List (Option TlbEntry)} (hs : some e ∈ l.map fun x => x.filter keep) : some e ∈ l := by
    obtain ⟨x, hx, hxe⟩ := List.mem_map.1 hs
    obtain ⟨rfl, -⟩ := Option.filter_eq_some_iff.1 hxe
    exact hx
  exact he.imp aux aux

theorem Tlb.lockBase_bound {t : Tlb} {c : Params} {n : Nat} (h : t.Bounded c n) (side : Bool) :
    t.lockBase c side < c.tlbEntries := by
  have hb := h.2.2.1
  unfold Tlb.lockBase
  split <;> omega

theorem Tlb.Bounded.insert {t : Tlb} {c : Params} {n : Nat} (h : t.Bounded c n) (side : Bool) {e : TlbEntry}
    (he : TlbEntry.InRange e c) (choice : Option Nat) : (t.insert c side e choice).Bounded c n := by
  have hpos : c.tlbEntries ≤ 2 ^ lockWidth c.tlbEntries := lockWidth_bound _
  have hmem {l : List (Option TlbEntry)} {x : TlbEntry} {k : Nat} {p : Bool}
      (hx : some x ∈ l.set k (some { e with locked := p })) : some x ∈ l ∨ TlbEntry.InRange x c := by
    obtain hx | hx := List.mem_or_eq_of_mem_set hx
    · exact .inl hx
    · cases hx; exact .inr he
  unfold Tlb.insert
  dsimp only
  split
  · refine h.of_slots rfl List.length_set rfl rfl
      (nextVictim_bound choice (Nat.two_pow_pos _) (Nat.min_le_right _ _)) fun x hx => ?_
    rw [Tlb.mem_entries] at hx ⊢
    exact hx.elim (fun k => .inl (.inl k)) fun k => (hmem k).imp_left .inr
  · refine h.of_slots List.length_set rfl rfl rfl
      (nextVictim_bound choice ((Tlb.lockBase_bound h side).trans_le hpos) hpos) fun x hx => ?_
    rw [Tlb.mem_entries] at hx ⊢
    exact hx.elim (fun k => (hmem k).imp_left .inl) fun k => .inl (.inr k)

/-! ### States in bounds -/

/-- The bounds speak of the parameters, the TLBs, the pending aborts and the record of TTBR0 writes alone. -/
theorem State.Bounded.of_same {s t : State} (h : s.Bounded) (hc : t.cfg = s.cfg) (hd : t.tlbD = s.tlbD)
    (hi : t.tlbI = s.tlbI) (hp : t.pendingImprecise = s.pendingImprecise) (hq : t.pendingParity = s.pendingParity)
    (h0 : t.ttbr0 = s.ttbr0) (hw : t.ttbr0Writes = s.ttbr0Writes) : t.Bounded := by
  obtain ⟨b1, b2, b3, b4, b5, b6, b7⟩ := h
  unfold State.Bounded
  rw [hc, hd, hi, hp, hq]
  exact ⟨b1, b2, b3, b4, b5, b6, b7.of_same h0 hw⟩

theorem State.Bounded.tlb {s : State} (h : s.Bounded) (side : Bool) :
    (s.tlb side).Bounded s.cfg (lockable s.cfg side) := by
  obtain ⟨-, hd, hi, -⟩ := h
  cases side
  · exact hd
  · exact hi

theorem State.Bounded.setTlb {s : State} (h : s.Bounded) {side : Bool} {t : Tlb}
    (ht : t.Bounded s.cfg (lockable s.cfg side)) : (s.setTlb side t).Bounded := by
  obtain ⟨b1, b2, b3, b4⟩ := h
  cases side
  · exact ⟨b1, ht, b3, b4⟩
  · exact ⟨b1, b2, ht, b4⟩

/-- One more abort becomes pending where the implementation provides imprecise aborts. -/
theorem State.Bounded.pend {s : State} (h : s.Bounded) (hi : impreciseAborts s.cfg = true) (parity : Bool) :
    (s.pend parity).Bounded := by
  obtain ⟨b1, b2, b3, b4, b5, -, b7⟩ := h
  refine ⟨b1, b2, b3, ?_, ?_, fun h => absurd (hi.symm.trans h) (by decide), b7.of_same rfl rfl⟩
  · exact Nat.min_le_right _ _
  · show (if parity && s.pendingImprecise < s.cfg.imprecisePendMax then s.pendingParity + 1 else s.pendingParity)
      ≤ min (s.pendingImprecise + 1) s.cfg.imprecisePendMax
    split
    · rename_i h
      simp only [Bool.and_eq_true, decide_eq_true_eq] at h
      omega
    · omega

theorem State.Bounded.closeWindows {s : State} (h : s.Bounded) : s.closeWindows.Bounded := by
  obtain ⟨b1, b2, b3, b4, b5, b6, b7⟩ := h
  exact ⟨b1, b2, b3, b4, b5, b6, b7.closeWindows⟩

/-! ### The entry a walk gives -/

/-- The value of an operation that completes has a property. -/
def Res.Gives {α : Type} (x : Res α) (P : α → Prop) : Prop := ∀ a t, x = .ok a t → P a

theorem Res.Gives.ok {α : Type} {a : α} {t : State} {P : α → Prop} (h : P a) : (Res.ok a t).Gives P := by
  rintro b u ⟨⟩; exact h

theorem Res.Gives.abort {α : Type} {i : AbortInfo} {t : State} {P : α → Prop} : (Res.abort i t).Gives P := by
  rintro b u ⟨⟩

theorem Res.Gives.refused {α : Type} {r : Refusal} {P : α → Prop} : (Res.refused r).Gives P := by
  rintro b u ⟨⟩

theorem Res.Gives.bind {α β : Type} {x : Res α} {f : α → State → Res β} {P : β → Prop}
    (h : ∀ a t, x = .ok a t → (f a t).Gives P) : (x.bind f).Gives P := by
  intro b u hb
  obtain ⟨a, t, hx, hf⟩ := Res.bind_ok hb
  exact h a t hx b u hf

theorem inRange_of_word {e : TlbEntry} {w : Word} (h : e.pa = w.setWidth 40) (c : Params) : TlbEntry.InRange e c := by
  have hw : w.toNat < 2 ^ 32 := w.isLt
  have hle : 2 ^ 32 ≤ 2 ^ (32 + c.paExtraBits) := Nat.pow_le_pow_right (by decide) (by omega)
  unfold TlbEntry.InRange
  rw [h, BitVec.toNat_setWidth]
  exact (Nat.mod_le _ _).trans_lt (hw.trans_le hle)

theorem walkSecond_gives (s : State) (c : Params) (ctl contextId d1 mva : Word) (k : AccessKind) :
    (walkSecond s ctl contextId d1 mva k).Gives (TlbEntry.InRange · c) := by
  unfold walkSecond
  refine .bind fun d2 t _ => ?_
  split
  · exact .ok (inRange_of_word rfl c)
  split
  · split
    · exact .refused
    · exact .ok (inRange_of_word rfl c)
  · exact .abort

/-- The physical address of a supersection has eight bits more than a word's, and as many as the descriptor's two fields
give it. -/
theorem supersection_inRange {c : Params} {base : TlbEntry} {d mva : Word}
    (h : (d.extractLsb' 5 4 ++ d.extractLsb' 20 4).toNat < 2 ^ c.paExtraBits) :
    TlbEntry.InRange (supersectionEntry base d mva) c := by
  show (d.extractLsb' 5 4 ++ d.extractLsb' 20 4 ++ d.extractLsb' 24 8 ++ 0#24 : BitVec 40).toNat < _
  have hlow := (d.extractLsb' 24 8 ++ 0#24).isLt
  rw [BitVec.append_assoc, BitVec.toNat_cast, BitVec.toNat_append, ← Nat.shiftLeft_add_eq_or_of_lt hlow,
    Nat.shiftLeft_eq, Nat.pow_add 2 32]
  generalize 2 ^ c.paExtraBits = bound at h ⊢
  omega

theorem walkFirst_gives (s : State) (ctl contextId d mva : Word) (k : AccessKind) :
    (walkFirst s ctl contextId d mva k).Gives (TlbEntry.InRange · s.cfg) := by
  unfold walkFirst
  split
  · split
    · exact .refused
    split
    · exact .ok (inRange_of_word rfl _)
    split
    · exact .refused
    split
    · exact .ok (supersection_inRange ‹_›)
    · exact .refused
  · split
    · exact .refused
    · exact walkSecond_gives _ _ _ _ _ _ _
  · exact .abort

/-- The part of a walk after the choice of the table base register. -/
theorem walkFrom_gives (s : State) (ctl ttbr : Word) (bad cut : Bool) (x : Nat) (mva : Word) (k : AccessKind) :
    (if bad then .refused .tableBaseReserved
      else if cut then .refused .tableBaseInsignificant
      else
        (walkRead s (firstLevelAddress ttbr x mva).toNat (ctlEE ctl) (walkAbort 0b01100#5 none mva k)).bind
          fun d s => walkFirst (s.useSynced s.contextId).2 ctl (s.useSynced s.contextId).1 d mva k :
      Res TlbEntry).Gives (TlbEntry.InRange · s.cfg) := by
  split
  · exact .refused
  split
  · exact .refused
  · refine .bind fun d t hd => ?_
    have hcfg : (t.useSynced t.contextId).2.cfg = s.cfg :=
      (useSynced_same ..).cfg.trans ((walkRead_keeps ..).ok hd).cfg
    rw [← hcfg]
    exact walkFirst_gives _ _ _ _ _ _

/-- What a walk gives is an entry of the implementation (R80). -/
theorem walk_gives (s : State) (mva : Word) (k : AccessKind) : (walk s mva k).Gives (TlbEntry.InRange · s.cfg) := by
  have h1 := (useSynced_same s s.sctlr).cfg
  have h2 := (useSynced_same _ (s.useSynced s.sctlr).2.ttbcr).cfg.trans h1
  have h3 := fun r => (useSynced_same _ r).cfg.trans h2
  rw [← h3]
  exact walkFrom_gives _ _ _ _ _ _ _ _

end Sys2Proof.Machine

/-!
What one instruction may do to the machine short of an exception and of the privileged writes: `State.Quiet`. It is a
preorder, and every access and every register or flag write is a step of it.
-/

namespace Sys2Proof.Machine

open Sys2Proof

/-- A status register differs in condition flags, GE and E alone, with Q not cleared: what an instruction that does not
load the CPSR may do to it (R51, R52). -/
structure FlagsOnly (p r : Psr) : Prop where
  m : r.m = p.m
  t : r.t = p.t
  j : r.j = p.j
  a : r.a = p.a
  i : r.i = p.i
  f : r.f = p.f
  q : p.q = true → r.q = true

theorem FlagsOnly.refl (p : Psr) : FlagsOnly p p := ⟨rfl, rfl, rfl, rfl, rfl, rfl, id⟩

theorem FlagsOnly.trans {p r u : Psr} (h : FlagsOnly p r) (k : FlagsOnly r u) : FlagsOnly p u :=
  ⟨k.m.trans h.m, k.t.trans h.t, k.j.trans h.j, k.a.trans h.a, k.i.trans h.i, k.f.trans h.f, fun x => k.q (h.q x)⟩

theorem flagsOnly_setNZCV (p : Psr) (r : AluResult) : FlagsOnly p (p.setNZCV r) := ⟨rfl, rfl, rfl, rfl, rfl, rfl, id⟩

theorem flagsOnly_setNZ (p : Psr) (n z : Bool) : FlagsOnly p (p.setNZ n z) := ⟨rfl, rfl, rfl, rfl, rfl, rfl, id⟩

theorem flagsOnly_setGE (p : Psr) (ge : BitVec 4) : FlagsOnly p (p.setGE ge) := ⟨rfl, rfl, rfl, rfl, rfl, rfl, id⟩

theorem flagsOnly_orQ (p : Psr) (sat : Bool) : FlagsOnly p (p.orQ sat) :=
  ⟨rfl, rfl, rfl, rfl, rfl, rfl, fun h => by simp [Psr.orQ, h]⟩

theorem flagsOnly_setTransferred (p : Psr) (v : Word) : FlagsOnly p (p.setTransferred v) :=
  ⟨rfl, rfl, rfl, rfl, rfl, rfl, id⟩

theorem flagsOnly_nz32 (p : Psr) (sf : Bool) (v : Word) : FlagsOnly p (nz32 p sf v) := by
  cases sf
  · exact .refl p
  · exact flagsOnly_setNZ ..

theorem flagsOnly_nz64 (p : Psr) (sf : Bool) (v : BitVec 64) : FlagsOnly p (nz64 p sf v) := by
  cases sf
  · exact .refl p
  · exact flagsOnly_setNZ ..

/-- What an instruction may do that enters no exception, loads no CPSR and writes no privileged register: the general
registers of the mode it runs in, the flags, a word-aligned pc, the monitor, memory in its canonical form, and what an
access does to the TLBs and to the pending aborts within their bounds. -/
structure State.Quiet (s t : State) : Prop where
  rest : t = { s with
    regs := t.regs, cpsr := t.cpsr, pc := t.pc, excl := t.excl, mem := t.mem, tlbD := t.tlbD, tlbI := t.tlbI,
    responses := t.responses, replacements := t.replacements, picks := t.picks, draws := t.draws,
    pendingImprecise := t.pendingImprecise, pendingParity := t.pendingParity }
  flags : FlagsOnly s.cpsr t.cpsr
  aligned : s.pc.extractLsb' 0 2 = 0#2 → t.pc.extractLsb' 0 2 = 0#2
  banks : s.mode = .usr → ∀ p, (∀ n, bankedReg .usr n ≠ p) → t.regs.get p = s.regs.get p
  memory : s.mem.wf = true → t.mem.wf = true
  lockD : t.tlbD.base = s.tlbD.base ∧ t.tlbD.p = s.tlbD.p
  lockI : t.tlbI.base = s.tlbI.base ∧ t.tlbI.p = s.tlbI.p
  bounded : s.Bounded → t.Bounded

theorem FlagsOnly.mode {s t : State} (h : FlagsOnly s.cpsr t.cpsr) : t.mode = s.mode := by
  unfold State.mode; rw [h.m]

theorem State.Quiet.mode {s t : State} (h : s.Quiet t) : t.mode = s.mode := h.flags.mode

theorem State.Quiet.cfg {s t : State} (h : s.Quiet t) : t.cfg = s.cfg := by rw [h.rest]

theorem State.Quiet.refl (s : State) : s.Quiet s :=
  ⟨rfl, .refl _, id, fun _ _ _ => rfl, id, ⟨rfl, rfl⟩, ⟨rfl, rfl⟩, id⟩

theorem State.Quiet.trans {s t u : State} (h : s.Quiet t) (k : t.Quiet u) : s.Quiet u where
  rest := by
    have e := k.rest
    rw [h.rest] at e
    exact e
  flags := h.flags.trans k.flags
  aligned x := k.aligned (h.aligned x)
  banks hm p hp := (k.banks (h.mode.trans hm) p hp).trans (h.banks hm p hp)
  memory x := k.memory (h.memory x)
  lockD := ⟨k.lockD.1.trans h.lockD.1, k.lockD.2.trans h.lockD.2⟩
  lockI := ⟨k.lockI.1.trans h.lockI.1, k.lockI.2.trans h.lockI.2⟩
  bounded x := k.bounded (h.bounded x)

/-! ### Registers, flags and the pc -/

/-- Changes of the registers of the mode's own bank, of flags, of the pc and of the monitor. -/
theorem State.Quiet.of_core (s : State) {r : Regs} {p : Psr} {pc : Word} (excl : Option Nat) (hp : FlagsOnly s.cpsr p)
    (hr : s.mode = .usr → ∀ x, (∀ n, bankedReg .usr n ≠ x) → r.get x = s.regs.get x)
    (hpc : s.pc.extractLsb' 0 2 = 0#2 → pc.extractLsb' 0 2 = 0#2) :
    s.Quiet { s with regs := r, cpsr := p, pc := pc, excl := excl } :=
  ⟨rfl, hp, hpc, hr, id, ⟨rfl, rfl⟩, ⟨rfl, rfl⟩, fun h => h.of_same rfl rfl rfl rfl rfl rfl rfl⟩

theorem State.quiet_cpsr (s : State) {p : Psr} (hp : FlagsOnly s.cpsr p) : s.Quiet { s with cpsr := p } :=
  .of_core s s.excl hp (fun _ _ _ => rfl) id

theorem State.quiet_pc (s : State) {pc : Word} (h : s.pc.extractLsb' 0 2 = 0#2 → pc.extractLsb' 0 2 = 0#2) :
    s.Quiet { s with pc := pc } := .of_core s s.excl (.refl _) (fun _ _ _ => rfl) h

theorem State.quiet_excl (s : State) (x : Option Nat) : s.Quiet { s with excl := x } :=
  .of_core s x (.refl _) (fun _ _ _ => rfl) id

/-- A write to a bank that a User mode instruction only makes to its own. -/
theorem State.quiet_writeBank (s : State) {m : Mode} (n : Reg) (v : Word) (h : s.mode = .usr → m = .usr) :
    s.Quiet (s.writeBank m n v) :=
  .of_core s s.excl (.refl _) (fun hs _ hp => Regs.get_set_ne _ _ (h hs ▸ hp n).symm) id

theorem State.quiet_writeReg (s : State) (n : Reg) (v : Word) : s.Quiet (s.writeReg n v) :=
  s.quiet_writeBank n v id

theorem aligned_add_four {pc : Word} (h : pc.extractLsb' 0 2 = 0#2) : (pc + 4).extractLsb' 0 2 = 0#2 := by
  have four : (4 : Word).toNat = 4 := rfl
  rw [BitVec.toNat_eq] at h ⊢
  simp only [BitVec.extractLsb'_toNat, BitVec.toNat_add, Nat.shiftRight_zero, BitVec.toNat_ofNat, four] at h ⊢
  omega

theorem State.quiet_pc_add_four (s : State) : s.Quiet { s with pc := s.pc + 4 } := s.quiet_pc aligned_add_four

theorem aligned_mask (v : Word) : (v &&& 0xFFFFFFFC#32).extractLsb' 0 2 = 0#2 := by
  rw [BitVec.extractLsb'_and]
  exact BitVec.and_zero

theorem aligned_of_bits {v : Word} (h0 : v.getLsbD 0 = false) (h1 : v.getLsbD 1 = false) :
    v.extractLsb' 0 2 = 0#2 := by
  ext i hi
  obtain rfl | rfl : i = 0 ∨ i = 1 := by omega
  · simpa using h0
  · simpa using h1

/-! ### Accesses -/

/-- What an access does, whether it completes or aborts: it is quiet and leaves the CPSR. -/
def State.Accessed (s t : State) : Prop := s.Quiet t ∧ t.cpsr = s.cpsr

theorem State.Accessed.refl (s : State) : s.Accessed s := ⟨.refl s, rfl⟩

theorem State.Accessed.trans {s t u : State} (h : s.Accessed t) (k : t.Accessed u) : s.Accessed u :=
  ⟨h.1.trans k.1, k.2.trans h.2⟩

/-- A step that takes a choice from one of the lists of the run, or a free value. -/
theorem State.accessed_lists (s : State) (rs : List MemoryResponse) (rep : List Replacement) (ps : List Nat) (n : Nat) :
    s.Accessed { s with responses := rs, replacements := rep, picks := ps, draws := n } :=
  ⟨⟨rfl, .refl _, id, fun _ _ _ => rfl, id, ⟨rfl, rfl⟩, ⟨rfl, rfl⟩, fun h => h.of_same rfl rfl rfl rfl rfl rfl rfl⟩,
    rfl⟩

theorem useSynced_accessed (s : State) (r : Synced) : s.Accessed (s.useSynced r).2 := by
  unfold State.useSynced
  split
  · exact .refl s
  split
  · exact .refl s
  · exact s.accessed_lists _ _ _ _

theorem popReplacement_accessed (s : State) : s.Accessed s.popReplacement.2 := by
  unfold State.popReplacement
  split
  · exact .refl s
  · exact s.accessed_lists _ _ _ _

theorem popResponse_accessed (s : State) : s.Accessed s.popResponse.2 := by
  unfold State.popResponse
  split
  · exact .refl s
  · exact s.accessed_lists _ _ _ _

theorem draw_accessed (s : State) : s.Accessed s.draw.2 := s.accessed_lists _ _ _ _

/-- A TLB is replaced by one with the same lockdown base and P that is in bounds if the old one is. -/
theorem setTlb_accessed (s : State) {side : Bool} {t : Tlb} (hb : t.base = (s.tlb side).base)
    (hp : t.p = (s.tlb side).p)
    (ht : (s.tlb side).Bounded s.cfg (lockable s.cfg side) → t.Bounded s.cfg (lockable s.cfg side)) :
    s.Accessed (s.setTlb side t) := by
  have hbd : s.Bounded → (s.setTlb side t).Bounded := fun h => h.setTlb (ht (h.tlb side))
  cases side
  · exact ⟨⟨rfl, .refl _, id, fun _ _ _ => rfl, id, ⟨hb, hp⟩, ⟨rfl, rfl⟩, hbd⟩, rfl⟩
  · exact ⟨⟨rfl, .refl _, id, fun _ _ _ => rfl, id, ⟨rfl, rfl⟩, ⟨hb, hp⟩, hbd⟩, rfl⟩

theorem pend_accessed (s : State) (h : impreciseAborts s.cfg = true) (parity : Bool) : s.Accessed (s.pend parity) :=
  ⟨⟨rfl, .refl _, id, fun _ _ _ => rfl, id, ⟨rfl, rfl⟩, ⟨rfl, rfl⟩, fun b => b.pend h parity⟩, rfl⟩

theorem store_accessed (s : State) (pa : Nat) (size : AccessSize) (v : Word) : s.Accessed (s.store pa size v) :=
  ⟨⟨rfl, .refl _, id, fun _ _ _ => rfl, fun h => Memory.writeBytes_wf _ _ _ h, ⟨rfl, rfl⟩, ⟨rfl, rfl⟩,
    fun h => h.of_same rfl rfl rfl rfl rfl rfl rfl⟩, rfl⟩

theorem forgetAt_accessed (s : State) (pa : Nat) (size : AccessSize) : s.Accessed (s.forgetAt pa size) :=
  (draw_accessed s).trans (store_accessed ..)

theorem insert_base (t : Tlb) (c : Params) (side : Bool) (e : TlbEntry) (choice : Option Nat) :
    (t.insert c side e choice).base = t.base ∧ (t.insert c side e choice).p = t.p := by
  unfold Tlb.insert
  dsimp only
  split <;> exact ⟨rfl, rfl⟩

theorem externalError_accessed {α : Type} {s : State} {va : Word} {write : Bool} {goOn : State → Res α}
    {unsupported : Res α} {u : State} (h : u.Accessed s)
    (hg : ∀ t, u.Accessed t → (goOn t).Keeps u.Accessed) (hu : unsupported.Keeps u.Accessed) :
    (externalError s va write goOn unsupported).Keeps u.Accessed := by
  unfold externalError
  split
  · exact hu
  · exact h
  · rename_i he
    exact hg _ (h.trans (pend_accessed s (by simp [impreciseAborts, he]) false))

theorem walkRead_accessed (s : State) (pa : Nat) (big : Bool) (i : AbortInfo) :
    (walkRead s pa big i).Keeps s.Accessed := by
  have h := popResponse_accessed s
  unfold walkRead
  dsimp only
  split
  · split <;> exact h
  · split
    · exact .refl s
    · trivial

theorem walkSecond_accessed (s : State) (ctl contextId d1 mva : Word) (k : AccessKind) :
    (walkSecond s ctl contextId d1 mva k).Keeps s.Accessed := by
  refine (walkRead_accessed ..).bind fun d t h => ?_
  split
  · exact h
  split
  · split
    · trivial
    · exact h
  · exact h

theorem walkFirst_accessed (s : State) (ctl contextId d mva : Word) (k : AccessKind) :
    (walkFirst s ctl contextId d mva k).Keeps s.Accessed := by
  unfold walkFirst
  split
  · repeat' split
    all_goals first | exact .refl s | trivial
  · split
    · trivial
    · exact walkSecond_accessed ..
  · exact .refl s

theorem walkFrom_accessed (s : State) (ctl ttbr : Word) (bad cut : Bool) (x : Nat) (mva : Word) (k : AccessKind) :
    (if bad then .refused .tableBaseReserved
      else if cut then .refused .tableBaseInsignificant
      else
        (walkRead s (firstLevelAddress ttbr x mva).toNat (ctlEE ctl) (walkAbort 0b01100#5 none mva k)).bind
          fun d s => walkFirst (s.useSynced s.contextId).2 ctl (s.useSynced s.contextId).1 d mva k :
      Res TlbEntry).Keeps s.Accessed := by
  split
  · trivial
  split
  · trivial
  · refine (walkRead_accessed ..).bind fun d t ht => ?_
    exact (walkFirst_accessed ..).mono fun u h => ht.trans ((useSynced_accessed ..).trans h)

theorem walk_accessed (s : State) (mva : Word) (k : AccessKind) : (walk s mva k).Keeps s.Accessed := by
  have h1 := useSynced_accessed s s.sctlr
  have h2 := h1.trans (useSynced_accessed _ (s.useSynced s.sctlr).2.ttbcr)
  exact (walkFrom_accessed ..).mono fun u h => (h2.trans (useSynced_accessed ..)).trans h

/-- The miss of a lookup: the walk, and its result in the TLB. -/
theorem walkInsert_accessed (s : State) (mva : Word) (k : AccessKind) (side : Bool) (choice : Option Nat) :
    ((walk s mva k).bind fun e t => .ok e (t.setTlb side ((t.tlb side).insert t.cfg side e choice))).Keeps
      s.Accessed := by
  have hw := walk_accessed s mva k
  have hg := walk_gives s mva k
  cases h : walk s mva k with
  | ok e t =>
    have ht : s.Accessed t := hw.ok h
    have he : TlbEntry.InRange e t.cfg := ht.1.cfg ▸ hg e t h
    exact ht.trans (setTlb_accessed t (insert_base ..).1 (insert_base ..).2 fun b => b.insert side he choice)
  | abort i t => exact hw.abort h
  | fault _ => trivial
  | refused _ => trivial

theorem lookup_accessed (s : State) (mva : Word) (k : AccessKind) : (lookup s mva k).Keeps s.Accessed := by
  have h1 := useSynced_accessed s s.contextId
  have h2 := h1.trans (popReplacement_accessed (s.useSynced s.contextId).2)
  unfold lookup
  dsimp only
  generalize (s.useSynced s.contextId).2.popReplacement = x at h2 ⊢
  obtain ⟨rep, s2⟩ := x
  have h3 (side : Bool) (base : Nat) : s.Accessed (s2.setTlb side ((s2.tlb side).forget base rep.forget)) :=
    h2.trans (setTlb_accessed s2 rfl rfl fun b => b.forget ..)
  dsimp only
  split
  · exact h3 _ _
  · exact (walkInsert_accessed ..).mono fun t h => (h3 _ _).trans h
  · trivial

theorem checkAccess_accessed (s : State) (e : TlbEntry) (k : AccessKind) (user : Bool) (mva : Word) :
    (checkAccess s e k user mva).Keeps s.Accessed := by
  have h := useSynced_accessed s s.dacr
  unfold checkAccess
  dsimp only
  split
  · exact h
  · trivial
  · exact h
  · split
    · trivial
    · split <;> exact h

theorem translate_accessed (s : State) (ctl mva : Word) (k : AccessKind) (user : Bool) :
    (translate s ctl mva k user).Keeps s.Accessed := by
  unfold translate
  split
  · trivial
  · refine (lookup_accessed ..).bind fun e t h => ?_
    refine ((checkAccess_accessed ..).mono fun u k => h.trans k).bind fun _ u h => ?_
    split
    · trivial
    · exact h

theorem dataAddress_accessed (s : State) (va : Word) (size : AccessSize) (k : AccessKind) (user : Bool) :
    (dataAddress s va size k user).Keeps s.Accessed := by
  have h := useSynced_accessed s s.sctlr
  unfold dataAddress
  dsimp only
  split
  · trivial
  split
  · split
    · exact h
    · trivial
  split
  · exact (translate_accessed ..).mono fun t k => h.trans k
  · exact h

theorem checkPair_accessed (s : State) (va : Word) (k : AccessKind) : (checkPair s va k).Keeps s.Accessed := by
  have h := useSynced_accessed s s.sctlr
  unfold checkPair
  dsimp only
  split
  · trivial
  split
  · exact .refl s
  split
  · exact h
  · trivial

theorem readAt_accessed (s : State) (pa : Nat) (va : Word) (size : AccessSize) :
    (readAt s pa va size).Keeps s.Accessed := by
  have h := popResponse_accessed s
  have hfree : ∀ t, s.Accessed t → (Res.ok t.draw.1 t.draw.2 : Res Word).Keeps s.Accessed :=
    fun t ht => ht.trans (draw_accessed t)
  unfold readAt
  dsimp only
  split
  · exact externalError_accessed (.refl s) hfree trivial
  split
  · exact externalError_accessed h hfree h
  split
  · rename_i hp
    simp only [Bool.and_eq_true] at hp
    exact hfree _ (h.trans (pend_accessed _ hp.2 true))
  split <;> exact h

theorem writeAt_accessed (s : State) (pa : Nat) (va : Word) (size : AccessSize) (v : Word) :
    (writeAt s pa va size v).Keeps s.Accessed := by
  have h := popResponse_accessed s
  unfold writeAt
  dsimp only
  split
  · exact externalError_accessed (.refl s) (fun t ht => ht) trivial
  split
  · exact externalError_accessed h (fun t ht => ht.trans (forgetAt_accessed ..)) (h.trans (store_accessed ..))
  · exact h.trans (store_accessed ..)

theorem memRead_accessed (s : State) (va : Word) (size : AccessSize) (user : Bool) :
    (memRead s va size user).Keeps s.Accessed :=
  (dataAddress_accessed ..).bind fun _ _ h => (readAt_accessed ..).mono fun _ k => h.trans k

theorem memWrite_accessed (s : State) (va : Word) (size : AccessSize) (v : Word) (user : Bool) :
    (memWrite s va size v user).Keeps s.Accessed :=
  (dataAddress_accessed ..).bind fun _ _ h => (writeAt_accessed ..).mono fun _ k => h.trans k

theorem fetch_accessed (s : State) : (fetch s).Keeps s.Accessed := by
  have hctl := useSynced_accessed s s.sctlr
  have haddr : (fetchAddress s).Keeps s.Accessed := by
    unfold fetchAddress
    dsimp only
    split
    · exact (translate_accessed ..).mono fun t k => hctl.trans k
    · exact hctl
  refine haddr.bind fun pa t h => ?_
  have k := h.trans (popResponse_accessed t)
  unfold fetchAt
  dsimp only
  split
  · split
    · exact h
    · trivial
  split
  · exact k
  split <;> exact k

theorem readWords_accessed (n : Nat) (s : State) (va : Word) (user : Bool) :
    (readWords s va user n).Keeps s.Accessed := by
  induction n generalizing s va with
  | zero => exact .refl s
  | succ n ih =>
    refine (memRead_accessed ..).bind fun v t h => ?_
    refine ((ih t (va + 4)).mono fun u k => h.trans k).bind fun vs u h => ?_
    exact h

theorem writeWords_accessed (vs : List Word) (s : State) (va : Word) (user : Bool) :
    (writeWords s va user vs).Keeps s.Accessed := by
  induction vs generalizing s va with
  | nil => exact .refl s
  | cons v vs ih =>
    exact (memWrite_accessed ..).bind fun _ t h => (ih t (va + 4)).mono fun u k => h.trans k

theorem forgetWords_accessed (pas : List Nat) (s : State) : s.Accessed (s.forgetWords pas) := by
  induction pas generalizing s with
  | nil => exact .refl s
  | cons pa pas ih =>
    rw [State.forgetWords, List.foldl_cons]
    split
    · exact (forgetAt_accessed ..).trans (ih _)
    · exact ih _

end Sys2Proof.Machine

/-!
What one instruction may do to the machine: `Effect`. Each end of an instruction has one of its forms, and so has every
instruction; the invariants of a run and the confinement of User mode are read off it.
-/

namespace Sys2Proof.Machine

open Sys2Proof

/-- What an instruction can do: stay within `State.Quiet`; enter an exception after accesses, with registers and fault
registers changed; return from an exception; write the CPSR by MSR or CPS; write an SPSR; write a CP15 register. `loads`
says that it is one of the instructions that load the CPSR. -/
inductive Effect (loads : Bool) (s : State) : State → Prop
  | quiet {t : State} (h : s.Quiet t) : Effect loads s t
  | exception {u : State} (h : s.Accessed u) (k : ExceptionKind) (link : Word) (regs : Regs)
      (dfsr ifsr far ifar : Word) (draws : Nat) :
      Effect loads s (({ u with
        regs := regs, dfsr := dfsr, ifsr := ifsr, far := far, ifar := ifar, draws := draws } : State).takeException
          k link)
  | returns {u : State} {p : Psr} (hl : loads = true) (hs : s.mode ≠ .usr) (h : s.Quiet u) (hp : p.returnable)
      (v : Word) : Effect loads s { u.closeWindows with cpsr := p, pc := v &&& 0xFFFFFFFC#32 }
  | status {p : Psr} (hm : (Mode.ofBits p.m).isSome = true) (ht : p.t = s.cpsr.t) (hj : p.j = s.cpsr.j)
      (hu : s.mode = .usr → p.m = s.cpsr.m ∧ p.a = s.cpsr.a ∧ p.i = s.cpsr.i ∧ p.f = s.cpsr.f)
      (hq : loads = false → p.q = s.cpsr.q) : Effect loads s { s with cpsr := p, pc := s.pc + 4 }
  | savedStatus (hs : s.mode ≠ .usr) (x : Spsrs) : Effect loads s { s with spsr := x, pc := s.pc + 4 }
  | system {u : State} (hs : s.mode ≠ .usr) (hc : u.cfg = s.cfg) (hp : u.cpsr = s.cpsr) (hpc : u.pc = s.pc)
      (hm : u.mem = s.mem) (hb : s.Bounded → u.Bounded) : Effect loads s { u with pc := u.pc + 4 }

/-- Every next state an outcome can be has a property. -/
structure Leads (o : Out) (P : State → Prop) : Prop where
  next : ∀ t, o = .next t → P t

/-! ### Outcomes -/

theorem leads_next {t : State} {P : State → Prop} (h : P t) : Leads (.next t) P := ⟨by rintro u ⟨⟩; exact h⟩

theorem leads_refused (r : Refusal) (P : State → Prop) : Leads (.refused r) P := ⟨by rintro u ⟨⟩⟩

theorem leads_fault (f : Fault) (P : State → Prop) : Leads (.fault f) P := ⟨by rintro u ⟨⟩⟩

theorem leads_withoutPC {regs : List Reg} {body : Out} {P : State → Prop} (h : Leads body P) :
    Leads (withoutPC regs body) P := by
  unfold withoutPC
  split
  · exact leads_refused ..
  · exact h

theorem leads_distinct {hi lo : Reg} {body : Out} {P : State → Prop} (h : Leads body P) :
    Leads (distinct hi lo body) P := by
  unfold distinct
  split
  · exact leads_refused ..
  · exact h

theorem leads_withOffsetReg {idx : IndexMode} {rn rm : Reg} {body : Out} {P : State → Prop} (h : Leads body P) :
    Leads (withOffsetReg idx rn rm body) P := by
  unfold withOffsetReg
  split
  · exact h
  · exact leads_refused ..

theorem leads_inAddressSpace {va : Word} {n : Nat} {body : Out} {P : State → Prop} (h : Leads body P) :
    Leads (inAddressSpace va n body) P := by
  unfold inAddressSpace
  split
  · exact leads_fault ..
  · exact h

theorem leads_unless {b : Bool} {r : Refusal} {body : Out} {P : State → Prop} (h : b = false → Leads body P) :
    Leads (if b then .refused r else body) P := by
  cases b
  · exact h rfl
  · exact leads_refused ..

theorem leads_finish {α : Type} {x : Res α} {done : α → State → Out} {onAbort : AbortInfo → State → Out}
    {P Q : State → Prop} (hx : x.Keeps Q) (hd : ∀ a t, Q t → Leads (done a t) P)
    (ha : ∀ i t, Q t → Leads (onAbort i t) P) : Leads (x.finish done onAbort) P := by
  cases x with
  | ok a t => exact hd a t hx
  | abort i t => exact ha i t hx
  | fault f => exact leads_fault ..
  | refused r => exact leads_refused ..

/-! ### Ends -/

theorem State.Quiet.leads_advance {s t : State} (h : s.Quiet t) (loads : Bool) : Leads t.advance (Effect loads s) := by
  refine ⟨fun u hu => ?_⟩
  obtain ⟨-, rfl⟩ := State.advance_eq_next hu
  exact .quiet (h.trans t.quiet_pc_add_four)

theorem effect_whenCond {c : Cond} {s : State} {body : Out} {loads : Bool} (h : Leads body (Effect loads s)) :
    Leads (whenCond c s body) (Effect loads s) := by
  unfold whenCond
  split
  · exact h
  · exact (State.Quiet.refl s).leads_advance loads

theorem State.Quiet.leads_branchExchange {s t : State} (h : s.Quiet t) (v : Word) (loads : Bool) :
    Leads (t.branchExchange v) (Effect loads s) := by
  unfold State.branchExchange
  split
  · exact leads_refused ..
  split
  · exact leads_refused ..
  · refine leads_next (.quiet (h.trans (t.quiet_pc fun _ => aligned_of_bits ?_ ?_)))
    · simpa using ‹¬v.getLsbD 0 = true›
    · simpa using ‹¬v.getLsbD 1 = true›

theorem effect_finish {s : State} {p : Psr} (h : FlagsOnly s.cpsr p) (n : Reg) (v : Word) (loads : Bool) :
    Leads (s.finish n v p) (Effect loads s) :=
  ((s.quiet_writeReg n v).trans ((s.writeReg n v).quiet_cpsr h)).leads_advance loads

theorem effect_finishPair {s : State} {p : Psr} (h : FlagsOnly s.cpsr p) (hi lo : Reg) (v : BitVec 64) (loads : Bool) :
    Leads (s.finishPair hi lo v p) (Effect loads s) :=
  (((s.quiet_writeReg hi _).trans (State.quiet_writeReg _ lo _)).trans (State.quiet_cpsr _ h)).leads_advance loads

theorem effect_accumulate (s : State) (rd : Reg) (sum : Int) (loads : Bool) :
    Leads (s.accumulate rd sum) (Effect loads s) := effect_finish (flagsOnly_orQ ..) ..

theorem effect_saturatedResult (s : State) (rd : Reg) (r : Saturated) (loads : Bool) :
    Leads (s.saturatedResult rd r) (Effect loads s) := effect_finish (flagsOnly_orQ ..) ..

theorem effect_saturatedHalves (s : State) (rd : Reg) (top bottom : Saturated) (loads : Bool) :
    Leads (s.saturatedHalves rd top bottom) (Effect loads s) := effect_finish (flagsOnly_orQ ..) ..

theorem effect_parallelResult (s : State) (p : ParallelPrefix) (rd : Reg) (r : ParallelResult) (loads : Bool) :
    Leads (s.parallelResult p rd r) (Effect loads s) := by
  refine effect_finish ?_ ..
  split
  · exact flagsOnly_setGE ..
  · exact .refl _

theorem effect_compareResult (s : State) (r : AluResult) (loads : Bool) :
    Leads (s.compareResult r) (Effect loads s) :=
  (s.quiet_cpsr (flagsOnly_setNZCV ..)).leads_advance loads

theorem State.spsr_mode {s : State} {m : Mode} {p : Psr} (h : s.spsr.get m = some p) : m ≠ .usr := by
  rintro rfl; cases h

/-- A return through the SPSR, after quiet steps. -/
theorem State.Quiet.leads_exceptionReturn {s t : State} (h : s.Quiet t) (v : Word) :
    Leads (t.exceptionReturn v) (Effect true s) := by
  unfold State.exceptionReturn
  split
  · exact leads_refused ..
  · rename_i p hp
    refine ⟨fun u hu => ?_⟩
    obtain ⟨hr, rfl⟩ := State.restore_eq_next hu
    exact .returns rfl (h.mode ▸ State.spsr_mode hp) h hr v

theorem effect_dataResult (s : State) (sf : Bool) (rd : Reg) (r : AluResult) :
    Leads (s.dataResult sf rd r) (Effect (sf && rd == 15#4) s) := by
  unfold State.dataResult
  split
  · rename_i h
    subst h
    cases sf
    · exact leads_next (.quiet (s.quiet_pc fun _ => aligned_mask _))
    · exact (State.Quiet.refl s).leads_exceptionReturn _
  · refine effect_finish ?_ ..
    split
    · exact flagsOnly_setNZCV ..
    · exact .refl _

/-! ### Exceptions -/

theorem effect_takeException (s : State) (k : ExceptionKind) (link : Word) (loads : Bool) :
    Effect loads s (s.takeException k link) :=
  .exception (.refl s) k link s.regs s.dfsr s.ifsr s.far s.ifar s.draws

theorem effect_undefinedInstruction (s : State) (loads : Bool) : Leads s.undefinedInstruction (Effect loads s) :=
  leads_next (effect_takeException ..)

theorem State.forgetRegs_eq (regs : List PhysReg) (s : State) :
    ∃ r n, s.forgetRegs regs = { s with regs := r, draws := n } := by
  induction regs generalizing s with
  | nil => exact ⟨s.regs, s.draws, rfl⟩
  | cons p ps ih =>
    obtain ⟨r, n, h⟩ := ih { s.draw.2 with regs := s.regs.set p s.draw.1 }
    exact ⟨r, n, h⟩

/-- An access that aborts, with some registers left free, takes the Data Abort. -/
theorem State.Accessed.leads_abort {s t : State} (h : s.Accessed t) (regs : List PhysReg) (i : AbortInfo)
    (loads : Bool) : Leads (abortInstruction i (t.forgetRegs regs)) (Effect loads s) := by
  obtain ⟨r, n, e⟩ := State.forgetRegs_eq regs t
  obtain ⟨d, f, m, ha, -⟩ := State.dataAbort_eq (t.forgetRegs regs) i
  refine leads_next ?_
  rw [ha, e]
  exact .exception h .dataAbort _ r _ _ _ _ m

theorem State.Accessed.leads_abortInstruction {s t : State} (h : s.Accessed t) (i : AbortInfo) (loads : Bool) :
    Leads (abortInstruction i t) (Effect loads s) := h.leads_abort [] i loads

theorem effect_breakpoint (s : State) (loads : Bool) : Effect loads s s.breakpoint := by
  unfold State.breakpoint
  dsimp only
  split
  · exact .exception (.refl s) .prefetchAbort _ s.regs s.dfsr _ s.far _ _
  · exact .exception (.refl s) .prefetchAbort _ s.regs s.dfsr _ s.far s.ifar s.draws

/-! ### Loads and stores -/

theorem State.quiet_writeback (t : State) (rn : Reg) (wb : Option Word) : t.Quiet (t.writeback rn wb) := by
  cases wb with
  | none => exact .refl t
  | some v => exact t.quiet_writeReg rn v

theorem effect_loadForm (s : State) (idx : IndexMode) (u : Bool) (rn : Reg) (offset : Word) (rd : Reg)
    (size : AccessSize) (user : Bool) (extend : Word → Word) (loads : Bool) :
    Leads (s.loadForm idx u rn offset rd size user extend) (Effect loads s) := by
  refine leads_unless fun _ => leads_finish (memRead_accessed ..) (fun v t h => ?_) fun i t h =>
    h.leads_abortInstruction i loads
  have hw := h.1.trans (t.quiet_writeback rn (indexWriteback idx u (s.readReg rn) offset))
  dsimp only
  split
  · exact hw.leads_branchExchange ..
  · exact (hw.trans (State.quiet_writeReg ..)).leads_advance loads

theorem effect_storeForm (s : State) (idx : IndexMode) (u : Bool) (rn : Reg) (offset : Word) (rd : Reg)
    (size : AccessSize) (user : Bool) (loads : Bool) :
    Leads (s.storeForm idx u rn offset rd size user) (Effect loads s) :=
  leads_unless fun _ => leads_finish (memWrite_accessed ..)
    (fun _ t h => (h.1.trans (t.quiet_writeback ..)).leads_advance loads) fun i _ h => h.leads_abortInstruction i loads

/-- A store of several words, after quiet accesses. -/
theorem effect_storeWords {s t : State} (h : s.Accessed t) (va : Word) (user : Bool) (values : List Word)
    {done : State → Out} {loads : Bool} (hd : ∀ u, s.Accessed u → Leads (done u) (Effect loads s)) :
    Leads (t.storeWords va user values done) (Effect loads s) :=
  leads_finish ((writeWords_accessed ..).mono fun _ k => h.trans k) (fun _ u k => hd u k)
    fun i _ k => (k.trans (forgetWords_accessed ..)).leads_abortInstruction i loads

theorem effect_loadPair (s : State) (idx : IndexMode) (u : Bool) (rn : Reg) (offset : Word) (rd : Reg) (loads : Bool) :
    Leads (s.loadPair idx u rn offset rd) (Effect loads s) := by
  refine leads_unless fun _ => leads_finish (Q := s.Accessed) ?_ (fun d t h => ?_) fun i t h => h.leads_abort _ i loads
  · refine (checkPair_accessed ..).bind fun _ t h => ?_
    refine ((memRead_accessed ..).mono fun u k => h.trans k).bind fun d0 u h => ?_
    refine ((memRead_accessed ..).mono fun w k => h.trans k).bind fun d1 w h => ?_
    exact h
  · exact (((h.1.trans (t.quiet_writeback ..)).trans (State.quiet_writeReg ..)).trans
      (State.quiet_writeReg ..)).leads_advance loads

theorem effect_storePair (s : State) (idx : IndexMode) (u : Bool) (rn : Reg) (offset : Word) (rd : Reg) (loads : Bool) :
    Leads (s.storePair idx u rn offset rd) (Effect loads s) :=
  leads_unless fun _ => leads_finish (checkPair_accessed ..)
    (fun _ _ h => effect_storeWords h _ _ _ fun w k => (k.1.trans (w.quiet_writeback ..)).leads_advance loads)
    fun i _ h => h.leads_abortInstruction i loads

theorem effect_swap (s : State) (rn rd rm : Reg) (size : AccessSize) (extend : Word → Word) (loads : Bool) :
    Leads (s.swap rn rd rm size extend) (Effect loads s) := by
  refine leads_withoutPC ?_
  split
  · exact leads_refused ..
  · refine leads_finish (Q := s.Accessed) ?_ (fun v t h => (h.1.trans (State.quiet_writeReg ..)).leads_advance loads)
      fun i t h => h.leads_abortInstruction i loads
    refine (memRead_accessed ..).bind fun old t h => ?_
    refine ((memWrite_accessed ..).mono fun u k => h.trans k).bind fun _ u h => ?_
    exact h

theorem effect_ldrex (c : Cond) (rn rd : Reg) (s : State) (loads : Bool) :
    Leads (execLdrex c rn rd s) (Effect loads s) := by
  refine effect_whenCond (leads_withoutPC (leads_finish (Q := s.Accessed) ?_ (fun r t h => ?_)
    fun i t h => h.leads_abortInstruction i loads))
  · refine (dataAddress_accessed ..).bind fun pa t h => ?_
    refine ((readAt_accessed ..).mono fun u k => h.trans k).bind fun v u h => ?_
    exact h
  · exact ((h.1.trans (State.quiet_writeReg ..)).trans (State.quiet_excl ..)).leads_advance loads

theorem effect_strex (c : Cond) (rn rd rm : Reg) (s : State) (loads : Bool) :
    Leads (execStrex c rn rd rm s) (Effect loads s) := by
  refine effect_whenCond (leads_withoutPC ?_)
  split
  · exact leads_refused ..
  · refine leads_finish (Q := s.Accessed) ?_ (fun r t h => ?_) fun i t h => h.leads_abortInstruction i loads
    · refine (dataAddress_accessed ..).bind fun pa t h => ?_
      split
      · exact ((writeAt_accessed ..).mono fun u k => h.trans k).bind fun _ u h => h
      · exact h
    · exact ((h.1.trans (State.quiet_writeReg ..)).trans (State.quiet_excl ..)).leads_advance loads

/-- The registers a load multiple writes are in a bank that a User mode instruction only names as its own. -/
theorem State.quiet_writeRegs {m : Mode} (regs : List Reg) (vs : List Word) (s : State)
    (h : s.mode = .usr → m = .usr) : s.Quiet (s.writeRegs m regs vs) := by
  induction regs generalizing s vs with
  | nil => cases vs <;> exact .refl s
  | cons r rs ih =>
    cases vs with
    | nil => exact .refl s
    | cons v vs =>
      rw [State.writeRegs]
      split
      · exact ih vs s h
      · exact (s.quiet_writeBank r v h).trans (ih vs _ h)

theorem effect_loadMultiple (s : State) (am : AddrMode4) (rn : Reg) (regs : List Reg) (target : Mode)
    {done : List Word → State → Out} {loads : Bool} (hd : ∀ vs t, s.Accessed t → Leads (done vs t) (Effect loads s)) :
    Leads (s.loadMultiple am rn regs target done) (Effect loads s) :=
  leads_inAddressSpace (leads_finish (readWords_accessed ..) hd fun i _ h => h.leads_abort _ i loads)

theorem State.Accessed.mode {s t : State} (h : s.Accessed t) : t.mode = s.mode := h.1.mode

/-- The base and the listed registers of the current mode. -/
theorem State.Accessed.quiet_multiple {s t : State} (h : s.Accessed t) (rn : Reg) (wb : Option Word)
    (regs : List Reg) (vs : List Word) : s.Quiet ((t.writeback rn wb).writeRegs s.mode regs vs) := by
  have hw := h.1.trans (t.quiet_writeback rn wb)
  exact hw.trans (State.quiet_writeRegs _ _ _ fun k => hw.mode.symm.trans k)

theorem effect_ldm1 (c : Cond) (am : AddrMode4) (wb : Bool) (rn : Reg) (list : BitVec 16) (s : State) (loads : Bool) :
    Leads (execLdm1 c am wb rn list s) (Effect loads s) := by
  refine effect_whenCond (leads_unless fun _ => effect_loadMultiple _ _ _ _ _ fun vs t h => ?_)
  have hm := h.quiet_multiple rn (multipleWb am wb (s.readReg rn) (listRegs list).length) (listRegs list) vs
  dsimp only
  split
  · exact hm.leads_branchExchange ..
  · exact hm.leads_advance loads

theorem effect_ldm2 (c : Cond) (am : AddrMode4) (wb : Bool) (rn : Reg) (list : BitVec 15) (s : State) (loads : Bool) :
    Leads (execLdm2 c am wb rn list s) (Effect loads s) :=
  effect_whenCond (leads_unless fun _ => leads_unless fun _ => effect_loadMultiple _ _ _ _ _ fun _ _ h =>
    (h.1.trans (State.quiet_writeRegs _ _ _ fun _ => rfl)).leads_advance loads)

theorem effect_ldm3 (c : Cond) (am : AddrMode4) (wb : Bool) (rn : Reg) (list : BitVec 15) (s : State) :
    Leads (execLdm3 c am wb rn list s) (Effect true s) :=
  effect_whenCond (leads_unless fun _ => leads_unless fun _ => effect_loadMultiple _ _ _ _ _ fun _ _ h =>
    (h.quiet_multiple ..).leads_exceptionReturn _)

theorem effect_storeMultiple (s : State) (am : AddrMode4) (rn : Reg) (wb : Bool) (values : List Word) (loads : Bool) :
    Leads (s.storeMultiple am rn wb values) (Effect loads s) :=
  leads_inAddressSpace (effect_storeWords (.refl s) _ _ _ fun w k =>
    (k.1.trans (w.quiet_writeback ..)).leads_advance loads)

theorem effect_srs (am : AddrMode4) (wb : Bool) (mode : BitVec 5) (s : State) (loads : Bool) :
    Leads (execSrs am wb mode s) (Effect loads s) := by
  unfold execSrs
  split
  · exact leads_refused ..
  rename_i p hp
  split
  · exact leads_refused ..
  refine leads_inAddressSpace (effect_storeWords (.refl s) _ _ _ fun w k => ?_)
  have hs : w.mode ≠ .usr := k.mode ▸ State.spsr_mode hp
  cases wb
  · exact k.1.leads_advance loads
  · exact (k.1.trans (State.quiet_writeBank _ _ _ fun h => absurd h hs)).leads_advance loads

theorem privileged_iff (s : State) : s.privileged = true ↔ s.mode ≠ .usr := by
  simp [State.privileged]

theorem effect_rfe (am : AddrMode4) (wb : Bool) (rn : Reg) (s : State) :
    Leads (execRfe am wb rn s) (Effect true s) := by
  refine leads_unless fun h => leads_withoutPC (leads_inAddressSpace (leads_finish (readWords_accessed ..)
    (fun vs t k => ⟨fun u hu => ?_⟩) fun i _ k => k.leads_abortInstruction i true))
  have hs : s.mode ≠ .usr := (privileged_iff s).1 (by simpa using h)
  obtain ⟨hr, rfl⟩ := State.restore_eq_next hu
  exact .returns rfl hs (k.1.trans (t.quiet_writeback ..)) hr _

end Sys2Proof.Machine

/-!
The instructions that write a status register or a CP15 register, as forms of `Effect`.
-/

namespace Sys2Proof.Machine

open Sys2Proof

/-! ### The bits of a status register -/

theorem Psr.toWord_t (p : Psr) : p.toWord.getLsbD 5 = p.t := by
  simp only [Psr.toWord, BitVec.getLsbD_append]; simp

theorem Psr.toWord_f (p : Psr) : p.toWord.getLsbD 6 = p.f := by
  simp only [Psr.toWord, BitVec.getLsbD_append]; simp

theorem Psr.toWord_i (p : Psr) : p.toWord.getLsbD 7 = p.i := by
  simp only [Psr.toWord, BitVec.getLsbD_append]; simp

theorem Psr.toWord_a (p : Psr) : p.toWord.getLsbD 8 = p.a := by
  simp only [Psr.toWord, BitVec.getLsbD_append]; simp

theorem Psr.toWord_e (p : Psr) : p.toWord.getLsbD 9 = p.e := by
  simp only [Psr.toWord, BitVec.getLsbD_append]; simp

theorem Psr.toWord_j (p : Psr) : p.toWord.getLsbD 24 = p.j := by
  simp only [Psr.toWord, BitVec.getLsbD_append]; simp

theorem Psr.toWord_q (p : Psr) : p.toWord.getLsbD 27 = p.q := by
  simp only [Psr.toWord, BitVec.getLsbD_append]; simp

theorem Psr.toWord_v (p : Psr) : p.toWord.getLsbD 28 = p.v := by
  simp only [Psr.toWord, BitVec.getLsbD_append]; simp

theorem Psr.toWord_c (p : Psr) : p.toWord.getLsbD 29 = p.c := by
  simp only [Psr.toWord, BitVec.getLsbD_append]; simp

theorem Psr.toWord_z (p : Psr) : p.toWord.getLsbD 30 = p.z := by
  simp only [Psr.toWord, BitVec.getLsbD_append]; simp

theorem Psr.toWord_n (p : Psr) : p.toWord.getLsbD 31 = p.n := by
  simp only [Psr.toWord, BitVec.getLsbD_append]; simp

theorem Psr.toWord_m (p : Psr) : p.toWord.extractLsb' 0 5 = p.m := by
  unfold Psr.toWord
  rw [BitVec.extractLsb'_append_eq_right]
theorem Psr.toWord_ge (p : Psr) : p.toWord.extractLsb' 16 4 = p.ge := by
  refine BitVec.eq_of_getLsbD_eq fun k hk => ?_
  rw [BitVec.getLsbD_extractLsb']
  simp only [Psr.toWord, BitVec.getLsbD_append]
  interval_cases k <;> simp

theorem masked_bit (x y mask : Word) (k : Nat) (h : mask.getLsbD k = false) (hk : k < 32) :
    ((x &&& ~~~mask) ||| (y &&& mask)).getLsbD k = x.getLsbD k := by
  rw [BitVec.getLsbD_or, BitVec.getLsbD_and, BitVec.getLsbD_and, BitVec.getLsbD_not, h]
  simp [hk]

theorem Psr.writeMasked_t {p : Psr} {mask : Word} (x : Word) (h : mask.getLsbD 5 = false) :
    (p.writeMasked mask x).t = p.t := (masked_bit _ _ _ 5 h (by decide)).trans p.toWord_t
theorem Psr.writeMasked_f {p : Psr} {mask : Word} (x : Word) (h : mask.getLsbD 6 = false) :
    (p.writeMasked mask x).f = p.f := (masked_bit _ _ _ 6 h (by decide)).trans p.toWord_f
theorem Psr.writeMasked_i {p : Psr} {mask : Word} (x : Word) (h : mask.getLsbD 7 = false) :
    (p.writeMasked mask x).i = p.i := (masked_bit _ _ _ 7 h (by decide)).trans p.toWord_i
theorem Psr.writeMasked_a {p : Psr} {mask : Word} (x : Word) (h : mask.getLsbD 8 = false) :
    (p.writeMasked mask x).a = p.a := (masked_bit _ _ _ 8 h (by decide)).trans p.toWord_a
theorem Psr.writeMasked_j {p : Psr} {mask : Word} (x : Word) (h : mask.getLsbD 24 = false) :
    (p.writeMasked mask x).j = p.j := (masked_bit _ _ _ 24 h (by decide)).trans p.toWord_j
theorem Psr.writeMasked_m {p : Psr} {mask : Word} (x : Word) (h : mask.extractLsb' 0 5 = 0#5) :
    (p.writeMasked mask x).m = p.m := by
  refine Eq.trans ?_ p.toWord_m
  show ((p.toWord &&& ~~~mask) ||| (x &&& mask)).extractLsb' 0 5 = _
  ext i hi
  have hi' : mask.getLsbD i = false := by
    have := congrArg (fun b : BitVec 5 => b.getLsbD i) h
    simpa [hi] using this
  simpa [BitVec.getLsbD_eq_getElem (show i < 32 by omega)] using masked_bit p.toWord x mask i hi' (by omega)

theorem and_bit_false {x y : Word} {k : Nat} (h : y.getLsbD k = false) : (x &&& y).getLsbD k = false := by
  rw [BitVec.getLsbD_and, h, Bool.and_false]

/-! ### MSR and CPS -/

theorem effect_msrCpsr (s : State) (mask : BitVec 4) (operand : Word) :
    Leads (s.msrCpsr mask operand) (Effect true s) := by
  unfold State.msrCpsr
  dsimp only
  split
  · exact leads_refused ..
  generalize hmask : byteMask mask &&& (if s.privileged then userMask ||| privMask else userMask) = wmask
  have hstate : wmask.getLsbD 5 = false ∧ wmask.getLsbD 24 = false := by
    subst hmask
    split <;> exact ⟨and_bit_false rfl, and_bit_false rfl⟩
  split
  · exact leads_refused ..
  rename_i m hm
  refine ⟨fun t ht => ?_⟩
  obtain ⟨-, rfl⟩ := State.advance_eq_next ht
  refine .status (by rw [hm]; rfl) (Psr.writeMasked_t _ hstate.1) (Psr.writeMasked_j _ hstate.2) (fun hu => ?_)
    fun h => absurd h (by decide)
  have hp : s.privileged = false := by
    rw [Bool.eq_false_iff, ne_eq, privileged_iff, not_not]; exact hu
  rw [hp, if_neg Bool.false_ne_true] at hmask
  have hbits : wmask.extractLsb' 0 5 = 0#5 := by
    rw [← hmask, BitVec.extractLsb'_and]; exact BitVec.and_zero
  subst hmask
  exact ⟨Psr.writeMasked_m _ hbits, Psr.writeMasked_a _ (and_bit_false rfl), Psr.writeMasked_i _ (and_bit_false rfl),
    Psr.writeMasked_f _ (and_bit_false rfl)⟩

theorem effect_msrSpsr (s : State) (mask : BitVec 4) (operand : Word) (loads : Bool) :
    Leads (s.msrSpsr mask operand) (Effect loads s) := by
  unfold State.msrSpsr
  split
  · exact leads_refused ..
  rename_i p hp
  refine ⟨fun t ht => ?_⟩
  obtain ⟨-, rfl⟩ := State.advance_eq_next ht
  exact .savedStatus (State.spsr_mode hp) _

theorem effect_msr (s : State) (r : Bool) (mask : BitVec 4) (operand : Word) :
    Leads (if r then s.msrSpsr mask operand else s.msrCpsr mask operand) (Effect (!r) s) := by
  cases r
  · exact effect_msrCpsr ..
  · exact effect_msrSpsr ..

theorem effect_mrs (c : Cond) (r : Bool) (rd : Reg) (s : State) (loads : Bool) :
    Leads (execMrs c r rd s) (Effect loads s) := by
  refine effect_whenCond (leads_withoutPC ?_)
  split
  · split
    · exact leads_refused ..
    · exact effect_finish (.refl _) ..
  · exact effect_finish (.refl _) ..

/-- A privileged mode is legal. -/
theorem legal_of_privileged {s : State} (h : s.mode ≠ .usr) : (Mode.ofBits s.cpsr.m).isSome = true := by
  cases hm : Mode.ofBits s.cpsr.m with
  | none => exact absurd (by simp [State.mode, hm]) h
  | some m => rfl

theorem effect_cps (imod : BitVec 2) (mmod a i f : Bool) (mode : BitVec 5) (s : State) (loads : Bool) :
    Leads (execCps imod mmod a i f mode s) (Effect loads s) := by
  refine leads_unless fun _ => ?_
  split
  · exact (State.Quiet.refl s).leads_advance loads
  rename_i hp
  have hs : s.mode ≠ .usr := (privileged_iff s).1 (by simpa using hp)
  dsimp only
  split
  · split
    · exact leads_refused ..
    rename_i m hm
    refine ⟨fun t ht => ?_⟩
    obtain ⟨-, rfl⟩ := State.advance_eq_next ht
    exact .status (by rw [hm]; rfl) rfl rfl (fun h => absurd h hs) fun _ => rfl
  · refine ⟨fun t ht => ?_⟩
    obtain ⟨-, rfl⟩ := State.advance_eq_next ht
    exact .status (legal_of_privileged hs) rfl rfl (fun h => absurd h hs) fun _ => rfl

theorem effect_setend (e : Bool) (s : State) (loads : Bool) : Leads (execSetend e s) (Effect loads s) :=
  (s.quiet_cpsr (p := { s.cpsr with e := e }) ⟨rfl, rfl, rfl, rfl, rfl, rfl, id⟩).leads_advance loads

/-! ### CP15 -/

/-- What a CP15 write leaves: the parameters, the CPSR, the pc and memory, and the bounds. -/
structure SystemWrite (s u : State) : Prop where
  cfg : u.cfg = s.cfg
  cpsr : u.cpsr = s.cpsr
  pc : u.pc = s.pc
  mem : u.mem = s.mem
  bounded : s.Bounded → u.Bounded

theorem SystemWrite.refl (s : State) : SystemWrite s s := ⟨rfl, rfl, rfl, rfl, id⟩

theorem SystemWrite.trans {s t u : State} (h : SystemWrite s t) (k : SystemWrite t u) : SystemWrite s u :=
  ⟨k.cfg.trans h.cfg, k.cpsr.trans h.cpsr, k.pc.trans h.pc, k.mem.trans h.mem, fun b => k.bounded (h.bounded b)⟩

theorem setTlb_systemWrite (s : State) {side : Bool} {t : Tlb}
    (h : s.Bounded → t.Bounded s.cfg (lockable s.cfg side)) : SystemWrite s (s.setTlb side t) :=
  ⟨State.setTlb_cfg .., State.setTlb_cpsr .., State.setTlb_pc .., State.setTlb_mem .., fun b => b.setTlb (h b)⟩

theorem filterTlbs_systemWrite (s : State) (crm : BitVec 4) (keep : TlbEntry → Bool) :
    SystemWrite s (s.filterTlbs crm keep) := by
  unfold State.filterTlbs
  generalize tlbTargets s.cfg crm = sides
  induction sides generalizing s with
  | nil => exact .refl s
  | cons side sides ih => exact (setTlb_systemWrite s fun b => (b.tlb side).filter keep).trans (ih _)

theorem keeps_checked {v zero : Word} {t : State} {P : State → Prop} (h : P t) : (writeChecked v zero t).Keeps P := by
  unfold writeChecked
  split
  · trivial
  · exact h

theorem writeTlbOp_systemWrite (s : State) (crm : BitVec 4) (op2 : BitVec 3) (v : Word) :
    (writeTlbOp s crm op2 v).Keeps (SystemWrite s) := by
  unfold writeTlbOp
  repeat' split
  all_goals first | trivial | exact filterTlbs_systemWrite ..

theorem writeLockdown_systemWrite (s : State) (op2 : BitVec 3) (v : Word) :
    (writeLockdown s op2 v).Keeps (SystemWrite s) := by
  unfold writeLockdown
  split
  · trivial
  rename_i side _
  dsimp only
  split
  · trivial
  rename_i hbound
  simp only [Bool.or_eq_true, decide_eq_true_eq, not_or, not_le, lt_min_iff] at hbound
  obtain ⟨⟨hb, -⟩, hv, hlock⟩ := hbound
  refine setTlb_systemWrite s fun b => ?_
  obtain ⟨h1, h2, h3, -, -, -, h7⟩ := b.tlb side
  refine ⟨h1, h2, ?_, hv.trans_le (lockWidth_bound _), fun h => ?_, fun h => if_pos h, h7⟩
  · dsimp only
    split <;> omega
  · rw [h] at hlock
    exact absurd hlock (Nat.not_lt_zero _)

theorem cp15Write_systemWrite (s : State) (crn crm : BitVec 4) (op2 : BitVec 3) (v : Word) :
    (cp15Write s crn crm op2 v).Keeps (SystemWrite s) := by
  unfold cp15Write
  split
  case h_1 =>
    unfold writeControl
    split
    · trivial
    · exact ⟨rfl, rfl, rfl, rfl, fun b => b.of_same rfl rfl rfl rfl rfl rfl rfl⟩
  case h_2 =>
    refine keeps_checked ⟨rfl, rfl, rfl, rfl, fun ⟨b1, b2, b3, b4, b5, b6, b7⟩ => ?_⟩
    exact ⟨b1, b2, b3, b4, b5, b6, b7.writeTtbr0 v⟩
  case h_4 =>
    refine keeps_checked ⟨rfl, rfl, rfl, rfl, fun ⟨b1, b2, b3, b4, b5, b6, b7⟩ => ?_⟩
    exact ⟨b1, b2, b3, b4, b5, b6, b7.writeTtbcr v⟩
  case h_3 | h_7 | h_8 => exact keeps_checked ⟨rfl, rfl, rfl, rfl, fun b => b.of_same rfl rfl rfl rfl rfl rfl rfl⟩
  case h_5 | h_9 | h_10 | h_24 => exact ⟨rfl, rfl, rfl, rfl, fun b => b.of_same rfl rfl rfl rfl rfl rfl rfl⟩
  case h_11 =>
    split
    · exact ⟨rfl, rfl, rfl, rfl, fun b => b.of_same rfl rfl rfl rfl rfl rfl rfl⟩
    · trivial
  case h_12 => exact keeps_checked ⟨rfl, rfl, rfl, rfl, fun b => b.closeWindows⟩
  case h_13 | h_14 => exact keeps_checked (.refl s)
  case h_15 | h_16 | h_17 => exact writeTlbOp_systemWrite ..
  case h_19 | h_20 => exact writeLockdown_systemWrite ..
  case h_23 =>
    split
    · trivial
    · exact .refl s
  all_goals trivial

theorem cp15Read_accessed (s : State) (crn crm : BitVec 4) (op2 : BitVec 3) :
    (cp15Read s crn crm op2).Keeps s.Accessed := by
  have hopen (stored openBits : Word) : (s.readOpen stored openBits).Keeps s.Accessed := draw_accessed s
  have hlock : (readLockdown s op2).Keeps s.Accessed := by
    unfold readLockdown
    split
    · trivial
    · exact hopen ..
  unfold cp15Read
  split
  case h_3 | h_4 | h_5 | h_8 | h_9 => exact hopen ..
  case h_12 =>
    split
    · exact .refl s
    · trivial
  case h_14 | h_15 => exact hlock
  case h_7 | h_13 | h_18 => trivial
  all_goals exact .refl s

/-- A transfer to or from CP15 outside User mode, or the Undefined Instruction exception. -/
theorem effect_coprocessorTransfer {s : State} {cp : BitVec 4} {op1 : BitVec 3} {body : Out} {loads : Bool}
    (h : s.mode ≠ .usr → Leads body (Effect loads s)) : Leads (s.coprocessorTransfer cp op1 body) (Effect loads s) := by
  unfold State.coprocessorTransfer
  split
  · exact effect_undefinedInstruction ..
  refine leads_unless fun _ => ?_
  split
  · exact effect_undefinedInstruction ..
  rename_i hp
  split
  · exact leads_refused ..
  · exact h ((privileged_iff s).1 (by simpa using hp))

theorem cp15Write_not_abort (s : State) (crn crm : BitVec 4) (op2 : BitVec 3) (v : Word) (i : AbortInfo) (t : State) :
    cp15Write s crn crm op2 v ≠ .abort i t := by
  unfold cp15Write writeControl writeChecked writeTlbOp writeLockdown
  dsimp only
  repeat' split
  all_goals nofun

theorem effect_mcr (c : Cond) (op1 : BitVec 3) (crn : BitVec 4) (rd : Reg) (cp : BitVec 4) (op2 : BitVec 3)
    (crm : BitVec 4) (s : State) (loads : Bool) : Leads (execMcr c op1 crn rd cp op2 crm s) (Effect loads s) := by
  refine effect_whenCond (effect_coprocessorTransfer fun hs => leads_withoutPC ?_)
  have hw := cp15Write_systemWrite s crn crm op2 (s.readReg rd)
  cases h : cp15Write s crn crm op2 (s.readReg rd) with
  | ok _ u =>
    obtain ⟨hc, hp, hpc, hm, hb⟩ := hw.ok h
    refine ⟨fun t ht => ?_⟩
    obtain ⟨-, rfl⟩ := State.advance_eq_next ht
    exact .system hs hc hp hpc hm hb
  | abort i t => exact (cp15Write_not_abort _ _ _ _ _ _ _ h).elim
  | fault f => exact leads_fault ..
  | refused r => exact leads_refused ..

theorem effect_mrc (c : Cond) (op1 : BitVec 3) (crn : BitVec 4) (rd : Reg) (cp : BitVec 4) (op2 : BitVec 3)
    (crm : BitVec 4) (s : State) (loads : Bool) : Leads (execMrc c op1 crn rd cp op2 crm s) (Effect loads s) := by
  refine effect_whenCond (effect_coprocessorTransfer fun _ => leads_finish (cp15Read_accessed ..) (fun v t h => ?_)
    fun i t h => h.leads_abortInstruction i loads)
  split
  · exact (h.1.trans (t.quiet_cpsr (flagsOnly_setTransferred ..))).leads_advance loads
  · exact (h.1.trans (t.quiet_writeReg ..)).leads_advance loads

theorem effect_coprocessor (s : State) (cp : BitVec 4) (loads : Bool) : Leads (s.coprocessor cp) (Effect loads s) := by
  unfold State.coprocessor
  split
  · exact leads_refused ..
  · exact effect_undefinedInstruction ..

/-! ### Words -/

theorem effect_undefinedWord (w : Word) (s : State) (loads : Bool) :
    Leads (execUndefinedWord w s) (Effect loads s) := by
  unfold execUndefinedWord
  split
  · exact effect_whenCond (effect_undefinedInstruction ..)
  · exact effect_undefinedInstruction ..

theorem effect_unpredictableWord (w : Word) (s : State) (loads : Bool) :
    Leads (execUnpredictableWord w s) (Effect loads s) := by
  unfold execUnpredictableWord
  split
  · exact effect_whenCond (leads_refused ..)
  · exact leads_refused ..

/-! ### Branches -/

theorem aligned_branchTarget {pc : Word} (h : pc.extractLsb' 0 2 = 0#2) (imm : BitVec 24) :
    (branchTarget pc imm).extractLsb' 0 2 = 0#2 := by
  rw [BitVec.toNat_eq] at h ⊢
  simp only [BitVec.extractLsb'_toNat, Nat.shiftRight_zero, BitVec.toNat_ofNat, branchTarget, branchSum,
    BitVec.toNat_ofInt] at h ⊢
  omega

theorem effect_b (c : Cond) (imm : BitVec 24) (s : State) (loads : Bool) :
    Leads (execB c imm s) (Effect loads s) := by
  refine effect_whenCond ?_
  split
  · exact leads_next (.quiet (s.quiet_pc fun h => aligned_branchTarget h imm))
  · exact leads_refused ..

theorem effect_bl (c : Cond) (imm : BitVec 24) (s : State) (loads : Bool) :
    Leads (execBl c imm s) (Effect loads s) := by
  refine effect_whenCond ?_
  split
  · exact leads_next (.quiet ((s.quiet_writeReg ..).trans (State.quiet_pc _ fun h => aligned_branchTarget h imm)))
  · exact leads_refused ..

end Sys2Proof.Machine

/-!
Every instruction has an effect of one of the forms of `Effect`.
-/

namespace Sys2Proof.Machine

open Sys2Proof

theorem leads_unless_prop {p : Prop} [Decidable p] {r : Refusal} {body : Out} {P : State → Prop}
    (h : ¬p → Leads body P) : Leads (if p then .refused r else body) P := by
  split
  · exact leads_refused ..
  · exact h ‹_›

/-! ### Every instruction -/

namespace InstrEffect

/-- What an instruction does has one of the forms of `Effect`. -/
def Statement (i : Instr) (s : State) : Prop := Leads (exec i s) (Effect (loadsCpsr i) s)

theorem cps (imod : BitVec 2) (mmod a i f : Bool) (mode : BitVec 5) (s : State) :
    Statement (.cps imod mmod a i f mode) s := effect_cps ..
theorem setend (e : Bool) (s : State) : Statement (.setend e) s := effect_setend ..
theorem pldImm (u : Bool) (rn : Reg) (imm : BitVec 12) (s : State) :
    Statement (.pldImm u rn imm) s := (State.Quiet.refl s).leads_advance _
theorem pldReg (u : Bool) (rn : Reg) (op : ImmShift) (s : State) :
    Statement (.pldReg u rn op) s := leads_withoutPC ((State.Quiet.refl s).leads_advance _)
theorem srs (am : AddrMode4) (wb : Bool) (mode : BitVec 5) (s : State) :
    Statement (.srs am wb mode) s := effect_srs ..
theorem rfe (am : AddrMode4) (wb : Bool) (rn : Reg) (s : State) : Statement (.rfe am wb rn) s := effect_rfe ..
theorem blx1 (h : Bool) (imm : BitVec 24) (s : State) : Statement (.blx1 h imm) s := leads_refused ..
theorem mcrr2 (rn rd : Reg) (cp op crm : BitVec 4) (s : State) :
    Statement (.mcrr2 rn rd cp op crm) s := effect_coprocessor ..
theorem mrrc2 (rn rd : Reg) (cp op crm : BitVec 4) (s : State) :
    Statement (.mrrc2 rn rd cp op crm) s := effect_coprocessor ..
theorem stc2 (p u n wb : Bool) (rn : Reg) (crd cp : BitVec 4) (off : BitVec 8) (s : State) :
    Statement (.stc2 p u n wb rn crd cp off) s := effect_coprocessor ..
theorem ldc2 (p u n wb : Bool) (rn : Reg) (crd cp : BitVec 4) (off : BitVec 8) (s : State) :
    Statement (.ldc2 p u n wb rn crd cp off) s := effect_coprocessor ..
theorem cdp2 (op1 crn crd cp : BitVec 4) (op2 : BitVec 3) (crm : BitVec 4) (s : State) :
    Statement (.cdp2 op1 crn crd cp op2 crm) s := effect_coprocessor ..
theorem mcr2 (op1 : BitVec 3) (crn : BitVec 4) (rd : Reg) (cp : BitVec 4) (op2 : BitVec 3) (crm : BitVec 4) (s : State) :
    Statement (.mcr2 op1 crn rd cp op2 crm) s := effect_coprocessor ..
theorem mrc2 (op1 : BitVec 3) (crn : BitVec 4) (rd : Reg) (cp : BitVec 4) (op2 : BitVec 3) (crm : BitVec 4) (s : State) :
    Statement (.mrc2 op1 crn rd cp op2 crm) s := effect_coprocessor ..
theorem mul (c : Cond) (sf : Bool) (rd rs rm : Reg) (s : State) :
    Statement (.mul c sf rd rs rm) s := effect_whenCond (leads_withoutPC (effect_finish (flagsOnly_nz32 ..) ..))
theorem mla (c : Cond) (sf : Bool) (rd rn rs rm : Reg) (s : State) :
    Statement (.mla c sf rd rn rs rm) s := effect_whenCond (leads_withoutPC (effect_finish (flagsOnly_nz32 ..) ..))
theorem umaal (c : Cond) (rdHi rdLo rs rm : Reg) (s : State) :
    Statement (.umaal c rdHi rdLo rs rm) s :=
  effect_whenCond (leads_withoutPC (leads_distinct (effect_finishPair (.refl _) ..)))
theorem umull (c : Cond) (sf : Bool) (rdHi rdLo rs rm : Reg) (s : State) :
    Statement (.umull c sf rdHi rdLo rs rm) s :=
  effect_whenCond (leads_withoutPC (leads_distinct (effect_finishPair (flagsOnly_nz64 ..) ..)))
theorem umlal (c : Cond) (sf : Bool) (rdHi rdLo rs rm : Reg) (s : State) :
    Statement (.umlal c sf rdHi rdLo rs rm) s :=
  effect_whenCond (leads_withoutPC (leads_distinct (effect_finishPair (flagsOnly_nz64 ..) ..)))
theorem smull (c : Cond) (sf : Bool) (rdHi rdLo rs rm : Reg) (s : State) :
    Statement (.smull c sf rdHi rdLo rs rm) s :=
  effect_whenCond (leads_withoutPC (leads_distinct (effect_finishPair (flagsOnly_nz64 ..) ..)))
theorem smlal (c : Cond) (sf : Bool) (rdHi rdLo rs rm : Reg) (s : State) :
    Statement (.smlal c sf rdHi rdLo rs rm) s :=
  effect_whenCond (leads_withoutPC (leads_distinct (effect_finishPair (flagsOnly_nz64 ..) ..)))
theorem swp (c : Cond) (rn rd rm : Reg) (s : State) :
    Statement (.swp c rn rd rm) s := effect_whenCond (effect_swap ..)
theorem swpb (c : Cond) (rn rd rm : Reg) (s : State) :
    Statement (.swpb c rn rd rm) s := effect_whenCond (effect_swap ..)
theorem strex (c : Cond) (rn rd rm : Reg) (s : State) : Statement (.strex c rn rd rm) s := effect_strex ..
theorem ldrex (c : Cond) (rn rd : Reg) (s : State) : Statement (.ldrex c rn rd) s := effect_ldrex ..
theorem strhReg (c : Cond) (idx : IndexMode) (u : Bool) (rn rd rm : Reg) (s : State) :
    Statement (.strhReg c idx u rn rd rm) s :=
  effect_whenCond (leads_withOffsetReg (leads_withoutPC (effect_storeForm ..)))
theorem strhImm (c : Cond) (idx : IndexMode) (u : Bool) (rn rd : Reg) (off : BitVec 8) (s : State) :
    Statement (.strhImm c idx u rn rd off) s := effect_whenCond (leads_withoutPC (effect_storeForm ..))
theorem ldrhReg (c : Cond) (idx : IndexMode) (u : Bool) (rn rd rm : Reg) (s : State) :
    Statement (.ldrhReg c idx u rn rd rm) s :=
  effect_whenCond (leads_withOffsetReg (leads_withoutPC (effect_loadForm ..)))
theorem ldrhImm (c : Cond) (idx : IndexMode) (u : Bool) (rn rd : Reg) (off : BitVec 8) (s : State) :
    Statement (.ldrhImm c idx u rn rd off) s := effect_whenCond (leads_withoutPC (effect_loadForm ..))
theorem ldrdReg (c : Cond) (idx : IndexMode) (u : Bool) (rn rd rm : Reg) (s : State) :
    Statement (.ldrdReg c idx u rn rd rm) s :=
  effect_whenCond (leads_withOffsetReg (leads_unless_prop fun _ => effect_loadPair ..))
theorem ldrdImm (c : Cond) (idx : IndexMode) (u : Bool) (rn rd : Reg) (off : BitVec 8) (s : State) :
    Statement (.ldrdImm c idx u rn rd off) s := effect_whenCond (effect_loadPair ..)
theorem ldrsbReg (c : Cond) (idx : IndexMode) (u : Bool) (rn rd rm : Reg) (s : State) :
    Statement (.ldrsbReg c idx u rn rd rm) s :=
  effect_whenCond (leads_withOffsetReg (leads_withoutPC (effect_loadForm ..)))
theorem ldrsbImm (c : Cond) (idx : IndexMode) (u : Bool) (rn rd : Reg) (off : BitVec 8) (s : State) :
    Statement (.ldrsbImm c idx u rn rd off) s := effect_whenCond (leads_withoutPC (effect_loadForm ..))
theorem strdReg (c : Cond) (idx : IndexMode) (u : Bool) (rn rd rm : Reg) (s : State) :
    Statement (.strdReg c idx u rn rd rm) s := effect_whenCond (leads_withOffsetReg (effect_storePair ..))
theorem strdImm (c : Cond) (idx : IndexMode) (u : Bool) (rn rd : Reg) (off : BitVec 8) (s : State) :
    Statement (.strdImm c idx u rn rd off) s := effect_whenCond (effect_storePair ..)
theorem ldrshReg (c : Cond) (idx : IndexMode) (u : Bool) (rn rd rm : Reg) (s : State) :
    Statement (.ldrshReg c idx u rn rd rm) s :=
  effect_whenCond (leads_withOffsetReg (leads_withoutPC (effect_loadForm ..)))
theorem ldrshImm (c : Cond) (idx : IndexMode) (u : Bool) (rn rd : Reg) (off : BitVec 8) (s : State) :
    Statement (.ldrshImm c idx u rn rd off) s := effect_whenCond (leads_withoutPC (effect_loadForm ..))
theorem mrs (c : Cond) (r : Bool) (rd : Reg) (s : State) : Statement (.mrs c r rd) s := effect_mrs ..
theorem msrReg (c : Cond) (r : Bool) (mask : BitVec 4) (rm : Reg) (s : State) :
    Statement (.msrReg c r mask rm) s := effect_whenCond (leads_withoutPC (effect_msr ..))
theorem bx (c : Cond) (rm : Reg) (s : State) :
    Statement (.bx c rm) s := effect_whenCond ((State.Quiet.refl s).leads_branchExchange ..)
theorem clz (c : Cond) (rd rm : Reg) (s : State) :
    Statement (.clz c rd rm) s := effect_whenCond (leads_withoutPC (effect_finish (.refl _) ..))
theorem bxj (c : Cond) (rm : Reg) (s : State) :
    Statement (.bxj c rm) s := effect_whenCond ((State.Quiet.refl s).leads_branchExchange ..)
theorem blx2 (c : Cond) (rm : Reg) (s : State) :
    Statement (.blx2 c rm) s := effect_whenCond (leads_withoutPC ((s.quiet_writeReg ..).leads_branchExchange ..))
theorem qadd (c : Cond) (rn rd rm : Reg) (s : State) :
    Statement (.qadd c rn rd rm) s := effect_whenCond (leads_withoutPC (effect_saturatedResult ..))
theorem qsub (c : Cond) (rn rd rm : Reg) (s : State) :
    Statement (.qsub c rn rd rm) s := effect_whenCond (leads_withoutPC (effect_saturatedResult ..))
theorem qdadd (c : Cond) (rn rd rm : Reg) (s : State) :
    Statement (.qdadd c rn rd rm) s := effect_whenCond (leads_withoutPC (effect_saturatedResult ..))
theorem qdsub (c : Cond) (rn rd rm : Reg) (s : State) :
    Statement (.qdsub c rn rd rm) s := effect_whenCond (leads_withoutPC (effect_saturatedResult ..))
theorem bkpt (imm : BitVec 16) (s : State) : Statement (.bkpt imm) s := leads_next (effect_breakpoint ..)
theorem smlaxy (c : Cond) (rd rn rs : Reg) (y x : Bool) (rm : Reg) (s : State) :
    Statement (.smlaxy c rd rn rs y x rm) s := effect_whenCond (leads_withoutPC (effect_accumulate ..))
theorem smlawy (c : Cond) (rd rn rs : Reg) (y : Bool) (rm : Reg) (s : State) :
    Statement (.smlawy c rd rn rs y rm) s := effect_whenCond (leads_withoutPC (effect_accumulate ..))
theorem smulwy (c : Cond) (rd rs : Reg) (y : Bool) (rm : Reg) (s : State) :
    Statement (.smulwy c rd rs y rm) s := effect_whenCond (leads_withoutPC (effect_finish (.refl _) ..))
theorem smlalxy (c : Cond) (rdHi rdLo rs : Reg) (y x : Bool) (rm : Reg) (s : State) :
    Statement (.smlalxy c rdHi rdLo rs y x rm) s :=
  effect_whenCond (leads_withoutPC (leads_distinct (effect_finishPair (.refl _) ..)))
theorem smulxy (c : Cond) (rd rs : Reg) (y x : Bool) (rm : Reg) (s : State) :
    Statement (.smulxy c rd rs y x rm) s := effect_whenCond (leads_withoutPC (effect_finish (.refl _) ..))
theorem andShiftImm (c : Cond) (sf : Bool) (rn rd : Reg) (op : ImmShift) (s : State) :
    Statement (.andShiftImm c sf rn rd op) s := effect_whenCond (effect_dataResult ..)
theorem eorShiftImm (c : Cond) (sf : Bool) (rn rd : Reg) (op : ImmShift) (s : State) :
    Statement (.eorShiftImm c sf rn rd op) s := effect_whenCond (effect_dataResult ..)
theorem subShiftImm (c : Cond) (sf : Bool) (rn rd : Reg) (op : ImmShift) (s : State) :
    Statement (.subShiftImm c sf rn rd op) s := effect_whenCond (effect_dataResult ..)
theorem rsbShiftImm (c : Cond) (sf : Bool) (rn rd : Reg) (op : ImmShift) (s : State) :
    Statement (.rsbShiftImm c sf rn rd op) s := effect_whenCond (effect_dataResult ..)
theorem addShiftImm (c : Cond) (sf : Bool) (rn rd : Reg) (op : ImmShift) (s : State) :
    Statement (.addShiftImm c sf rn rd op) s := effect_whenCond (effect_dataResult ..)
theorem adcShiftImm (c : Cond) (sf : Bool) (rn rd : Reg) (op : ImmShift) (s : State) :
    Statement (.adcShiftImm c sf rn rd op) s := effect_whenCond (effect_dataResult ..)
theorem sbcShiftImm (c : Cond) (sf : Bool) (rn rd : Reg) (op : ImmShift) (s : State) :
    Statement (.sbcShiftImm c sf rn rd op) s := effect_whenCond (effect_dataResult ..)
theorem rscShiftImm (c : Cond) (sf : Bool) (rn rd : Reg) (op : ImmShift) (s : State) :
    Statement (.rscShiftImm c sf rn rd op) s := effect_whenCond (effect_dataResult ..)
theorem tstShiftImm (c : Cond) (rn : Reg) (op : ImmShift) (s : State) :
    Statement (.tstShiftImm c rn op) s := effect_whenCond (effect_compareResult ..)
theorem teqShiftImm (c : Cond) (rn : Reg) (op : ImmShift) (s : State) :
    Statement (.teqShiftImm c rn op) s := effect_whenCond (effect_compareResult ..)
theorem cmpShiftImm (c : Cond) (rn : Reg) (op : ImmShift) (s : State) :
    Statement (.cmpShiftImm c rn op) s := effect_whenCond (effect_compareResult ..)
theorem cmnShiftImm (c : Cond) (rn : Reg) (op : ImmShift) (s : State) :
    Statement (.cmnShiftImm c rn op) s := effect_whenCond (effect_compareResult ..)
theorem orrShiftImm (c : Cond) (sf : Bool) (rn rd : Reg) (op : ImmShift) (s : State) :
    Statement (.orrShiftImm c sf rn rd op) s := effect_whenCond (effect_dataResult ..)
theorem movShiftImm (c : Cond) (sf : Bool) (rd : Reg) (op : ImmShift) (s : State) :
    Statement (.movShiftImm c sf rd op) s := effect_whenCond (effect_dataResult ..)
theorem bicShiftImm (c : Cond) (sf : Bool) (rn rd : Reg) (op : ImmShift) (s : State) :
    Statement (.bicShiftImm c sf rn rd op) s := effect_whenCond (effect_dataResult ..)
theorem mvnShiftImm (c : Cond) (sf : Bool) (rd : Reg) (op : ImmShift) (s : State) :
    Statement (.mvnShiftImm c sf rd op) s := effect_whenCond (effect_dataResult ..)
theorem andShiftReg (c : Cond) (sf : Bool) (rn rd : Reg) (op : RegShift) (s : State) :
    Statement (.andShiftReg c sf rn rd op) s := effect_whenCond (leads_withoutPC (effect_dataResult ..))
theorem eorShiftReg (c : Cond) (sf : Bool) (rn rd : Reg) (op : RegShift) (s : State) :
    Statement (.eorShiftReg c sf rn rd op) s := effect_whenCond (leads_withoutPC (effect_dataResult ..))
theorem subShiftReg (c : Cond) (sf : Bool) (rn rd : Reg) (op : RegShift) (s : State) :
    Statement (.subShiftReg c sf rn rd op) s := effect_whenCond (leads_withoutPC (effect_dataResult ..))
theorem rsbShiftReg (c : Cond) (sf : Bool) (rn rd : Reg) (op : RegShift) (s : State) :
    Statement (.rsbShiftReg c sf rn rd op) s := effect_whenCond (leads_withoutPC (effect_dataResult ..))
theorem addShiftReg (c : Cond) (sf : Bool) (rn rd : Reg) (op : RegShift) (s : State) :
    Statement (.addShiftReg c sf rn rd op) s := effect_whenCond (leads_withoutPC (effect_dataResult ..))
theorem adcShiftReg (c : Cond) (sf : Bool) (rn rd : Reg) (op : RegShift) (s : State) :
    Statement (.adcShiftReg c sf rn rd op) s := effect_whenCond (leads_withoutPC (effect_dataResult ..))
theorem sbcShiftReg (c : Cond) (sf : Bool) (rn rd : Reg) (op : RegShift) (s : State) :
    Statement (.sbcShiftReg c sf rn rd op) s := effect_whenCond (leads_withoutPC (effect_dataResult ..))
theorem rscShiftReg (c : Cond) (sf : Bool) (rn rd : Reg) (op : RegShift) (s : State) :
    Statement (.rscShiftReg c sf rn rd op) s := effect_whenCond (leads_withoutPC (effect_dataResult ..))
theorem tstShiftReg (c : Cond) (rn : Reg) (op : RegShift) (s : State) :
    Statement (.tstShiftReg c rn op) s := effect_whenCond (leads_withoutPC (effect_compareResult ..))
theorem teqShiftReg (c : Cond) (rn : Reg) (op : RegShift) (s : State) :
    Statement (.teqShiftReg c rn op) s := effect_whenCond (leads_withoutPC (effect_compareResult ..))
theorem cmpShiftReg (c : Cond) (rn : Reg) (op : RegShift) (s : State) :
    Statement (.cmpShiftReg c rn op) s := effect_whenCond (leads_withoutPC (effect_compareResult ..))
theorem cmnShiftReg (c : Cond) (rn : Reg) (op : RegShift) (s : State) :
    Statement (.cmnShiftReg c rn op) s := effect_whenCond (leads_withoutPC (effect_compareResult ..))
theorem orrShiftReg (c : Cond) (sf : Bool) (rn rd : Reg) (op : RegShift) (s : State) :
    Statement (.orrShiftReg c sf rn rd op) s := effect_whenCond (leads_withoutPC (effect_dataResult ..))
theorem movShiftReg (c : Cond) (sf : Bool) (rd : Reg) (op : RegShift) (s : State) :
    Statement (.movShiftReg c sf rd op) s := effect_whenCond (leads_withoutPC (effect_dataResult ..))
theorem bicShiftReg (c : Cond) (sf : Bool) (rn rd : Reg) (op : RegShift) (s : State) :
    Statement (.bicShiftReg c sf rn rd op) s := effect_whenCond (leads_withoutPC (effect_dataResult ..))
theorem mvnShiftReg (c : Cond) (sf : Bool) (rd : Reg) (op : RegShift) (s : State) :
    Statement (.mvnShiftReg c sf rd op) s := effect_whenCond (leads_withoutPC (effect_dataResult ..))
theorem msrImm (c : Cond) (r : Bool) (mask : BitVec 4) (op : RotImm) (s : State) :
    Statement (.msrImm c r mask op) s := effect_whenCond (effect_msr ..)
theorem andImm (c : Cond) (sf : Bool) (rn rd : Reg) (op : RotImm) (s : State) :
    Statement (.andImm c sf rn rd op) s := effect_whenCond (effect_dataResult ..)
theorem eorImm (c : Cond) (sf : Bool) (rn rd : Reg) (op : RotImm) (s : State) :
    Statement (.eorImm c sf rn rd op) s := effect_whenCond (effect_dataResult ..)
theorem subImm (c : Cond) (sf : Bool) (rn rd : Reg) (op : RotImm) (s : State) :
    Statement (.subImm c sf rn rd op) s := effect_whenCond (effect_dataResult ..)
theorem rsbImm (c : Cond) (sf : Bool) (rn rd : Reg) (op : RotImm) (s : State) :
    Statement (.rsbImm c sf rn rd op) s := effect_whenCond (effect_dataResult ..)
theorem addImm (c : Cond) (sf : Bool) (rn rd : Reg) (op : RotImm) (s : State) :
    Statement (.addImm c sf rn rd op) s := effect_whenCond (effect_dataResult ..)
theorem adcImm (c : Cond) (sf : Bool) (rn rd : Reg) (op : RotImm) (s : State) :
    Statement (.adcImm c sf rn rd op) s := effect_whenCond (effect_dataResult ..)
theorem sbcImm (c : Cond) (sf : Bool) (rn rd : Reg) (op : RotImm) (s : State) :
    Statement (.sbcImm c sf rn rd op) s := effect_whenCond (effect_dataResult ..)
theorem rscImm (c : Cond) (sf : Bool) (rn rd : Reg) (op : RotImm) (s : State) :
    Statement (.rscImm c sf rn rd op) s := effect_whenCond (effect_dataResult ..)
theorem tstImm (c : Cond) (rn : Reg) (op : RotImm) (s : State) :
    Statement (.tstImm c rn op) s := effect_whenCond (effect_compareResult ..)
theorem teqImm (c : Cond) (rn : Reg) (op : RotImm) (s : State) :
    Statement (.teqImm c rn op) s := effect_whenCond (effect_compareResult ..)
theorem cmpImm (c : Cond) (rn : Reg) (op : RotImm) (s : State) :
    Statement (.cmpImm c rn op) s := effect_whenCond (effect_compareResult ..)
theorem cmnImm (c : Cond) (rn : Reg) (op : RotImm) (s : State) :
    Statement (.cmnImm c rn op) s := effect_whenCond (effect_compareResult ..)
theorem orrImm (c : Cond) (sf : Bool) (rn rd : Reg) (op : RotImm) (s : State) :
    Statement (.orrImm c sf rn rd op) s := effect_whenCond (effect_dataResult ..)
theorem movImm (c : Cond) (sf : Bool) (rd : Reg) (op : RotImm) (s : State) :
    Statement (.movImm c sf rd op) s := effect_whenCond (effect_dataResult ..)
theorem bicImm (c : Cond) (sf : Bool) (rn rd : Reg) (op : RotImm) (s : State) :
    Statement (.bicImm c sf rn rd op) s := effect_whenCond (effect_dataResult ..)
theorem mvnImm (c : Cond) (sf : Bool) (rd : Reg) (op : RotImm) (s : State) :
    Statement (.mvnImm c sf rd op) s := effect_whenCond (effect_dataResult ..)
theorem strtImm (c : Cond) (u : Bool) (rn rd : Reg) (imm : BitVec 12) (s : State) :
    Statement (.strtImm c u rn rd imm) s := effect_whenCond (leads_withoutPC (effect_storeForm ..))
theorem ldrtImm (c : Cond) (u : Bool) (rn rd : Reg) (imm : BitVec 12) (s : State) :
    Statement (.ldrtImm c u rn rd imm) s := effect_whenCond (leads_withoutPC (effect_loadForm ..))
theorem strbtImm (c : Cond) (u : Bool) (rn rd : Reg) (imm : BitVec 12) (s : State) :
    Statement (.strbtImm c u rn rd imm) s := effect_whenCond (leads_withoutPC (effect_storeForm ..))
theorem ldrbtImm (c : Cond) (u : Bool) (rn rd : Reg) (imm : BitVec 12) (s : State) :
    Statement (.ldrbtImm c u rn rd imm) s := effect_whenCond (leads_withoutPC (effect_loadForm ..))
theorem strImm (c : Cond) (idx : IndexMode) (u : Bool) (rn rd : Reg) (imm : BitVec 12) (s : State) :
    Statement (.strImm c idx u rn rd imm) s := effect_whenCond (effect_storeForm ..)
theorem ldrImm (c : Cond) (idx : IndexMode) (u : Bool) (rn rd : Reg) (imm : BitVec 12) (s : State) :
    Statement (.ldrImm c idx u rn rd imm) s := effect_whenCond (effect_loadForm ..)
theorem strbImm (c : Cond) (idx : IndexMode) (u : Bool) (rn rd : Reg) (imm : BitVec 12) (s : State) :
    Statement (.strbImm c idx u rn rd imm) s := effect_whenCond (leads_withoutPC (effect_storeForm ..))
theorem ldrbImm (c : Cond) (idx : IndexMode) (u : Bool) (rn rd : Reg) (imm : BitVec 12) (s : State) :
    Statement (.ldrbImm c idx u rn rd imm) s := effect_whenCond (leads_withoutPC (effect_loadForm ..))
theorem strtReg (c : Cond) (u : Bool) (rn rd : Reg) (op : ImmShift) (s : State) :
    Statement (.strtReg c u rn rd op) s :=
  effect_whenCond (leads_withOffsetReg (leads_withoutPC (effect_storeForm ..)))
theorem ldrtReg (c : Cond) (u : Bool) (rn rd : Reg) (op : ImmShift) (s : State) :
    Statement (.ldrtReg c u rn rd op) s :=
  effect_whenCond (leads_withOffsetReg (leads_withoutPC (effect_loadForm ..)))
theorem strbtReg (c : Cond) (u : Bool) (rn rd : Reg) (op : ImmShift) (s : State) :
    Statement (.strbtReg c u rn rd op) s :=
  effect_whenCond (leads_withOffsetReg (leads_withoutPC (effect_storeForm ..)))
theorem ldrbtReg (c : Cond) (u : Bool) (rn rd : Reg) (op : ImmShift) (s : State) :
    Statement (.ldrbtReg c u rn rd op) s :=
  effect_whenCond (leads_withOffsetReg (leads_withoutPC (effect_loadForm ..)))
theorem strReg (c : Cond) (idx : IndexMode) (u : Bool) (rn rd : Reg) (op : ImmShift) (s : State) :
    Statement (.strReg c idx u rn rd op) s := effect_whenCond (leads_withOffsetReg (effect_storeForm ..))
theorem ldrReg (c : Cond) (idx : IndexMode) (u : Bool) (rn rd : Reg) (op : ImmShift) (s : State) :
    Statement (.ldrReg c idx u rn rd op) s := effect_whenCond (leads_withOffsetReg (effect_loadForm ..))
theorem strbReg (c : Cond) (idx : IndexMode) (u : Bool) (rn rd : Reg) (op : ImmShift) (s : State) :
    Statement (.strbReg c idx u rn rd op) s :=
  effect_whenCond (leads_withOffsetReg (leads_withoutPC (effect_storeForm ..)))
theorem ldrbReg (c : Cond) (idx : IndexMode) (u : Bool) (rn rd : Reg) (op : ImmShift) (s : State) :
    Statement (.ldrbReg c idx u rn rd op) s :=
  effect_whenCond (leads_withOffsetReg (leads_withoutPC (effect_loadForm ..)))
theorem sadd16 (c : Cond) (rn rd rm : Reg) (s : State) :
    Statement (.sadd16 c rn rd rm) s := effect_whenCond (leads_withoutPC (effect_parallelResult ..))
theorem saddsubx (c : Cond) (rn rd rm : Reg) (s : State) :
    Statement (.saddsubx c rn rd rm) s := effect_whenCond (leads_withoutPC (effect_parallelResult ..))
theorem ssubaddx (c : Cond) (rn rd rm : Reg) (s : State) :
    Statement (.ssubaddx c rn rd rm) s := effect_whenCond (leads_withoutPC (effect_parallelResult ..))
theorem ssub16 (c : Cond) (rn rd rm : Reg) (s : State) :
    Statement (.ssub16 c rn rd rm) s := effect_whenCond (leads_withoutPC (effect_parallelResult ..))
theorem sadd8 (c : Cond) (rn rd rm : Reg) (s : State) :
    Statement (.sadd8 c rn rd rm) s := effect_whenCond (leads_withoutPC (effect_parallelResult ..))
theorem ssub8 (c : Cond) (rn rd rm : Reg) (s : State) :
    Statement (.ssub8 c rn rd rm) s := effect_whenCond (leads_withoutPC (effect_parallelResult ..))
theorem qadd16 (c : Cond) (rn rd rm : Reg) (s : State) :
    Statement (.qadd16 c rn rd rm) s := effect_whenCond (leads_withoutPC (effect_parallelResult ..))
theorem qaddsubx (c : Cond) (rn rd rm : Reg) (s : State) :
    Statement (.qaddsubx c rn rd rm) s := effect_whenCond (leads_withoutPC (effect_parallelResult ..))
theorem qsubaddx (c : Cond) (rn rd rm : Reg) (s : State) :
    Statement (.qsubaddx c rn rd rm) s := effect_whenCond (leads_withoutPC (effect_parallelResult ..))
theorem qsub16 (c : Cond) (rn rd rm : Reg) (s : State) :
    Statement (.qsub16 c rn rd rm) s := effect_whenCond (leads_withoutPC (effect_parallelResult ..))
theorem qadd8 (c : Cond) (rn rd rm : Reg) (s : State) :
    Statement (.qadd8 c rn rd rm) s := effect_whenCond (leads_withoutPC (effect_parallelResult ..))
theorem qsub8 (c : Cond) (rn rd rm : Reg) (s : State) :
    Statement (.qsub8 c rn rd rm) s := effect_whenCond (leads_withoutPC (effect_parallelResult ..))
theorem shadd16 (c : Cond) (rn rd rm : Reg) (s : State) :
    Statement (.shadd16 c rn rd rm) s := effect_whenCond (leads_withoutPC (effect_parallelResult ..))
theorem shaddsubx (c : Cond) (rn rd rm : Reg) (s : State) :
    Statement (.shaddsubx c rn rd rm) s := effect_whenCond (leads_withoutPC (effect_parallelResult ..))
theorem shsubaddx (c : Cond) (rn rd rm : Reg) (s : State) :
    Statement (.shsubaddx c rn rd rm) s := effect_whenCond (leads_withoutPC (effect_parallelResult ..))
theorem shsub16 (c : Cond) (rn rd rm : Reg) (s : State) :
    Statement (.shsub16 c rn rd rm) s := effect_whenCond (leads_withoutPC (effect_parallelResult ..))
theorem shadd8 (c : Cond) (rn rd rm : Reg) (s : State) :
    Statement (.shadd8 c rn rd rm) s := effect_whenCond (leads_withoutPC (effect_parallelResult ..))
theorem shsub8 (c : Cond) (rn rd rm : Reg) (s : State) :
    Statement (.shsub8 c rn rd rm) s := effect_whenCond (leads_withoutPC (effect_parallelResult ..))
theorem uadd16 (c : Cond) (rn rd rm : Reg) (s : State) :
    Statement (.uadd16 c rn rd rm) s := effect_whenCond (leads_withoutPC (effect_parallelResult ..))
theorem uaddsubx (c : Cond) (rn rd rm : Reg) (s : State) :
    Statement (.uaddsubx c rn rd rm) s := effect_whenCond (leads_withoutPC (effect_parallelResult ..))
theorem usubaddx (c : Cond) (rn rd rm : Reg) (s : State) :
    Statement (.usubaddx c rn rd rm) s := effect_whenCond (leads_withoutPC (effect_parallelResult ..))
theorem usub16 (c : Cond) (rn rd rm : Reg) (s : State) :
    Statement (.usub16 c rn rd rm) s := effect_whenCond (leads_withoutPC (effect_parallelResult ..))
theorem uadd8 (c : Cond) (rn rd rm : Reg) (s : State) :
    Statement (.uadd8 c rn rd rm) s := effect_whenCond (leads_withoutPC (effect_parallelResult ..))
theorem usub8 (c : Cond) (rn rd rm : Reg) (s : State) :
    Statement (.usub8 c rn rd rm) s := effect_whenCond (leads_withoutPC (effect_parallelResult ..))
theorem uqadd16 (c : Cond) (rn rd rm : Reg) (s : State) :
    Statement (.uqadd16 c rn rd rm) s := effect_whenCond (leads_withoutPC (effect_parallelResult ..))
theorem uqaddsubx (c : Cond) (rn rd rm : Reg) (s : State) :
    Statement (.uqaddsubx c rn rd rm) s := effect_whenCond (leads_withoutPC (effect_parallelResult ..))
theorem uqsubaddx (c : Cond) (rn rd rm : Reg) (s : State) :
    Statement (.uqsubaddx c rn rd rm) s := effect_whenCond (leads_withoutPC (effect_parallelResult ..))
theorem uqsub16 (c : Cond) (rn rd rm : Reg) (s : State) :
    Statement (.uqsub16 c rn rd rm) s := effect_whenCond (leads_withoutPC (effect_parallelResult ..))
theorem uqadd8 (c : Cond) (rn rd rm : Reg) (s : State) :
    Statement (.uqadd8 c rn rd rm) s := effect_whenCond (leads_withoutPC (effect_parallelResult ..))
theorem uqsub8 (c : Cond) (rn rd rm : Reg) (s : State) :
    Statement (.uqsub8 c rn rd rm) s := effect_whenCond (leads_withoutPC (effect_parallelResult ..))
theorem uhadd16 (c : Cond) (rn rd rm : Reg) (s : State) :
    Statement (.uhadd16 c rn rd rm) s := effect_whenCond (leads_withoutPC (effect_parallelResult ..))
theorem uhaddsubx (c : Cond) (rn rd rm : Reg) (s : State) :
    Statement (.uhaddsubx c rn rd rm) s := effect_whenCond (leads_withoutPC (effect_parallelResult ..))
theorem uhsubaddx (c : Cond) (rn rd rm : Reg) (s : State) :
    Statement (.uhsubaddx c rn rd rm) s := effect_whenCond (leads_withoutPC (effect_parallelResult ..))
theorem uhsub16 (c : Cond) (rn rd rm : Reg) (s : State) :
    Statement (.uhsub16 c rn rd rm) s := effect_whenCond (leads_withoutPC (effect_parallelResult ..))
theorem uhadd8 (c : Cond) (rn rd rm : Reg) (s : State) :
    Statement (.uhadd8 c rn rd rm) s := effect_whenCond (leads_withoutPC (effect_parallelResult ..))
theorem uhsub8 (c : Cond) (rn rd rm : Reg) (s : State) :
    Statement (.uhsub8 c rn rd rm) s := effect_whenCond (leads_withoutPC (effect_parallelResult ..))
theorem pkhbt (c : Cond) (rn rd : Reg) (imm : BitVec 5) (rm : Reg) (s : State) :
    Statement (.pkhbt c rn rd imm rm) s := effect_whenCond (leads_withoutPC (effect_finish (.refl _) ..))
theorem pkhtb (c : Cond) (rn rd : Reg) (imm : BitVec 5) (rm : Reg) (s : State) :
    Statement (.pkhtb c rn rd imm rm) s := effect_whenCond (leads_withoutPC (effect_finish (.refl _) ..))
theorem ssat (c : Cond) (sat : BitVec 5) (rd : Reg) (imm : BitVec 5) (sh : Bool) (rm : Reg) (s : State) :
    Statement (.ssat c sat rd imm sh rm) s := effect_whenCond (leads_withoutPC (effect_saturatedResult ..))
theorem usat (c : Cond) (sat : BitVec 5) (rd : Reg) (imm : BitVec 5) (sh : Bool) (rm : Reg) (s : State) :
    Statement (.usat c sat rd imm sh rm) s := effect_whenCond (leads_withoutPC (effect_saturatedResult ..))
theorem ssat16 (c : Cond) (sat : BitVec 4) (rd rm : Reg) (s : State) :
    Statement (.ssat16 c sat rd rm) s := effect_whenCond (leads_withoutPC (effect_saturatedHalves ..))
theorem usat16 (c : Cond) (sat : BitVec 4) (rd rm : Reg) (s : State) :
    Statement (.usat16 c sat rd rm) s := effect_whenCond (leads_withoutPC (effect_saturatedHalves ..))
theorem rev (c : Cond) (rd rm : Reg) (s : State) :
    Statement (.rev c rd rm) s := effect_whenCond (leads_withoutPC (effect_finish (.refl _) ..))
theorem rev16 (c : Cond) (rd rm : Reg) (s : State) :
    Statement (.rev16 c rd rm) s := effect_whenCond (leads_withoutPC (effect_finish (.refl _) ..))
theorem revsh (c : Cond) (rd rm : Reg) (s : State) :
    Statement (.revsh c rd rm) s := effect_whenCond (leads_withoutPC (effect_finish (.refl _) ..))
theorem sel (c : Cond) (rn rd rm : Reg) (s : State) :
    Statement (.sel c rn rd rm) s := effect_whenCond (leads_withoutPC (effect_finish (.refl _) ..))
theorem sxtb16 (c : Cond) (rd : Reg) (rot : BitVec 2) (rm : Reg) (s : State) :
    Statement (.sxtb16 c rd rot rm) s := effect_whenCond (leads_withoutPC (effect_finish (.refl _) ..))
theorem sxtab16 (c : Cond) (rn rd : Reg) (rot : BitVec 2) (rm : Reg) (s : State) :
    Statement (.sxtab16 c rn rd rot rm) s := effect_whenCond (leads_withoutPC (effect_finish (.refl _) ..))
theorem sxtb (c : Cond) (rd : Reg) (rot : BitVec 2) (rm : Reg) (s : State) :
    Statement (.sxtb c rd rot rm) s := effect_whenCond (leads_withoutPC (effect_finish (.refl _) ..))
theorem sxtab (c : Cond) (rn rd : Reg) (rot : BitVec 2) (rm : Reg) (s : State) :
    Statement (.sxtab c rn rd rot rm) s := effect_whenCond (leads_withoutPC (effect_finish (.refl _) ..))
theorem sxth (c : Cond) (rd : Reg) (rot : BitVec 2) (rm : Reg) (s : State) :
    Statement (.sxth c rd rot rm) s := effect_whenCond (leads_withoutPC (effect_finish (.refl _) ..))
theorem sxtah (c : Cond) (rn rd : Reg) (rot : BitVec 2) (rm : Reg) (s : State) :
    Statement (.sxtah c rn rd rot rm) s := effect_whenCond (leads_withoutPC (effect_finish (.refl _) ..))
theorem uxtb16 (c : Cond) (rd : Reg) (rot : BitVec 2) (rm : Reg) (s : State) :
    Statement (.uxtb16 c rd rot rm) s := effect_whenCond (leads_withoutPC (effect_finish (.refl _) ..))
theorem uxtab16 (c : Cond) (rn rd : Reg) (rot : BitVec 2) (rm : Reg) (s : State) :
    Statement (.uxtab16 c rn rd rot rm) s := effect_whenCond (leads_withoutPC (effect_finish (.refl _) ..))
theorem uxtb (c : Cond) (rd : Reg) (rot : BitVec 2) (rm : Reg) (s : State) :
    Statement (.uxtb c rd rot rm) s := effect_whenCond (leads_withoutPC (effect_finish (.refl _) ..))
theorem uxtab (c : Cond) (rn rd : Reg) (rot : BitVec 2) (rm : Reg) (s : State) :
    Statement (.uxtab c rn rd rot rm) s := effect_whenCond (leads_withoutPC (effect_finish (.refl _) ..))
theorem uxth (c : Cond) (rd : Reg) (rot : BitVec 2) (rm : Reg) (s : State) :
    Statement (.uxth c rd rot rm) s := effect_whenCond (leads_withoutPC (effect_finish (.refl _) ..))
theorem uxtah (c : Cond) (rn rd : Reg) (rot : BitVec 2) (rm : Reg) (s : State) :
    Statement (.uxtah c rn rd rot rm) s := effect_whenCond (leads_withoutPC (effect_finish (.refl _) ..))
theorem smuad (c : Cond) (rd rs : Reg) (x : Bool) (rm : Reg) (s : State) :
    Statement (.smuad c rd rs x rm) s := effect_whenCond (leads_withoutPC (effect_accumulate ..))
theorem smlad (c : Cond) (rd rn rs : Reg) (x : Bool) (rm : Reg) (s : State) :
    Statement (.smlad c rd rn rs x rm) s := effect_whenCond (leads_withoutPC (effect_accumulate ..))
theorem smusd (c : Cond) (rd rs : Reg) (x : Bool) (rm : Reg) (s : State) :
    Statement (.smusd c rd rs x rm) s := effect_whenCond (leads_withoutPC (effect_finish (.refl _) ..))
theorem smlsd (c : Cond) (rd rn rs : Reg) (x : Bool) (rm : Reg) (s : State) :
    Statement (.smlsd c rd rn rs x rm) s := effect_whenCond (leads_withoutPC (effect_accumulate ..))
theorem smlald (c : Cond) (rdHi rdLo rs : Reg) (x : Bool) (rm : Reg) (s : State) :
    Statement (.smlald c rdHi rdLo rs x rm) s :=
  effect_whenCond (leads_withoutPC (leads_distinct (effect_finishPair (.refl _) ..)))
theorem smlsld (c : Cond) (rdHi rdLo rs : Reg) (x : Bool) (rm : Reg) (s : State) :
    Statement (.smlsld c rdHi rdLo rs x rm) s :=
  effect_whenCond (leads_withoutPC (leads_distinct (effect_finishPair (.refl _) ..)))
theorem smmul (c : Cond) (rd rs : Reg) (r : Bool) (rm : Reg) (s : State) :
    Statement (.smmul c rd rs r rm) s := effect_whenCond (leads_withoutPC (effect_finish (.refl _) ..))
theorem smmla (c : Cond) (rd rn rs : Reg) (r : Bool) (rm : Reg) (s : State) :
    Statement (.smmla c rd rn rs r rm) s := effect_whenCond (leads_withoutPC (effect_finish (.refl _) ..))
theorem smmls (c : Cond) (rd rn rs : Reg) (r : Bool) (rm : Reg) (s : State) :
    Statement (.smmls c rd rn rs r rm) s := effect_whenCond (leads_withoutPC (effect_finish (.refl _) ..))
theorem usad8 (c : Cond) (rd rs rm : Reg) (s : State) :
    Statement (.usad8 c rd rs rm) s := effect_whenCond (leads_withoutPC (effect_finish (.refl _) ..))
theorem usada8 (c : Cond) (rd rn rs rm : Reg) (s : State) :
    Statement (.usada8 c rd rn rs rm) s := effect_whenCond (leads_withoutPC (effect_finish (.refl _) ..))
theorem ldm1 (c : Cond) (am : AddrMode4) (wb : Bool) (rn : Reg) (list : BitVec 16) (s : State) :
    Statement (.ldm1 c am wb rn list) s := effect_ldm1 ..
theorem ldm3 (c : Cond) (am : AddrMode4) (wb : Bool) (rn : Reg) (list : BitVec 15) (s : State) :
    Statement (.ldm3 c am wb rn list) s := effect_ldm3 ..
theorem ldm2 (c : Cond) (am : AddrMode4) (wb : Bool) (rn : Reg) (list : BitVec 15) (s : State) :
    Statement (.ldm2 c am wb rn list) s := effect_ldm2 ..
theorem stm1 (c : Cond) (am : AddrMode4) (wb : Bool) (rn : Reg) (list : BitVec 16) (s : State) :
    Statement (.stm1 c am wb rn list) s := effect_whenCond (leads_unless fun _ => effect_storeMultiple ..)
theorem stm2 (c : Cond) (am : AddrMode4) (wb : Bool) (rn : Reg) (list : BitVec 16) (s : State) :
    Statement (.stm2 c am wb rn list) s :=
  effect_whenCond (leads_unless fun _ => leads_unless fun _ => effect_storeMultiple ..)
theorem b (c : Cond) (imm : BitVec 24) (s : State) : Statement (.b c imm) s := effect_b ..
theorem bl (c : Cond) (imm : BitVec 24) (s : State) : Statement (.bl c imm) s := effect_bl ..
theorem mcrr (c : Cond) (rn rd : Reg) (cp op crm : BitVec 4) (s : State) :
    Statement (.mcrr c rn rd cp op crm) s := effect_whenCond (effect_coprocessor ..)
theorem mrrc (c : Cond) (rn rd : Reg) (cp op crm : BitVec 4) (s : State) :
    Statement (.mrrc c rn rd cp op crm) s := effect_whenCond (effect_coprocessor ..)
theorem stc (c : Cond) (p u n wb : Bool) (rn : Reg) (crd cp : BitVec 4) (off : BitVec 8) (s : State) :
    Statement (.stc c p u n wb rn crd cp off) s := effect_whenCond (effect_coprocessor ..)
theorem ldc (c : Cond) (p u n wb : Bool) (rn : Reg) (crd cp : BitVec 4) (off : BitVec 8) (s : State) :
    Statement (.ldc c p u n wb rn crd cp off) s := effect_whenCond (effect_coprocessor ..)
theorem cdp (c : Cond) (op1 crn crd cp : BitVec 4) (op2 : BitVec 3) (crm : BitVec 4) (s : State) :
    Statement (.cdp c op1 crn crd cp op2 crm) s := effect_whenCond (effect_coprocessor ..)
theorem mcr (c : Cond) (op1 : BitVec 3) (crn : BitVec 4) (rd : Reg) (cp : BitVec 4) (op2 : BitVec 3) (crm : BitVec 4) (s : State) :
    Statement (.mcr c op1 crn rd cp op2 crm) s := effect_mcr ..
theorem mrc (c : Cond) (op1 : BitVec 3) (crn : BitVec 4) (rd : Reg) (cp : BitVec 4) (op2 : BitVec 3) (crm : BitVec 4) (s : State) :
    Statement (.mrc c op1 crn rd cp op2 crm) s := effect_mrc ..
theorem swi (c : Cond) (imm : BitVec 24) (s : State) :
    Statement (.swi c imm) s := effect_whenCond (leads_next (effect_takeException ..))
theorem undefinedWord (w : Word) (s : State) : Statement (.undefinedWord w) s := effect_undefinedWord ..
theorem unpredictableWord (w : Word) (s : State) : Statement (.unpredictableWord w) s := effect_unpredictableWord ..

end InstrEffect

/-- What every instruction does has one of the forms of `Effect`. -/
theorem exec_effect (i : Instr) (s : State) : Leads (exec i s) (Effect (loadsCpsr i) s) := by
  cases i with
  | cps => exact InstrEffect.cps ..
  | setend => exact InstrEffect.setend ..
  | pldImm => exact InstrEffect.pldImm ..
  | pldReg => exact InstrEffect.pldReg ..
  | srs => exact InstrEffect.srs ..
  | rfe => exact InstrEffect.rfe ..
  | blx1 => exact InstrEffect.blx1 ..
  | mcrr2 => exact InstrEffect.mcrr2 ..
  | mrrc2 => exact InstrEffect.mrrc2 ..
  | stc2 => exact InstrEffect.stc2 ..
  | ldc2 => exact InstrEffect.ldc2 ..
  | cdp2 => exact InstrEffect.cdp2 ..
  | mcr2 => exact InstrEffect.mcr2 ..
  | mrc2 => exact InstrEffect.mrc2 ..
  | mul => exact InstrEffect.mul ..
  | mla => exact InstrEffect.mla ..
  | umaal => exact InstrEffect.umaal ..
  | umull => exact InstrEffect.umull ..
  | umlal => exact InstrEffect.umlal ..
  | smull => exact InstrEffect.smull ..
  | smlal => exact InstrEffect.smlal ..
  | swp => exact InstrEffect.swp ..
  | swpb => exact InstrEffect.swpb ..
  | strex => exact InstrEffect.strex ..
  | ldrex => exact InstrEffect.ldrex ..
  | strhReg => exact InstrEffect.strhReg ..
  | strhImm => exact InstrEffect.strhImm ..
  | ldrhReg => exact InstrEffect.ldrhReg ..
  | ldrhImm => exact InstrEffect.ldrhImm ..
  | ldrdReg => exact InstrEffect.ldrdReg ..
  | ldrdImm => exact InstrEffect.ldrdImm ..
  | ldrsbReg => exact InstrEffect.ldrsbReg ..
  | ldrsbImm => exact InstrEffect.ldrsbImm ..
  | strdReg => exact InstrEffect.strdReg ..
  | strdImm => exact InstrEffect.strdImm ..
  | ldrshReg => exact InstrEffect.ldrshReg ..
  | ldrshImm => exact InstrEffect.ldrshImm ..
  | mrs => exact InstrEffect.mrs ..
  | msrReg => exact InstrEffect.msrReg ..
  | bx => exact InstrEffect.bx ..
  | clz => exact InstrEffect.clz ..
  | bxj => exact InstrEffect.bxj ..
  | blx2 => exact InstrEffect.blx2 ..
  | qadd => exact InstrEffect.qadd ..
  | qsub => exact InstrEffect.qsub ..
  | qdadd => exact InstrEffect.qdadd ..
  | qdsub => exact InstrEffect.qdsub ..
  | bkpt => exact InstrEffect.bkpt ..
  | smlaxy => exact InstrEffect.smlaxy ..
  | smlawy => exact InstrEffect.smlawy ..
  | smulwy => exact InstrEffect.smulwy ..
  | smlalxy => exact InstrEffect.smlalxy ..
  | smulxy => exact InstrEffect.smulxy ..
  | andShiftImm => exact InstrEffect.andShiftImm ..
  | eorShiftImm => exact InstrEffect.eorShiftImm ..
  | subShiftImm => exact InstrEffect.subShiftImm ..
  | rsbShiftImm => exact InstrEffect.rsbShiftImm ..
  | addShiftImm => exact InstrEffect.addShiftImm ..
  | adcShiftImm => exact InstrEffect.adcShiftImm ..
  | sbcShiftImm => exact InstrEffect.sbcShiftImm ..
  | rscShiftImm => exact InstrEffect.rscShiftImm ..
  | tstShiftImm => exact InstrEffect.tstShiftImm ..
  | teqShiftImm => exact InstrEffect.teqShiftImm ..
  | cmpShiftImm => exact InstrEffect.cmpShiftImm ..
  | cmnShiftImm => exact InstrEffect.cmnShiftImm ..
  | orrShiftImm => exact InstrEffect.orrShiftImm ..
  | movShiftImm => exact InstrEffect.movShiftImm ..
  | bicShiftImm => exact InstrEffect.bicShiftImm ..
  | mvnShiftImm => exact InstrEffect.mvnShiftImm ..
  | andShiftReg => exact InstrEffect.andShiftReg ..
  | eorShiftReg => exact InstrEffect.eorShiftReg ..
  | subShiftReg => exact InstrEffect.subShiftReg ..
  | rsbShiftReg => exact InstrEffect.rsbShiftReg ..
  | addShiftReg => exact InstrEffect.addShiftReg ..
  | adcShiftReg => exact InstrEffect.adcShiftReg ..
  | sbcShiftReg => exact InstrEffect.sbcShiftReg ..
  | rscShiftReg => exact InstrEffect.rscShiftReg ..
  | tstShiftReg => exact InstrEffect.tstShiftReg ..
  | teqShiftReg => exact InstrEffect.teqShiftReg ..
  | cmpShiftReg => exact InstrEffect.cmpShiftReg ..
  | cmnShiftReg => exact InstrEffect.cmnShiftReg ..
  | orrShiftReg => exact InstrEffect.orrShiftReg ..
  | movShiftReg => exact InstrEffect.movShiftReg ..
  | bicShiftReg => exact InstrEffect.bicShiftReg ..
  | mvnShiftReg => exact InstrEffect.mvnShiftReg ..
  | msrImm => exact InstrEffect.msrImm ..
  | andImm => exact InstrEffect.andImm ..
  | eorImm => exact InstrEffect.eorImm ..
  | subImm => exact InstrEffect.subImm ..
  | rsbImm => exact InstrEffect.rsbImm ..
  | addImm => exact InstrEffect.addImm ..
  | adcImm => exact InstrEffect.adcImm ..
  | sbcImm => exact InstrEffect.sbcImm ..
  | rscImm => exact InstrEffect.rscImm ..
  | tstImm => exact InstrEffect.tstImm ..
  | teqImm => exact InstrEffect.teqImm ..
  | cmpImm => exact InstrEffect.cmpImm ..
  | cmnImm => exact InstrEffect.cmnImm ..
  | orrImm => exact InstrEffect.orrImm ..
  | movImm => exact InstrEffect.movImm ..
  | bicImm => exact InstrEffect.bicImm ..
  | mvnImm => exact InstrEffect.mvnImm ..
  | strtImm => exact InstrEffect.strtImm ..
  | ldrtImm => exact InstrEffect.ldrtImm ..
  | strbtImm => exact InstrEffect.strbtImm ..
  | ldrbtImm => exact InstrEffect.ldrbtImm ..
  | strImm => exact InstrEffect.strImm ..
  | ldrImm => exact InstrEffect.ldrImm ..
  | strbImm => exact InstrEffect.strbImm ..
  | ldrbImm => exact InstrEffect.ldrbImm ..
  | strtReg => exact InstrEffect.strtReg ..
  | ldrtReg => exact InstrEffect.ldrtReg ..
  | strbtReg => exact InstrEffect.strbtReg ..
  | ldrbtReg => exact InstrEffect.ldrbtReg ..
  | strReg => exact InstrEffect.strReg ..
  | ldrReg => exact InstrEffect.ldrReg ..
  | strbReg => exact InstrEffect.strbReg ..
  | ldrbReg => exact InstrEffect.ldrbReg ..
  | sadd16 => exact InstrEffect.sadd16 ..
  | saddsubx => exact InstrEffect.saddsubx ..
  | ssubaddx => exact InstrEffect.ssubaddx ..
  | ssub16 => exact InstrEffect.ssub16 ..
  | sadd8 => exact InstrEffect.sadd8 ..
  | ssub8 => exact InstrEffect.ssub8 ..
  | qadd16 => exact InstrEffect.qadd16 ..
  | qaddsubx => exact InstrEffect.qaddsubx ..
  | qsubaddx => exact InstrEffect.qsubaddx ..
  | qsub16 => exact InstrEffect.qsub16 ..
  | qadd8 => exact InstrEffect.qadd8 ..
  | qsub8 => exact InstrEffect.qsub8 ..
  | shadd16 => exact InstrEffect.shadd16 ..
  | shaddsubx => exact InstrEffect.shaddsubx ..
  | shsubaddx => exact InstrEffect.shsubaddx ..
  | shsub16 => exact InstrEffect.shsub16 ..
  | shadd8 => exact InstrEffect.shadd8 ..
  | shsub8 => exact InstrEffect.shsub8 ..
  | uadd16 => exact InstrEffect.uadd16 ..
  | uaddsubx => exact InstrEffect.uaddsubx ..
  | usubaddx => exact InstrEffect.usubaddx ..
  | usub16 => exact InstrEffect.usub16 ..
  | uadd8 => exact InstrEffect.uadd8 ..
  | usub8 => exact InstrEffect.usub8 ..
  | uqadd16 => exact InstrEffect.uqadd16 ..
  | uqaddsubx => exact InstrEffect.uqaddsubx ..
  | uqsubaddx => exact InstrEffect.uqsubaddx ..
  | uqsub16 => exact InstrEffect.uqsub16 ..
  | uqadd8 => exact InstrEffect.uqadd8 ..
  | uqsub8 => exact InstrEffect.uqsub8 ..
  | uhadd16 => exact InstrEffect.uhadd16 ..
  | uhaddsubx => exact InstrEffect.uhaddsubx ..
  | uhsubaddx => exact InstrEffect.uhsubaddx ..
  | uhsub16 => exact InstrEffect.uhsub16 ..
  | uhadd8 => exact InstrEffect.uhadd8 ..
  | uhsub8 => exact InstrEffect.uhsub8 ..
  | pkhbt => exact InstrEffect.pkhbt ..
  | pkhtb => exact InstrEffect.pkhtb ..
  | ssat => exact InstrEffect.ssat ..
  | usat => exact InstrEffect.usat ..
  | ssat16 => exact InstrEffect.ssat16 ..
  | usat16 => exact InstrEffect.usat16 ..
  | rev => exact InstrEffect.rev ..
  | rev16 => exact InstrEffect.rev16 ..
  | revsh => exact InstrEffect.revsh ..
  | sel => exact InstrEffect.sel ..
  | sxtb16 => exact InstrEffect.sxtb16 ..
  | sxtab16 => exact InstrEffect.sxtab16 ..
  | sxtb => exact InstrEffect.sxtb ..
  | sxtab => exact InstrEffect.sxtab ..
  | sxth => exact InstrEffect.sxth ..
  | sxtah => exact InstrEffect.sxtah ..
  | uxtb16 => exact InstrEffect.uxtb16 ..
  | uxtab16 => exact InstrEffect.uxtab16 ..
  | uxtb => exact InstrEffect.uxtb ..
  | uxtab => exact InstrEffect.uxtab ..
  | uxth => exact InstrEffect.uxth ..
  | uxtah => exact InstrEffect.uxtah ..
  | smuad => exact InstrEffect.smuad ..
  | smlad => exact InstrEffect.smlad ..
  | smusd => exact InstrEffect.smusd ..
  | smlsd => exact InstrEffect.smlsd ..
  | smlald => exact InstrEffect.smlald ..
  | smlsld => exact InstrEffect.smlsld ..
  | smmul => exact InstrEffect.smmul ..
  | smmla => exact InstrEffect.smmla ..
  | smmls => exact InstrEffect.smmls ..
  | usad8 => exact InstrEffect.usad8 ..
  | usada8 => exact InstrEffect.usada8 ..
  | ldm1 => exact InstrEffect.ldm1 ..
  | ldm3 => exact InstrEffect.ldm3 ..
  | ldm2 => exact InstrEffect.ldm2 ..
  | stm1 => exact InstrEffect.stm1 ..
  | stm2 => exact InstrEffect.stm2 ..
  | b => exact InstrEffect.b ..
  | bl => exact InstrEffect.bl ..
  | mcrr => exact InstrEffect.mcrr ..
  | mrrc => exact InstrEffect.mrrc ..
  | stc => exact InstrEffect.stc ..
  | ldc => exact InstrEffect.ldc ..
  | cdp => exact InstrEffect.cdp ..
  | mcr => exact InstrEffect.mcr ..
  | mrc => exact InstrEffect.mrc ..
  | swi => exact InstrEffect.swi ..
  | undefinedWord => exact InstrEffect.undefinedWord ..
  | unpredictableWord => exact InstrEffect.unpredictableWord ..

end Sys2Proof.Machine

/-!
The Reset input: the arbitrary TLBs it leaves (R802) are in bounds, hold no locked entry and no two that overlap.
-/

namespace Sys2Proof.Machine

open Sys2Proof

/-- One slot of the arbitrary TLB of R802, after the slots before it. -/
def keepSlot (c : Params) (acc : List (Option TlbEntry)) (x : Option TlbEntry) : List (Option TlbEntry) :=
  match x with
  | none => acc ++ [none]
  | some e =>
    acc ++ [if acc.any (fun y => match y with | some e' => entriesOverlap e e' | none => false) then none
      else some { e with locked := false, pa := physicalWidth c e.pa }]

/-- The slots of the arbitrary TLB that stand for the drawn ones. -/
def keptSlots (c : Params) (raw : List (Option TlbEntry)) : List (Option TlbEntry) := raw.foldl (keepSlot c) []

theorem anyTlbSlots_eq (c : Params) (n : Nat) :
    anyTlbSlots c n = keptSlots c ((Config.anyTlb n).take c.tlbEntries)
      ++ List.replicate (c.tlbEntries - (keptSlots c ((Config.anyTlb n).take c.tlbEntries)).length) none := rfl

/-- What R802 says of the slots of a TLB after Reset, with the width of the physical addresses (R80). -/
structure FreshSlots (c : Params) (l : List (Option TlbEntry)) : Prop where
  unlocked : ∀ e, some e ∈ l → e.locked = false
  inRange : ∀ e, some e ∈ l → TlbEntry.InRange e c
  apart : (l.filterMap id).Pairwise fun x y => entriesOverlap x y = false

theorem physicalWidth_inRange (c : Params) (pa : BitVec 40) :
    (physicalWidth c pa).toNat < 2 ^ (32 + c.paExtraBits) := by
  unfold physicalWidth
  rw [BitVec.toNat_ofNat]
  exact (Nat.mod_le _ _).trans_lt (Nat.mod_lt _ (Nat.two_pow_pos _))

theorem entriesOverlap_comm (x y : TlbEntry) : entriesOverlap x y = entriesOverlap y x := by
  unfold entriesOverlap
  dsimp only
  rw [Nat.max_comm, Bool.or_comm x.global, Bool.beq_comm, @Bool.beq_comm _ _ _ x.asid]

/-- Overlapping is about the blocks and the application spaces alone. -/
theorem entriesOverlap_congr (x y : TlbEntry) (locked : Bool) (pa : BitVec 40) :
    entriesOverlap x { y with locked := locked, pa := pa } = entriesOverlap x y := rfl

theorem FreshSlots.nil (c : Params) : FreshSlots c [] := ⟨by simp, by simp, by simp⟩

theorem FreshSlots.keep {c : Params} {acc : List (Option TlbEntry)} (h : FreshSlots c acc) (x : Option TlbEntry) :
    FreshSlots c (keepSlot c acc x) ∧ (keepSlot c acc x).length = acc.length + 1 := by
  have hnone : FreshSlots c (acc ++ [none]) :=
    ⟨by simpa using h.unlocked, by simpa using h.inRange, by simpa using h.apart⟩
  unfold keepSlot
  cases x with
  | none => exact ⟨hnone, by simp⟩
  | some e =>
    dsimp only
    refine ⟨?_, by simp⟩
    split
    · exact hnone
    rename_i hover
    have hfree : ∀ y, some y ∈ acc → entriesOverlap e y = false := by
      intro y hy
      by_contra hc
      exact hover (List.any_eq_true.2 ⟨some y, hy, by simpa using hc⟩)
    refine ⟨fun y hy => ?_, fun y hy => ?_, ?_⟩
    · obtain hy | hy := List.mem_append.1 hy
      · exact h.unlocked y hy
      · obtain rfl : y = _ := by simpa using hy
        rfl
    · obtain hy | hy := List.mem_append.1 hy
      · exact h.inRange y hy
      · obtain rfl : y = _ := by simpa using hy
        exact physicalWidth_inRange c e.pa
    · rw [List.filterMap_append, List.pairwise_append]
      refine ⟨h.apart, by simp, fun y hy z hz => ?_⟩
      obtain rfl : z = _ := by simpa using hz
      rw [entriesOverlap_congr, entriesOverlap_comm]
      exact hfree y (by simpa using hy)

theorem FreshSlots.foldl {c : Params} (raw : List (Option TlbEntry)) {acc : List (Option TlbEntry)}
    (h : FreshSlots c acc) :
    FreshSlots c (raw.foldl (keepSlot c) acc) ∧ (raw.foldl (keepSlot c) acc).length = acc.length + raw.length := by
  induction raw generalizing acc with
  | nil => exact ⟨h, rfl⟩
  | cons x xs ih =>
    obtain ⟨hk, hl⟩ := h.keep x
    obtain ⟨hf, hfl⟩ := ih hk
    refine ⟨hf, ?_⟩
    rw [List.foldl_cons, hfl, hl, List.length_cons]
    omega

theorem anyTlbSlots_fresh (c : Params) (n : Nat) :
    FreshSlots c (anyTlbSlots c n) ∧ (anyTlbSlots c n).length = c.tlbEntries := by
  obtain ⟨hf, hl⟩ := (FreshSlots.nil c).foldl ((Config.anyTlb n).take c.tlbEntries)
  rw [anyTlbSlots_eq]
  change FreshSlots c (keptSlots c _) at hf
  change (keptSlots c _).length = _ at hl
  generalize keptSlots c ((Config.anyTlb n).take c.tlbEntries) = kept at hf hl ⊢
  have hle : kept.length ≤ c.tlbEntries := by
    rw [hl, List.length_take, List.length_nil]
    omega
  refine ⟨⟨?_, ?_, ?_⟩, ?_⟩
  · simpa using hf.unlocked
  · simpa using hf.inRange
  · simpa [List.filterMap_append, List.filterMap_replicate] using hf.apart
  · rw [List.length_append, List.length_replicate]
    omega

/-- The entries of the TLB after a Reset are those of its slots. -/
theorem anyTlb_entries (c : Params) (n slots register : Nat) :
    (anyTlb c n slots register).entries = (anyTlbSlots c slots).filterMap id := by
  unfold anyTlb Tlb.entries
  dsimp only
  split <;> simp

theorem anyTlb_bounded {c : Params} (hc : 0 < c.tlbEntries) (n slots register : Nat) :
    (anyTlb c n slots register).Bounded c n := by
  obtain ⟨hf, hl⟩ := anyTlbSlots_fresh c slots
  refine ⟨hl, ?_, ?_, ?_, fun h => ?_, fun h => ?_, fun e he => ?_⟩
  · unfold anyTlb
    dsimp only
    split
    · exact List.length_replicate
    · rfl
  · unfold anyTlb
    dsimp only
    split
    · exact hc
    · exact Nat.mod_lt _ hc
  · unfold anyTlb
    dsimp only
    split
    · rename_i h
      have hn : n ≠ 0 := by
        simp only [Bool.and_eq_true, bne_iff_ne, ne_eq] at h
        exact h.2.2
      have hpos : 0 < dedicatedSlots c n := Nat.lt_min.2 ⟨by omega, Nat.two_pow_pos _⟩
      exact (Nat.mod_lt _ hpos).trans_le (Nat.min_le_right _ _)
    · exact (Nat.mod_lt _ hc).trans_le (lockWidth_bound _)
  · simp [anyTlb, h]
  · simp [anyTlb, h]
  · rw [anyTlb_entries] at he
    exact hf.inRange e (by simpa using he)

theorem resetInput_bounded {s : State} (h : s.Bounded) : s.resetInput.Bounded :=
  ⟨h.1, anyTlb_bounded h.1 .., anyTlb_bounded h.1 .., Nat.zero_le _, Nat.le_refl _, fun _ => rfl,
    recorded_of_no_write rfl⟩

theorem vectorBase_aligned (ctl : Word) : (vectorBase ctl).extractLsb' 0 2 = 0#2 := by
  unfold vectorBase
  split <;> rfl

theorem resetInput_inv {s : State} (h : s.mem.wf = true) : s.resetInput.Inv :=
  ⟨h, rfl, rfl, rfl, vectorBase_aligned _⟩

end Sys2Proof.Machine

/-!
The invariants of a run along one step, that Q is sticky, and the confinement of User mode: each is read off what an
instruction can do.
-/

namespace Sys2Proof.Machine

open Sys2Proof

/-! ### A boundary and an instruction -/

/-- The state at the boundary, with what the outside signals there taken in. -/
def State.atBoundary (s : State) : State := s.popInput.2.raiseImprecise s.popInput.1.imprecise

/-- The four things a step can be: a Reset, an asynchronous exception, an instruction, or the abort of its fetch. -/
theorem step_cases {s t : State} (h : step s = .next t) :
    t = s.atBoundary.resetInput
      ∨ (∃ k link, t = s.atBoundary.takeException k link)
      ∨ (0 < s.atBoundary.pendingImprecise ∧ t = s.atBoundary.impreciseAbort)
      ∨ stepInstruction s.atBoundary = .next t := by
  change (if s.popInput.1.reset then .next s.atBoundary.resetInput
    else match s.atBoundary.asynchronous s.popInput.1 with
      | some t => .next t
      | none => stepInstruction s.atBoundary) = Host.Outcome.next t at h
  generalize s.atBoundary = u at h ⊢
  split at h
  · cases h; exact .inl rfl
  split at h
  · rename_i v hv
    cases h
    unfold State.asynchronous at hv
    split at hv
    · cases hv; exact .inr (.inl ⟨_, _, rfl⟩)
    split at hv
    · cases hv; exact .inr (.inl ⟨_, _, rfl⟩)
    split at hv
    · rename_i hp
      cases hv
      simp only [Bool.and_eq_true, decide_eq_true_eq] at hp
      exact .inr (.inr (.inl ⟨hp.1, rfl⟩))
    · cases hv
  · exact .inr (.inr (.inr h))

/-- An instruction of a run: accesses, then the exception of an aborted fetch or the effect of an instruction. -/
theorem stepInstruction_cases {s t : State} (h : stepInstruction s = .next t) :
    ∃ u, s.Accessed u ∧ ∃ loads, Effect loads u t := by
  unfold stepInstruction at h
  have hf := fetch_accessed s
  cases hx : fetch s with
  | ok w u =>
    rw [hx] at h
    exact ⟨u, hf.ok hx, _, (exec_effect (decode w) u).next t h⟩
  | abort i u =>
    rw [hx] at h
    cases h
    refine ⟨u, hf.abort hx, false, ?_⟩
    exact .exception (.refl u) .prefetchAbort _ u.regs u.dfsr _ u.far _ u.draws
  | fault f => rw [hx] at h; cases h
  | refused r => rw [hx] at h; cases h

/-! ### Canonical memory, a legal mode, ARM state and an aligned pc -/

/-- The boundary changes the inputs and the pending aborts alone. -/
theorem atBoundary_core (s : State) :
    s.atBoundary.mem = s.mem ∧ s.atBoundary.cpsr = s.cpsr ∧ s.atBoundary.pc = s.pc ∧ s.atBoundary.cfg = s.cfg := by
  unfold State.atBoundary State.raiseImprecise State.popInput
  split <;> split <;> exact ⟨rfl, rfl, rfl, rfl⟩

theorem Mode.ofBits_bits_isSome (m : Mode) : (Mode.ofBits m.bits).isSome = true := by rw [Mode.ofBits_bits]; rfl

theorem vector_aligned (ctl : Word) (k : ExceptionKind) : (vectorBase ctl + k.offset).extractLsb' 0 2 = 0#2 := by
  unfold vectorBase
  cases k <;> split <;> rfl

theorem takeException_inv {s : State} (hm : s.mem.wf = true) (hj : s.cpsr.j = false) (k : ExceptionKind) (link : Word) :
    (s.takeException k link).Inv :=
  ⟨hm, Mode.ofBits_bits_isSome k.mode, rfl, hj, vector_aligned ..⟩

theorem State.Quiet.inv {s t : State} (h : s.Quiet t) (hs : s.Inv) : t.Inv := by
  obtain ⟨hmem, hm, ht, hj, hpc⟩ := hs
  exact ⟨h.memory hmem, h.flags.m ▸ hm, h.flags.t.trans ht, h.flags.j.trans hj, h.aligned hpc⟩

theorem State.impreciseAbort_eq (s : State) :
    s.impreciseAbort = ({ s.draw.2 with
      pendingImprecise := s.pendingImprecise - 1
      pendingParity :=
        if decide (s.pendingImprecise ≤ s.pendingParity) then s.pendingParity - 1 else s.pendingParity
      dfsr := dfsrValue (s.draw.1.getLsbD 4)
        (if decide (s.pendingImprecise ≤ s.pendingParity) then 0b11000#5 else 0b10110#5)
        (s.draw.1.setWidth 4) } : State).takeException .dataAbort (s.pc + 8) := rfl

theorem impreciseAbort_inv {s : State} (hm : s.mem.wf = true) (hj : s.cpsr.j = false) : s.impreciseAbort.Inv := by
  rw [State.impreciseAbort_eq]
  exact takeException_inv hm hj .dataAbort (s.pc + 8)

theorem Effect.inv {loads : Bool} {s t : State} (h : Effect loads s t) (hs : s.Inv) : t.Inv := by
  obtain ⟨hmem, hm, ht, hj, hpc⟩ := hs
  cases h with
  | quiet h => exact h.inv ⟨hmem, hm, ht, hj, hpc⟩
  | exception ha k link => exact takeException_inv (ha.1.memory hmem) (ha.1.flags.j.trans hj) k link
  | returns _ _ h hp v => exact ⟨h.memory hmem, hp.1, hp.2.1, hp.2.2, aligned_mask v⟩
  | status hm ht' hj' _ _ => exact ⟨hmem, hm, ht'.trans ht, hj'.trans hj, aligned_add_four hpc⟩
  | savedStatus => exact ⟨hmem, hm, ht, hj, aligned_add_four hpc⟩
  | system _ _ hp hpc' hm' _ =>
    refine ⟨hm'.symm ▸ hmem, ?_, ?_, ?_, aligned_add_four (hpc'.symm ▸ hpc)⟩
    · exact hp.symm ▸ hm
    · exact hp.symm ▸ ht
    · exact hp.symm ▸ hj

/-- Settles O6: a Reset and an exception establish the invariant, and an instruction keeps it in each form of its
effect. -/
theorem invKept : Obligations.InvKept := by
  intro s t hs h
  obtain ⟨emem, ecpsr, epc, -⟩ := atBoundary_core s
  have hb : s.atBoundary.Inv := by
    unfold State.Inv
    rw [emem, ecpsr, epc]
    exact hs
  obtain ⟨hmem, -, -, hj, -⟩ := id hb
  obtain rfl | ⟨k, link, rfl⟩ | ⟨-, rfl⟩ | h := step_cases h
  · exact resetInput_inv hmem
  · exact takeException_inv hmem hj k link
  · exact impreciseAbort_inv hmem hj
  · obtain ⟨u, hu, _, he⟩ := stepInstruction_cases h
    exact he.inv (hu.1.inv hb)

/-! ### Bounds -/

theorem takeException_bounded {s : State} (h : s.Bounded) (k : ExceptionKind) (link : Word) :
    (s.takeException k link).Bounded := h.closeWindows.of_same rfl rfl rfl rfl rfl rfl rfl

theorem Effect.bounded {loads : Bool} {s t : State} (h : Effect loads s t) (hs : s.Bounded) :
    t.Bounded ∧ t.cfg = s.cfg := by
  cases h with
  | quiet h => exact ⟨h.bounded hs, h.cfg⟩
  | exception ha k link =>
    exact ⟨takeException_bounded ((ha.1.bounded hs).of_same rfl rfl rfl rfl rfl rfl rfl) k link, ha.1.cfg⟩
  | returns _ _ h hp v => exact ⟨(h.bounded hs).closeWindows.of_same rfl rfl rfl rfl rfl rfl rfl, h.cfg⟩
  | status => exact ⟨hs.of_same rfl rfl rfl rfl rfl rfl rfl, rfl⟩
  | savedStatus => exact ⟨hs.of_same rfl rfl rfl rfl rfl rfl rfl, rfl⟩
  | system _ hc _ _ _ hb => exact ⟨(hb hs).of_same rfl rfl rfl rfl rfl rfl rfl, hc⟩

theorem atBoundary_bounded {s : State} (h : s.Bounded) : s.atBoundary.Bounded := by
  have hp : s.popInput.2.Bounded := by
    unfold State.popInput
    split
    · exact h
    · exact h.of_same rfl rfl rfl rfl rfl rfl rfl
  unfold State.atBoundary State.raiseImprecise
  split
  · rename_i hr
    simp only [Bool.and_eq_true] at hr
    exact hp.pend (by simp [impreciseAborts, hr.2]) false
  · exact hp

theorem impreciseAbort_bounded {s : State} (h : s.Bounded) (hp : 0 < s.pendingImprecise) :
    s.impreciseAbort.Bounded := by
  obtain ⟨b1, b2, b3, b4, b5, b6, b7⟩ := h
  rw [State.impreciseAbort_eq]
  refine takeException_bounded ?_ .dataAbort (s.pc + 8)
  refine ⟨b1, b2, b3, ?_, ?_, fun hi => ?_, b7⟩
  · exact (Nat.sub_le _ _).trans b4
  · show (if decide (s.pendingImprecise ≤ s.pendingParity) then s.pendingParity - 1 else s.pendingParity)
      ≤ s.pendingImprecise - 1
    split
    · omega
    · rename_i h
      rw [decide_eq_true_eq] at h
      omega
  · exact absurd (b6 hi) hp.ne'

/-- Settles O7: as for `invKept`, with the bounds of the TLBs and of the pending aborts. -/
theorem boundedKept : Obligations.BoundedKept := by
  intro s t hs h
  have hcfg : s.atBoundary.cfg = s.cfg := (atBoundary_core s).2.2.2
  have hb := atBoundary_bounded hs
  rw [← hcfg]
  obtain rfl | ⟨k, link, rfl⟩ | ⟨hp, rfl⟩ | h := step_cases h
  · exact ⟨resetInput_bounded hb, rfl⟩
  · exact ⟨takeException_bounded hb k link, rfl⟩
  · exact ⟨impreciseAbort_bounded hb hp, rfl⟩
  · obtain ⟨u, hu, _, he⟩ := stepInstruction_cases h
    obtain ⟨hbd, hc⟩ := he.bounded (hu.1.bounded hb)
    exact ⟨hbd, hc.trans hu.1.cfg⟩

/-! ### Q and User mode -/

/-- Settles O26: only a return from an exception and MSR can clear Q, and both load the CPSR. -/
theorem qSticky : Obligations.QSticky := by
  intro i s t hl h hq
  have he := (exec_effect i s).next t h
  rw [hl] at he
  clear h
  cases he with
  | quiet h => exact h.flags.q hq
  | exception ha => exact ha.1.flags.q hq
  | returns hl => exact absurd hl (by decide)
  | status _ _ _ _ hk => exact (hk rfl).trans hq
  | savedStatus => exact hq
  | system _ _ hp => exact hp.symm ▸ hq

/-- Settles O34: what User mode can do is quiet, or an exception; the other forms of an effect are privileged, but for a
write of the CPSR, which in User mode leaves the mode and the masks. -/
theorem userModeConfined : Obligations.UserModeConfined := by
  intro i s t hm h
  have hs : s.mode = .usr := by simp [State.mode, hm, Mode.ofBits]
  have he := (exec_effect i s).next t h
  clear h
  cases he with
  | quiet h =>
    refine .inl ⟨h.flags.m, h.flags.a, h.flags.i, h.flags.f, ?_⟩
    obtain ⟨hdb, hdp⟩ := h.lockD
    obtain ⟨hib, hip⟩ := h.lockI
    refine ⟨?_, ?_, ?_, ?_, ?_, ?_, ?_, ?_, ?_, ?_, ?_, ?_, ?_, hdb, hdp, hib, hip, h.banks hs⟩
    all_goals rw [h.rest]
  | @exception u ha k =>
    refine .inr ⟨k, rfl, ?_, ?_⟩
    · rw [State.takeException_spsr, ← ha.2]
      cases k <;> rfl
    · rw [State.takeException_pc]
      show vectorBase u.sctlr.current + _ = _
      rw [ha.1.rest]
  | returns _ hp => exact absurd hs hp
  | status _ _ _ hu _ =>
    obtain ⟨hm, ha, hi, hf⟩ := hu hs
    exact .inl ⟨hm, ha, hi, hf, rfl, rfl, rfl, rfl, rfl, rfl, rfl, rfl, rfl, rfl, rfl, rfl, rfl, rfl, rfl, rfl, rfl,
      fun _ _ => rfl⟩
  | savedStatus hp => exact absurd hs hp
  | system hp => exact absurd hs hp

end Sys2Proof.Machine

/-!
The boundary of a step and the instruction after it, the Reset input, the state after reset, and the instructions that
only advance the pc.
-/

namespace Sys2Proof.Machine

open Sys2Proof

/-! ### The boundary -/

/-- A step by its three parts: the inputs, the asynchronous exceptions, the instruction. -/
theorem step_eq (s : State) :
    step s = if s.popInput.1.reset then .next s.atBoundary.resetInput
      else match s.atBoundary.asynchronous s.popInput.1 with
        | some t => .next t
        | none => stepInstruction s.atBoundary := rfl

theorem popInput_nil {s : State} (h : s.inputs = []) : s.popInput = (⟨false, false, false, false⟩, s) := by
  simp [State.popInput, h]

theorem popInput_cons {s : State} {b : Boundary} {rest : List Boundary} (h : s.inputs = b :: rest) :
    s.popInput = (b, { s with inputs := rest }) := by
  simp [State.popInput, h]

theorem atBoundary_nil {s : State} (h : s.inputs = []) : s.atBoundary = s := by
  simp [State.atBoundary, popInput_nil h, State.raiseImprecise]

theorem atBoundary_cons {s : State} {b : Boundary} {rest : List Boundary} (h : s.inputs = b :: rest) :
    s.atBoundary = { s with
      inputs := rest
      pendingImprecise := if b.imprecise && s.cfg.extImprecise then
        min (s.pendingImprecise + 1) s.cfg.imprecisePendMax else s.pendingImprecise } := by
  unfold State.atBoundary State.raiseImprecise
  rw [popInput_cons h]
  dsimp only
  split <;> simp_all [State.pend]

theorem asynchronous_fiq {s : State} {b : Boundary} (hf : b.fiq = true) (hm : s.cpsr.f = false) :
    s.asynchronous b = some (s.takeException .fiq (s.pc + 4)) := by simp [State.asynchronous, hf, hm]

theorem asynchronous_irq {s : State} {b : Boundary} (hf : b.fiq = false ∨ s.cpsr.f = true) (hi : b.irq = true)
    (hm : s.cpsr.i = false) : s.asynchronous b = some (s.takeException .irq (s.pc + 4)) := by
  obtain hf | hf := hf <;> simp [State.asynchronous, hf, hi, hm]

theorem asynchronous_abort {s : State} {b : Boundary} (hf : b.fiq = false ∨ s.cpsr.f = true)
    (hi : b.irq = false ∨ s.cpsr.i = true) (hp : 0 < s.pendingImprecise) (hm : s.cpsr.a = false) :
    s.asynchronous b = some s.impreciseAbort := by
  obtain hf | hf := hf <;> obtain hi | hi := hi <;> simp [State.asynchronous, hf, hi, hm, hp]

theorem asynchronous_none {s : State} {b : Boundary} (hf : b.fiq = false ∨ s.cpsr.f = true)
    (hi : b.irq = false ∨ s.cpsr.i = true) (hp : s.pendingImprecise = 0 ∨ s.cpsr.a = true) :
    s.asynchronous b = none := by
  obtain hf | hf := hf <;> obtain hi | hi := hi <;> obtain hp | hp := hp <;> simp [State.asynchronous, hf, hi, hp]

theorem step_reset {s : State} (h : s.popInput.1.reset = true) : step s = .next s.atBoundary.resetInput := by
  rw [step_eq, if_pos h]

theorem step_asynchronous {s t : State} (h : s.popInput.1.reset = false)
    (ha : s.atBoundary.asynchronous s.popInput.1 = some t) : step s = .next t := by
  rw [step_eq, h, ha]
  rfl

theorem step_instruction {s : State} (h : s.popInput.1.reset = false)
    (ha : s.atBoundary.asynchronous s.popInput.1 = none) : step s = stepInstruction s.atBoundary := by
  rw [step_eq, h, ha]
  rfl

/-- Settles O5, clause by clause from what is taken at the boundary. -/
theorem boundaryPriority : Obligations.BoundaryPriority := by
  intro s b rest hin n t
  have ht : s.atBoundary = t := atBoundary_cons hin
  have hb : s.popInput.1 = b := by rw [popInput_cons hin]
  rw [← ht, ← hb]
  have hn : s.atBoundary.pendingImprecise = n := by rw [ht]
  have hcpsr : s.atBoundary.cpsr = s.cpsr := (atBoundary_core s).2.1
  have hpc : s.atBoundary.pc = s.pc := (atBoundary_core s).2.2.1
  rw [← hn, ← hcpsr, ← hpc]
  exact ⟨step_reset, fun hr hf hm => step_asynchronous hr (asynchronous_fiq hf hm),
    fun hr hf hi hm => step_asynchronous hr (asynchronous_irq hf hi hm),
    fun hr hf hi hp hm => step_asynchronous hr (asynchronous_abort hf hi hp hm),
    fun hr hf hi hp => step_instruction hr (asynchronous_none hf hi hp)⟩

/-- Settles O4: nothing is taken at the boundary, and the instruction is the fetch followed by `exec`. -/
theorem stepRunsDecoded : Obligations.StepRunsDecoded := by
  intro s t w i a hin hp
  have hs : step s = stepInstruction s := by
    have hb := atBoundary_nil hin
    have h := step_instruction (s := s) (by rw [popInput_nil hin])
      (asynchronous_none (.inl (by rw [popInput_nil hin])) (.inl (by rw [popInput_nil hin])) (by rw [hb]; exact hp))
    rwa [hb] at h
  refine ⟨fun hf hd => ?_, fun hf => ⟨?_, ?_⟩⟩
  · rw [hs, stepInstruction, hf, ← hd]
    rfl
  · rw [hs, stepInstruction, hf]
    rfl
  · exact (fetch_keeps s).abort hf

/-- Settles O3, by evaluation. -/
theorem decodedWords : Obligations.DecodedWords := by
  unfold Obligations.DecodedWords
  decide

/-! ### Reset -/

/-- Settles O8, by evaluation. -/
theorem resetValues : Obligations.ResetValues := by
  unfold Obligations.ResetValues State.Inv State.Bounded Tlb.Bounded State.Recorded
  decide

theorem resetControl_bits (c : Params) (w : Word) :
    ctlM (resetControl c w) = false ∧ ctlV (resetControl c w) = c.hivecsAtReset
      ∧ ctlEE (resetControl c w) = c.eeAtReset ∧ resetControl c w &&& 0x01600000#32 = 0
      ∧ (c.hasWBit = false → (resetControl c w).getLsbD 3 = true) := by
  unfold resetControl ctlM ctlV ctlEE
  dsimp only
  refine ⟨?_, ?_, ?_, ?_, fun hw => ?_⟩
  · split <;> split <;> split <;> simp
  · split <;> split <;> split <;> simp_all
  · split <;> split <;> split <;> simp_all
  · split <;> split <;> split <;> ext k hk <;> interval_cases k <;> simp
  · split <;> split <;> simp [hw]

/-- Settles O9: the registers are as `State.resetInput` writes them, the control register by `resetControl_bits` and the
TLBs by `anyTlbSlots_fresh`. -/
theorem resetInput : Obligations.ResetInput := by
  intro s b rest hin hr
  obtain ⟨emem, -, -, ecfg⟩ := atBoundary_core s
  refine ⟨_, step_reset (by rwa [popInput_cons hin]), ?_⟩
  rw [← emem, ← ecfg]
  generalize s.atBoundary = u
  obtain ⟨hm, hv, he, hz, hw⟩ := resetControl_bits u.cfg (Config.anyWord (u.draws + 36))
  have hd := anyTlb_entries u.cfg u.cfg.dlockN u.draws (u.draws + 46)
  have hi := anyTlb_entries u.cfg u.cfg.ilockN (u.draws + 1) (u.draws + 49)
  have fd := (anyTlbSlots_fresh u.cfg u.draws).1
  have fi := (anyTlbSlots_fresh u.cfg (u.draws + 1)).1
  refine ⟨?_, rfl, rfl, rfl, rfl, rfl, rfl, he, hm, hv, he, hz, hw, rfl, rfl, rfl, fun e h => ?_, ?_, ?_, rfl, rfl, rfl,
    rfl⟩
  · show vectorBase _ = _
    unfold vectorBase
    rw [hv]
    rfl
  · obtain h | h := List.mem_append.1 h
    · have h : e ∈ (anyTlbSlots u.cfg u.draws).filterMap id := hd ▸ h
      exact fd.unlocked e (by simpa using h)
    · have h : e ∈ (anyTlbSlots u.cfg (u.draws + 1)).filterMap id := hi ▸ h
      exact fi.unlocked e (by simpa using h)
  · exact hd ▸ fd.apart
  · exact hi ▸ fi.apart

/-! ### What only advances the pc -/

/-- The condition of an instruction guards the whole of it (R263). -/
theorem exec_conditional {i : Instr} {c : Cond} (h : conditionOf i = some c) (s : State) :
    ∃ body, exec i s = whenCond c s body := by
  cases i <;> cases h <;> exact ⟨_, rfl⟩

theorem whenCond_fails {c : Cond} {s : State} {body : Out} (h : condPassed c s.cpsr = false)
    (hpc : s.pc ≠ 0xFFFFFFFC#32) : whenCond c s body = .next { s with pc := s.pc + 4 } := by
  rw [whenCond_fail h, State.advance_next hpc]

/-- Settles O11: the condition guards every conditional instruction, and the meaning of a word. -/
theorem onlyAdvances : Obligations.OnlyAdvances := by
  refine ⟨fun s c hc hpc => ⟨fun i hi => ?_, fun w hw => ?_⟩, fun s u rn n op hpc =>
    ⟨State.advance_next hpc, fun hop => ?_⟩⟩
  · obtain ⟨body, hb⟩ := exec_conditional hi s
    exact hb.trans (whenCond_fails hc hpc)
  · constructor
    · show execUndefinedWord w s = _
      rw [execUndefinedWord, hw]
      exact whenCond_fails hc hpc
    · show execUnpredictableWord w s = _
      rw [execUnpredictableWord, hw]
      exact whenCond_fails hc hpc
  · show withoutPC [op.rm] s.advance = _
    rw [withoutPC_ok (by simpa using Ne.symm hop)]
    exact State.advance_next hpc

end Sys2Proof.Machine

/-!
The shifter operand (R411 to R424), and the results of the data-processing instructions (R426 to R441): one lemma ties the
three forms of an instruction to its result, one says how a result ends.
-/

namespace Sys2Proof.Machine

open Sys2Proof

/-! ### The shifts of R411 -/

theorem shiftLsl_toNat (x : Word) (n : Nat) : (shiftLsl x n).toNat = x.toNat * 2 ^ n % 2 ^ 32 := by
  rw [shiftLsl, BitVec.toNat_shiftLeft, Nat.shiftLeft_eq]

theorem shiftLsr_toNat (x : Word) (n : Nat) : (shiftLsr x n).toNat = x.toNat / 2 ^ n := by
  rw [shiftLsr, BitVec.toNat_ushiftRight, Nat.shiftRight_eq_div_pow]

theorem shiftAsr_toInt (x : Word) (n : Nat) : (shiftAsr x n).toInt = x.toInt / 2 ^ n := by
  rw [shiftAsr, BitVec.toInt_sshiftRight, Int.shiftRight_eq_div_pow]
  norm_cast

/-- An amount of 32 and above shifts the sign into every bit. -/
theorem shiftAsr_of_le {n : Nat} (x : Word) (h : 32 ≤ n) : shiftAsr x n = shiftAsr x 32 := by
  ext i hi
  simp only [shiftAsr, BitVec.getElem_sshiftRight]
  rw [dif_neg (by omega), dif_neg (by omega)]

theorem shiftAsr_32 (x : Word) : shiftAsr x 32 = if x.getLsbD 31 then 0xFFFFFFFF#32 else 0 := by
  have hs : x.msb = x.getLsbD 31 := rfl
  ext i hi
  simp only [shiftAsr, BitVec.getElem_sshiftRight]
  rw [dif_neg (by omega), hs]
  cases x.getLsbD 31
  · simp
  · exact (BitVec.getElem_allOnes i hi).symm

theorem shiftRor_of_zero {n : Nat} (x : Word) (h : n % 32 = 0) : shiftRor x n = x := by
  simp [shiftRor, h, BitVec.rotateRight_def]

theorem shiftRor_of_ne {n : Nat} (x : Word) :
    shiftRor x n = shiftLsr x (n % 32) ||| shiftLsl x (32 - n % 32) := by
  rw [shiftRor, BitVec.rotateRight_def, Nat.mod_mod, shiftLsr, shiftLsl]

theorem shiftRor_mod (x : Word) (n : Nat) : shiftRor x (n % 32) = shiftRor x n := by
  rw [shiftRor, shiftRor, Nat.mod_mod]

theorem shiftRor_top {n : Nat} (x : Word) (h : n % 32 ≠ 0) :
    (shiftRor x n).getLsbD 31 = x.getLsbD (n % 32 - 1) := by
  have hlt : n % 32 < 32 := Nat.mod_lt _ (by decide)
  rw [shiftRor, BitVec.getLsbD_rotateRight, Nat.mod_mod, decide_eq_false (by omega), cond_false]
  have he : 31 - (32 - n % 32) = n % 32 - 1 := by omega
  simp [he]

theorem shiftRrx_toNat (x : Word) (c : Bool) : (shiftRrx x c).toNat = c.toNat * 2 ^ 31 + x.toNat / 2 := by
  have hlt : x.toNat / 2 < 2 ^ 31 := by have := x.isLt; omega
  rw [shiftRrx, BitVec.toNat_append, BitVec.toNat_ofBool, BitVec.extractLsb'_toNat, Nat.shiftRight_eq_div_pow,
    Nat.pow_one, Nat.mod_eq_of_lt hlt, ← Nat.shiftLeft_add_eq_or_of_lt hlt, Nat.shiftLeft_eq]

/-! ### The shifter operand -/

section
variable {a : BitVec 8} (x : Word) (c : Bool)

theorem shiftByReg_zero (ty : ShiftType) : shiftByReg ty 0 x c = ⟨x, c⟩ := rfl

theorem BitVec.toNat_ne_zero {w : Nat} {v : BitVec w} (h : v ≠ 0) : v.toNat ≠ 0 := fun e =>
  h (BitVec.eq_of_toNat_eq (by simpa using e))

theorem shiftByReg_lsl (h : a ≠ 0) : shiftByReg .lsl a x c
    = ⟨shiftLsl x a.toNat, decide (a.toNat ≤ 32) && x.getLsbD (32 - a.toNat)⟩ := by
  have h0 := BitVec.toNat_ne_zero h
  unfold shiftByReg
  dsimp only
  rw [if_neg h0]
  split
  · next hlt => rw [decide_eq_true hlt.le, Bool.true_and]
  split
  · next e =>
    rw [e]
    exact congrArg (Shifted.mk · _) (BitVec.shiftLeft_eq_zero (Nat.le_refl 32)).symm
  · rw [decide_eq_false (by omega), Bool.false_and, shiftLsl, BitVec.shiftLeft_eq_zero (by omega)]
    rfl

theorem shiftByReg_lsr (h : a ≠ 0) : shiftByReg .lsr a x c = ⟨shiftLsr x a.toNat, x.getLsbD (a.toNat - 1)⟩ := by
  have h0 := BitVec.toNat_ne_zero h
  unfold shiftByReg
  dsimp only
  rw [if_neg h0]
  split
  · rfl
  split
  · next e =>
    rw [e]
    exact congrArg (Shifted.mk · _) (BitVec.ushiftRight_eq_zero (Nat.le_refl 32)).symm
  · rw [shiftLsr, BitVec.ushiftRight_eq_zero (by omega), BitVec.getLsbD_of_ge _ _ (by omega)]
    rfl

theorem shiftByReg_asr (h : a ≠ 0) :
    shiftByReg .asr a x c = ⟨shiftAsr x a.toNat, x.getLsbD (min (a.toNat - 1) 31)⟩ := by
  have h0 := BitVec.toNat_ne_zero h
  unfold shiftByReg
  dsimp only
  rw [if_neg h0]
  split
  · rw [Nat.min_eq_left (by omega)]
  · rw [Nat.min_eq_right (by omega), shiftAsr_of_le x (by omega : 32 ≤ a.toNat)]

theorem shiftByReg_ror (h : a ≠ 0) :
    shiftByReg .ror a x c = ⟨shiftRor x a.toNat, (shiftRor x a.toNat).getLsbD 31⟩ := by
  have h0 := BitVec.toNat_ne_zero h
  unfold shiftByReg
  dsimp only
  rw [if_neg h0]
  split
  · next hz => rw [shiftRor_of_zero x hz]
  · next hz => rw [shiftRor_mod, shiftRor_top x hz]

/-- An immediate amount other than 0 is that amount. -/
theorem shiftByImm_eq_shiftByReg {k : BitVec 5} (h : k ≠ 0) (ty : ShiftType) :
    shiftByImm ty k x c = shiftByReg ty (k.setWidth 8) x c := by
  have h0 := BitVec.toNat_ne_zero h
  have hlt : k.toNat < 32 := k.isLt
  have hw : (k.setWidth 8).toNat = k.toNat := by rw [BitVec.toNat_setWidth, Nat.mod_eq_of_lt (by omega)]
  unfold shiftByImm shiftByReg
  rw [hw]
  cases ty
  · simp only [if_neg h0, if_pos hlt]
  · simp only [if_neg h0, if_pos hlt]
  · simp only [if_neg h0, if_pos hlt]
  · simp only [if_neg h0, Nat.mod_eq_of_lt hlt]

end

/-- Settles O12. -/
theorem shiftResults : Obligations.ShiftResults := by
  intro s x n a k c o byImm byReg
  refine ⟨⟨shiftLsl_toNat x n, shiftLsr_toNat x n, shiftAsr_toInt x n, shiftRor_of_zero x, fun _ => shiftRor_of_ne x,
    shiftRrx_toNat x c⟩, ?_, fun h => ⟨shiftByReg_lsl x c h, shiftByReg_lsr x c h, shiftByReg_asr x c h,
    shiftByReg_ror x c h⟩, shiftByImm_eq_shiftByReg x c, ?_, ?_, ?_, rfl, ?_⟩
  · rintro rfl ty
    exact shiftByReg_zero x c ty
  · rintro rfl
    exact ⟨rfl, rfl, congrArg (Shifted.mk · _) (shiftAsr_32 x), rfl⟩
  · intro h
    simp [rotImmOperand, h, shiftRor_of_zero]
  · intro h
    have h0 := BitVec.toNat_ne_zero h
    have hm : 2 * o.rot.toNat % 32 = 2 * o.rot.toNat := Nat.mod_eq_of_lt (by have := o.rot.isLt; omega)
    have hv := shiftRor_of_ne (n := 2 * o.rot.toNat) (o.imm.setWidth 32)
    rw [hm] at hv
    rw [rotImmOperand, if_neg h, hv]
  · show shiftByReg byReg.ty ((s.readReg byReg.rs).setWidth 8) _ _ = _
    congr 1
    exact BitVec.eq_of_toNat_eq (by simp)

/-! ### The forms of an instruction and the ends of a result -/

/-- A data-processing instruction in any of its forms is the same function of its shifter operand. -/
theorem DataForms.exec_eq {s : State} {c : Cond} {regs : List Reg} {imm : RotImm → Instr}
    {shiftImm : ImmShift → Instr} {shiftReg : RegShift → Instr} {so : Shifted} {i : Instr}
    (h : DataForms s regs imm shiftImm shiftReg so i) (hc : condPassed c s.cpsr = true) (f : Shifted → Out)
    (hi : ∀ op, exec (imm op) s = whenCond c s (f (rotImmOperand op s.cpsr.c)))
    (hs : ∀ op, exec (shiftImm op) s = whenCond c s (f (immShiftOperand s op)))
    (hr : ∀ op, exec (shiftReg op) s
      = whenCond c s (withoutPC (regs ++ [op.rm, op.rs]) (f (regShiftOperand s op)))) :
    exec i s = f so := by
  obtain ⟨op, rfl, rfl⟩ | ⟨op, rfl, rfl⟩ | ⟨op, rfl, rfl, hpc⟩ := h
  · rw [hi, whenCond_pass hc]
  · rw [hs, whenCond_pass hc]
  · rw [hr, whenCond_pass hc, withoutPC_ok]
    simp only [List.mem_cons, List.mem_append, List.not_mem_nil] at hpc ⊢
    tauto

theorem restore_refuses {i : Instr} {s t : State} {p : Psr} {v : Word} (h : exec i s = t.restore p v) :
    RefusesReturn i s p := by
  refine ⟨fun hm => ?_, fun hm hj => ?_, fun hm hj ht => ?_⟩ <;> rw [h, State.restore]
  · rw [hm]
  · obtain ⟨m, hm⟩ := Option.isSome_iff_exists.1 hm
    simp [hm, hj]
  · obtain ⟨m, hm⟩ := Option.isSome_iff_exists.1 hm
    simp [hm, hj, ht]

theorem exceptionReturn_some {s : State} {p : Psr} (h : s.spsr.get s.mode = some p) (v : Word) :
    s.exceptionReturn v = s.restore p v := by rw [State.exceptionReturn, h]

theorem exceptionReturn_none {s : State} (h : s.spsr.get s.mode = none) (v : Word) :
    s.exceptionReturn v = .refused .noSpsr := by rw [State.exceptionReturn, h]

/-- How an instruction that hands its result to `State.dataResult` ends. -/
theorem dataEnds_of_dataResult {i : Instr} {s : State} {sf : Bool} {rd : Reg} {r : AluResult}
    (h : exec i s = s.dataResult sf rd r) : DataEnds i s sf rd r.result (s.cpsr.setNZCV r) := by
  have hret : rd = 15#4 → sf = true → exec i s = s.exceptionReturn r.result := by
    rintro rfl rfl
    exact h
  refine ⟨fun hrd hpc => ?_, ?_, fun hrd hsf q hq hr => ?_, fun hrd hsf q hq => ?_, fun hrd hsf hq => ?_⟩
  · rw [Ends, h, State.dataResult, if_neg hrd, State.finish_next hpc]
  · rintro rfl rfl
    exact h
  · rw [hret hrd hsf, exceptionReturn_some hq]
    exact State.restore_next hr ..
  · exact restore_refuses ((hret hrd hsf).trans (exceptionReturn_some hq _))
  · rw [hret hrd hsf, exceptionReturn_none hq]

theorem ends_of_compareResult {i : Instr} {s : State} {r : AluResult} (h : exec i s = s.compareResult r)
    (hpc : s.pc ≠ 0xFFFFFFFC#32) : Ends i s { s with cpsr := s.cpsr.setNZCV r } := by
  rw [Ends, h]
  exact State.advance_next hpc

theorem setNZCV_logical (p : Psr) (so : Shifted) (v : Word) :
    p.setNZCV (logical p so v) = { p with n := v.getLsbD 31, z := v == 0, c := so.carry } := rfl

theorem ends_of_logical {i : Instr} {s : State} {so : Shifted} {v : Word}
    (h : exec i s = s.compareResult (logical s.cpsr so v)) (hpc : s.pc ≠ 0xFFFFFFFC#32) :
    Ends i s { s with cpsr := { s.cpsr with n := v.getLsbD 31, z := v == 0, c := so.carry } } := by
  have he := ends_of_compareResult h hpc
  rwa [setNZCV_logical] at he

/-! ### Exact arithmetic -/

/-- The result and the flags of `AddWithCarry` in terms of the exact sum (R412). -/
theorem addWithCarry_exact (p : Psr) {x y : Word} {cin : Bool} {e : Int} {carry : Prop} [Decidable carry]
    (he : x.toInt + y.toInt + cin.toNat = e) (hc : 2 ^ 32 ≤ x.toNat + y.toNat + cin.toNat ↔ carry) :
    (addWithCarry x y cin).result = BitVec.ofInt 32 e
      ∧ p.setNZCV (addWithCarry x y cin) = exactFlags p e (decide carry) := by
  have hr : BitVec.ofNat 32 (x.toNat + y.toNat + cin.toNat) = BitVec.ofInt 32 e := by
    rw [← he, BitVec.ofInt_add, BitVec.ofInt_add, BitVec.ofInt_toInt, BitVec.ofInt_toInt, BitVec.ofNat_add,
      BitVec.ofNat_add, BitVec.ofNat_toNat, BitVec.ofNat_toNat, BitVec.setWidth_eq, BitVec.setWidth_eq,
      BitVec.ofInt_natCast]
  have hv : e ≠ (BitVec.ofInt 32 e).toInt ↔ e < -2 ^ 31 ∨ 2 ^ 31 ≤ e := by
    rw [BitVec.toInt_ofInt, Int.bmod_def]
    split <;> omega
  refine ⟨hr, ?_⟩
  unfold Psr.setNZCV addWithCarry exactFlags
  dsimp only
  rw [hr, he]
  simp only [hc, hv]

theorem toInt_not (y : Word) : (~~~y).toInt = -y.toInt - 1 := by
  rw [BitVec.toInt_not]
  have := y.toInt_lt
  have := y.le_toInt
  have := y.isLt
  rw [BitVec.toInt_eq_toNat_cond, Int.bmod_def]
  split <;> split <;> omega

/-- A difference is a sum with the complement (R412): the carry in stands for the borrow. -/
theorem subWithCarry_exact (p : Psr) {x y : Word} {cin : Bool} {e : Int} {carry : Prop} [Decidable carry]
    (he : x.toInt - y.toInt - (1 - cin.toNat : Nat) = e) (hc : y.toNat + (1 - cin.toNat) ≤ x.toNat ↔ carry) :
    (addWithCarry x (~~~y) cin).result = BitVec.ofInt 32 e
      ∧ p.setNZCV (addWithCarry x (~~~y) cin) = exactFlags p e (decide carry) := by
  have hk := Bool.toNat_le cin
  have hy := y.isLt
  refine addWithCarry_exact p ?_ ?_
  · rw [← he, toInt_not]
    omega
  · rw [← hc, BitVec.toNat_not]
    omega

theorem add_exact (p : Psr) (x y : Word) :
    (addWithCarry x y false).result = BitVec.ofInt 32 (x.toInt + y.toInt)
      ∧ p.setNZCV (addWithCarry x y false)
        = exactFlags p (x.toInt + y.toInt) (decide (2 ^ 32 ≤ x.toNat + y.toNat)) :=
  addWithCarry_exact p (by simp) (by simp)

theorem sub_exact (p : Psr) (x y : Word) :
    (addWithCarry x (~~~y) true).result = BitVec.ofInt 32 (x.toInt - y.toInt)
      ∧ p.setNZCV (addWithCarry x (~~~y) true)
        = exactFlags p (x.toInt - y.toInt) (decide (y.toNat ≤ x.toNat)) :=
  subWithCarry_exact p (by simp) (by simp)

theorem dataEnds_exact {i : Instr} {s : State} {sf : Bool} {rd : Reg} {r : AluResult} {e : Int} {carry : Prop}
    [Decidable carry] (hr : r.result = BitVec.ofInt 32 e ∧ s.cpsr.setNZCV r = exactFlags s.cpsr e (decide carry))
    (h : exec i s = s.dataResult sf rd r) :
    DataEnds i s sf rd (BitVec.ofInt 32 e) (exactFlags s.cpsr e (decide carry)) := by
  rw [← hr.1, ← hr.2]
  exact dataEnds_of_dataResult h

/-! ### The instructions -/

/-- Settles O13. -/
theorem logicalResults : Obligations.LogicalResults := by
  intro s c sf rn rd so i hc x flags
  refine ⟨fun h => ?_, fun h => ?_, fun h => ?_, fun h => ?_, fun h => ?_, fun h => ?_⟩
  · exact dataEnds_of_dataResult (h.exec_eq hc (fun so => s.dataResult sf rd (andResult s.cpsr x so))
      (fun _ => rfl) (fun _ => rfl) fun _ => rfl)
  · exact dataEnds_of_dataResult (h.exec_eq hc (fun so => s.dataResult sf rd (eorResult s.cpsr x so))
      (fun _ => rfl) (fun _ => rfl) fun _ => rfl)
  · exact dataEnds_of_dataResult (h.exec_eq hc (fun so => s.dataResult sf rd (orrResult s.cpsr x so))
      (fun _ => rfl) (fun _ => rfl) fun _ => rfl)
  · exact dataEnds_of_dataResult (h.exec_eq hc (fun so => s.dataResult sf rd (bicResult s.cpsr x so))
      (fun _ => rfl) (fun _ => rfl) fun _ => rfl)
  · exact dataEnds_of_dataResult (h.exec_eq hc (fun so => s.dataResult sf rd (movResult s.cpsr so))
      (fun _ => rfl) (fun _ => rfl) fun _ => rfl)
  · exact dataEnds_of_dataResult (h.exec_eq hc (fun so => s.dataResult sf rd (mvnResult s.cpsr so))
      (fun _ => rfl) (fun _ => rfl) fun _ => rfl)

/-- Settles O14. -/
theorem arithmeticResults : Obligations.ArithmeticResults := by
  intro s c sf rn rd so i hc x y k b ends
  refine ⟨fun h => ?_, fun h => ?_, fun h => ?_, fun h => ?_, fun h => ?_, fun h => ?_⟩
  · exact dataEnds_exact (sub_exact ..)
      (h.exec_eq hc (fun so => s.dataResult sf rd (subResult s.cpsr x so)) (fun _ => rfl) (fun _ => rfl) fun _ => rfl)
  · exact dataEnds_exact (sub_exact ..)
      (h.exec_eq hc (fun so => s.dataResult sf rd (rsbResult s.cpsr x so)) (fun _ => rfl) (fun _ => rfl) fun _ => rfl)
  · exact dataEnds_exact (add_exact ..)
      (h.exec_eq hc (fun so => s.dataResult sf rd (addResult s.cpsr x so)) (fun _ => rfl) (fun _ => rfl) fun _ => rfl)
  · exact dataEnds_exact (addWithCarry_exact _ rfl Iff.rfl)
      (h.exec_eq hc (fun so => s.dataResult sf rd (adcResult s.cpsr x so)) (fun _ => rfl) (fun _ => rfl) fun _ => rfl)
  · exact dataEnds_exact (subWithCarry_exact _ rfl Iff.rfl)
      (h.exec_eq hc (fun so => s.dataResult sf rd (sbcResult s.cpsr x so)) (fun _ => rfl) (fun _ => rfl) fun _ => rfl)
  · exact dataEnds_exact (subWithCarry_exact _ rfl Iff.rfl)
      (h.exec_eq hc (fun so => s.dataResult sf rd (rscResult s.cpsr x so)) (fun _ => rfl) (fun _ => rfl) fun _ => rfl)

/-- Settles O15. -/
theorem compareResults : Obligations.CompareResults := by
  intro s c rn so i ⟨hc, hpc⟩ x y test
  refine ⟨fun h => ?_, fun h => ?_, fun h => ?_, fun h => ?_⟩
  · have hx := h.exec_eq hc (fun so => s.compareResult (andResult s.cpsr x so))
      (fun _ => rfl) (fun _ => rfl) fun _ => rfl
    exact ends_of_logical hx hpc
  · have hx := h.exec_eq hc (fun so => s.compareResult (eorResult s.cpsr x so))
      (fun _ => rfl) (fun _ => rfl) fun _ => rfl
    exact ends_of_logical hx hpc
  · rw [← (sub_exact s.cpsr x y).2]
    have hx := h.exec_eq hc (fun so => s.compareResult (subResult s.cpsr x so))
      (fun _ => rfl) (fun _ => rfl) fun _ => rfl
    exact ends_of_compareResult hx hpc
  · rw [← (add_exact s.cpsr x y).2]
    have hx := h.exec_eq hc (fun so => s.compareResult (addResult s.cpsr x so))
      (fun _ => rfl) (fun _ => rfl) fun _ => rfl
    exact ends_of_compareResult hx hpc

end Sys2Proof.Machine

/-!
How an instruction that writes one register or a register pair ends, and the multiplies (R453 to R473).
-/

namespace Sys2Proof.Machine

open Sys2Proof

/-! ### The ends of register instructions -/

theorem not_mem_of_subset {regs all : List Reg} (h : 15#4 ∉ all) (hs : regs ⊆ all) : 15#4 ∉ regs := fun hm => h (hs hm)

section
variable {i : Instr} {s : State} {c : Cond} {regs all : List Reg}

/-- An instruction that runs, with none of its registers R15, is its body. -/
theorem exec_body {body : Out} (h : Runs c s) (hpc : 15#4 ∉ all)
    (hx : exec i s = whenCond c s (withoutPC regs body)) (hs : regs ⊆ all) : exec i s = body := by
  rw [hx, whenCond_pass h.1, withoutPC_ok (not_mem_of_subset hpc hs)]

theorem ends_of_finish {rd : Reg} {v : Word} {p : Psr} (h : Runs c s) (hpc : 15#4 ∉ all)
    (hx : exec i s = whenCond c s (withoutPC regs (s.finish rd v p))) (hs : regs ⊆ all) :
    Ends i s { s.writeReg rd v with cpsr := p } :=
  (exec_body h hpc hx hs).trans (State.finish_next h.2 ..)

theorem ends_of_finish_keeps {rd : Reg} {v : Word} (h : Runs c s) (hpc : 15#4 ∉ all)
    (hx : exec i s = whenCond c s (withoutPC regs (s.finish rd v s.cpsr))) (hs : regs ⊆ all) :
    Ends i s (s.writeReg rd v) := ends_of_finish h hpc hx hs

theorem ends_of_accumulate {rd : Reg} {e : Int} (h : Runs c s) (hpc : 15#4 ∉ all)
    (hx : exec i s = whenCond c s (withoutPC regs (s.accumulate rd e))) (hs : regs ⊆ all) :
    Ends i s { s.writeReg rd (BitVec.ofInt 32 e) with
      cpsr := { s.cpsr with q := s.cpsr.q || decide (e < -2 ^ 31 ∨ 2 ^ 31 ≤ e) } } := by
  rw [Bool.decide_or]
  exact ends_of_finish h hpc hx hs

end

/-! ### Fields of exact integers -/

theorem extract_ofInt_64_top (e : Int) : (BitVec.ofInt 64 e).extractLsb' 32 32 = BitVec.ofInt 32 (e / 2 ^ 32) := by
  apply BitVec.eq_of_toNat_eq
  rw [BitVec.extractLsb'_toNat, BitVec.toNat_ofInt, BitVec.toNat_ofInt, Nat.shiftRight_eq_div_pow]
  omega

theorem extract_ofInt_64_bottom (e : Int) : (BitVec.ofInt 64 e).extractLsb' 0 32 = BitVec.ofInt 32 e := by
  apply BitVec.eq_of_toNat_eq
  rw [BitVec.extractLsb'_toNat, BitVec.toNat_ofInt, BitVec.toNat_ofInt, Nat.shiftRight_eq_div_pow]
  omega

theorem extract_ofInt_48 (e : Int) : (BitVec.ofInt 48 e).extractLsb' 16 32 = BitVec.ofInt 32 (e / 2 ^ 16) := by
  apply BitVec.eq_of_toNat_eq
  rw [BitVec.extractLsb'_toNat, BitVec.toNat_ofInt, BitVec.toNat_ofInt, Nat.shiftRight_eq_div_pow]
  omega

theorem setWidth_eq_ofInt (x : Word) : x.setWidth 64 = BitVec.ofInt 64 x.toNat := by
  rw [BitVec.ofInt_natCast, BitVec.ofNat_toNat]

theorem eq_ofInt_toNat {w : Nat} (x : BitVec w) : x = BitVec.ofInt w x.toNat := by
  rw [BitVec.ofInt_natCast, BitVec.ofNat_toNat, BitVec.setWidth_eq]

theorem mulUnsigned_eq (x y : Word) : mulUnsigned x y = BitVec.ofInt 64 (x.toNat * y.toNat) := by
  rw [mulUnsigned, setWidth_eq_ofInt, setWidth_eq_ofInt, BitVec.ofInt_mul]

theorem mulSigned_eq (x y : Word) : mulSigned x y = BitVec.ofInt 64 (x.toInt * y.toInt) := by
  rw [mulSigned, BitVec.ofInt_mul]
  rfl

/-- The end of an instruction that writes a register pair, from the exact value. -/
theorem ends_of_finishPair {i : Instr} {s : State} {c : Cond} {regs all : List Reg} {hi lo : Reg} {v : BitVec 64}
    {e : Int} {p : Psr} (h : Runs c s) (hpc : 15#4 ∉ all) (hne : hi ≠ lo)
    (hx : exec i s = whenCond c s (withoutPC regs (distinct hi lo (s.finishPair hi lo v p)))) (hs : regs ⊆ all)
    (hv : v = BitVec.ofInt 64 e) : Ends i s { s.withPair hi lo e with cpsr := p } := by
  have hb := exec_body h hpc hx hs
  rw [distinct, if_neg hne, State.finishPair_next h.2, hv, extract_ofInt_64_top, extract_ofInt_64_bottom] at hb
  exact hb

theorem ends_of_finishPair_keeps {i : Instr} {s : State} {c : Cond} {regs all : List Reg} {hi lo : Reg}
    {v : BitVec 64} {e : Int} (h : Runs c s) (hpc : 15#4 ∉ all) (hne : hi ≠ lo)
    (hx : exec i s = whenCond c s (withoutPC regs (distinct hi lo (s.finishPair hi lo v s.cpsr)))) (hs : regs ⊆ all)
    (hv : v = BitVec.ofInt 64 e) : Ends i s (s.withPair hi lo e) := ends_of_finishPair h hpc hne hx hs hv

theorem topWord_eq (x : Int) (r : Bool) :
    topWord x r = BitVec.ofInt 32 ((x + if r then 2 ^ 31 else 0) / 2 ^ 32) := by
  rw [topWord, extract_ofInt_64_top]
  rfl

/-! ### Word multiplies -/

/-- Settles O16. -/
theorem wordMultiply : Obligations.WordMultiply := by
  refine ⟨?_, ?_⟩
  · intro s c sf hi lo rd rn rs rm h hpc x y old word long
    have hlong : ∀ {i : Instr} {v : BitVec 64} {e : Int}, v = BitVec.ofInt 64 e →
        exec i s = whenCond c s (withoutPC [hi, lo, rs, rm]
          (distinct hi lo (s.finishPair hi lo v (nz64 s.cpsr sf v)))) → long i e := by
      rintro i v e rfl hx hne
      exact ends_of_finishPair h hpc hne hx (by simp) rfl
    refine ⟨?_, ?_, ?_, ?_, ?_, ?_, fun hne => ?_⟩
    · rw [BitVec.ofNat_mul, BitVec.ofNat_toNat, BitVec.ofNat_toNat, BitVec.setWidth_eq, BitVec.setWidth_eq]
      exact ends_of_finish (regs := [rd, rs, rm]) h hpc rfl (by simp)
    · rw [BitVec.ofNat_add, BitVec.ofNat_mul, BitVec.ofNat_toNat, BitVec.ofNat_toNat, BitVec.ofNat_toNat,
        BitVec.setWidth_eq, BitVec.setWidth_eq, BitVec.setWidth_eq]
      exact ends_of_finish (regs := [rd, rn, rs, rm]) h hpc rfl (by simp)
    · exact hlong (mulUnsigned_eq x y) rfl
    · refine hlong (v := mulUnsigned x y + old) ?_ rfl
      rw [mulUnsigned_eq, BitVec.ofInt_add, ← eq_ofInt_toNat]
    · exact hlong (mulSigned_eq x y) rfl
    · refine hlong (v := mulSigned x y + old) ?_ rfl
      rw [mulSigned_eq, BitVec.ofInt_add, BitVec.ofInt_toInt]
    · refine ends_of_finishPair_keeps (regs := [hi, lo, rs, rm]) h hpc hne rfl (by simp) ?_
      rw [mulUnsigned_eq, setWidth_eq_ofInt, setWidth_eq_ofInt, BitVec.ofInt_add, BitVec.ofInt_add]
  · intro s c r rd rn rs rm h hpc p n round
    refine ⟨?_, ?_, ?_⟩ <;> rw [← topWord_eq]
    · exact ends_of_finish_keeps (regs := [rd, rs, rm]) h hpc rfl (by simp)
    · exact ends_of_finish_keeps (regs := [rd, rn, rs, rm]) h hpc rfl (by simp)
    · exact ends_of_finish_keeps (regs := [rd, rn, rs, rm]) h hpc rfl (by simp)

/-! ### Halfword multiplies -/

theorem half_eq (top : Bool) (w : Word) : half top w = signedHalf w top := by cases top <;> rfl

theorem signedHalf_bounds (w : Word) (top : Bool) : -2 ^ 15 ≤ signedHalf w top ∧ signedHalf w top < 2 ^ 15 :=
  ⟨BitVec.le_toInt _, BitVec.toInt_lt⟩

theorem mulWordHalf_eq (w : Word) (k : Int) : mulWordHalf w k = BitVec.ofInt 32 (w.toInt * k / 2 ^ 16) :=
  extract_ofInt_48 _

/-- A word times a half, without its low sixteen bits, fits in a word. -/
theorem mulWordHalf_toInt (w v : Word) (top : Bool) :
    (mulWordHalf w (signedHalf v top)).toInt = w.toInt * signedHalf v top / 2 ^ 16 := by
  obtain ⟨hl, hu⟩ := signedHalf_bounds v top
  have hwl := BitVec.le_toInt w
  have hwu := BitVec.toInt_lt (x := w)
  rw [mulWordHalf_eq, BitVec.toInt_ofInt]
  generalize signedHalf v top = k at hl hu ⊢
  generalize w.toInt = x at hwl hwu ⊢
  have habs : |x * k| ≤ 2 ^ 31 * 2 ^ 15 := by
    rw [abs_mul]
    exact mul_le_mul (abs_le.2 ⟨hwl, by omega⟩) (abs_le.2 ⟨hl, by omega⟩) (abs_nonneg k) (by norm_num)
  obtain ⟨h1, h2⟩ := abs_le.1 habs
  generalize x * k = m at h1 h2 ⊢
  rw [Int.bmod_def]
  split <;> omega

/-- Exchanging the halves of a word is a rotation by sixteen. -/
theorem signedHalf_exchange (w : Word) (x top : Bool) :
    signedHalf (if x then shiftRor w 16 else w) top = half (x ^^ top) w := by
  rw [half_eq]
  cases x
  · simp
  have he : ∀ top, (shiftRor w 16).extractLsb' (if top = true then 16 else 0) 16
      = w.extractLsb' (if top = true then 0 else 16) 16 := by
    intro top
    ext k hk
    rw [BitVec.getElem_extractLsb', BitVec.getElem_extractLsb', shiftRor, BitVec.getLsbD_rotateRight]
    cases top
    · simp [show k < 16 from hk]
    · simp [show ¬ (16 + k < 16) by omega, show 16 + k < 32 by omega]
  cases top <;> exact congrArg BitVec.toInt (he _)

/-- Settles O17. -/
theorem halfwordMultiply : Obligations.HalfwordMultiply := by
  refine ⟨?_, ?_⟩
  · intro s c x y rd rn lo rs rm h hpc hne a b w n accumulates
    have ha : half x (s.readReg rm) = a := half_eq ..
    have hb : half y (s.readReg rs) = b := half_eq ..
    refine ⟨?_, ?_, ?_, ?_, ?_⟩
    · rw [← ha, ← hb]
      exact ends_of_finish_keeps (regs := [rd, rs, rm]) h hpc rfl (by simp)
    · rw [← ha, ← hb]
      exact ends_of_accumulate (regs := [rd, rn, rs, rm]) h hpc rfl (by simp)
    · rw [← ha, ← hb]
      exact ends_of_finishPair_keeps (regs := [rd, lo, rs, rm]) h hpc hne rfl (by simp) rfl
    · rw [← mulWordHalf_eq, ← hb]
      exact ends_of_finish_keeps (regs := [rd, rs, rm]) h hpc rfl (by simp)
    · have hw : w = (mulWordHalf (s.readReg rm) (half y (s.readReg rs))).toInt := by
        rw [half_eq, mulWordHalf_toInt]
      rw [hw]
      exact ends_of_accumulate (regs := [rd, rn, rs, rm]) h hpc rfl (by simp)
  · intro s c x rd rn lo rs rm h hpc hne op2 p q n old accumulates
    have hp : p = bottomProduct (s.readReg rm) (s.readReg rs) x := by
      show _ * _ = _ * _
      rw [signedHalf_exchange, Bool.xor_false, ← half_eq]
    have hq : q = topProduct (s.readReg rm) (s.readReg rs) x := by
      show _ * _ = _ * _
      rw [signedHalf_exchange, Bool.xor_true, ← half_eq]
    rw [hp, hq]
    refine ⟨?_, ?_, ?_, ?_, ?_, ?_⟩
    · exact ends_of_accumulate (regs := [rd, rs, rm]) h hpc rfl (by simp)
    · exact ends_of_finish_keeps (regs := [rd, rs, rm]) h hpc rfl (by simp)
    · exact ends_of_accumulate (regs := [rd, rn, rs, rm]) h hpc rfl (by simp)
    · exact ends_of_accumulate (regs := [rd, rn, rs, rm]) h hpc rfl (by simp)
    · exact ends_of_finishPair_keeps (regs := [rd, lo, rs, rm]) h hpc hne rfl (by simp) rfl
    · exact ends_of_finishPair_keeps (regs := [rd, lo, rs, rm]) h hpc hne rfl (by simp) rfl

end Sys2Proof.Machine

/-!
The lanes of the parallel additions and subtractions (R490 to R529), and the instructions on halfwords and bytes.
-/

namespace Sys2Proof.Machine

open Sys2Proof

/-! ### Lanes -/

section
variable {w : Nat} (sub : Bool) (a b : BitVec w)

theorem ofInt_signed_lane :
    BitVec.ofInt w (if sub then a.toInt - b.toInt else a.toInt + b.toInt) = if sub then a - b else a + b := by
  cases sub
  · exact (BitVec.ofInt_add ..).trans (by rw [BitVec.ofInt_toInt, BitVec.ofInt_toInt]; rfl)
  · show BitVec.ofInt w (a.toInt - b.toInt) = a - b
    rw [Int.sub_eq_add_neg, BitVec.ofInt_add, BitVec.ofInt_neg, BitVec.ofInt_toInt, BitVec.ofInt_toInt,
      BitVec.sub_eq_add_neg]

theorem ofInt_unsigned_lane :
    BitVec.ofInt w (if sub then (a.toNat : Int) - b.toNat else (a.toNat : Int) + b.toNat)
      = if sub then a - b else a + b := by
  cases sub
  · exact (BitVec.ofInt_add ..).trans (by rw [← eq_ofInt_toNat, ← eq_ofInt_toNat]; rfl)
  · show BitVec.ofInt w ((a.toNat : Int) - b.toNat) = a - b
    rw [Int.sub_eq_add_neg, BitVec.ofInt_add, BitVec.ofInt_neg, ← eq_ofInt_toNat, ← eq_ofInt_toNat,
      BitVec.sub_eq_add_neg]

/-- Twice the bound of a signed field is the bound of the unsigned one. -/
theorem two_pow_pred (hw : 0 < w) : (2 : Int) ^ w = 2 * 2 ^ (w - 1) := by
  obtain ⟨n, rfl⟩ := Nat.exists_eq_succ_of_ne_zero hw.ne'
  rw [Nat.succ_sub_one, pow_succ, mul_comm]

theorem toNat_lt_pow (x : BitVec w) : (x.toNat : Int) < 2 ^ w := by exact_mod_cast x.isLt

theorem toNat_ofInt_of_lt {e : Int} (h0 : 0 ≤ e) (h : e < 2 ^ w) : ((BitVec.ofInt w e).toNat : Int) = e := by
  have hp : (0 : Int) < 2 ^ w := h0.trans_lt h
  rw [BitVec.toNat_ofInt]
  push_cast
  rw [Int.emod_eq_of_lt h0 h, Int.toNat_of_nonneg h0]

theorem laneField_q (hw : 0 < w) (e : Int) :
    (laneField .q w e).toInt = max (-2 ^ (w - 1)) (min e (2 ^ (w - 1) - 1)) := by
  have hp : (0 : Int) < 2 ^ (w - 1) := by positivity
  have hx := BitVec.toInt_ofInt_eq_self hw (n := min (max e (-2 ^ (w - 1))) (2 ^ (w - 1) - 1))
  change (BitVec.ofInt w _).toInt = _
  rw [hx (by omega) (by omega)]
  omega

theorem laneField_uq (e : Int) : ((laneField .uq w e).toNat : Int) = max 0 (min e (2 ^ w - 1)) := by
  have hp : (0 : Int) < 2 ^ w := by positivity
  have hx := toNat_ofInt_of_lt (w := w) (e := min (max e 0) (2 ^ w - 1))
  show ((BitVec.ofInt w _).toNat : Int) = _
  rw [hx (by omega) (by omega)]
  omega

theorem laneField_sh (hw : 0 < w) :
    (laneField .sh w (if sub then a.toInt - b.toInt else a.toInt + b.toInt)).toInt
      = (if sub then a.toInt - b.toInt else a.toInt + b.toInt) / 2 := by
  have ha := BitVec.le_toInt a
  have ha' := BitVec.toInt_lt (x := a)
  have hb := BitVec.le_toInt b
  have hb' := BitVec.toInt_lt (x := b)
  refine BitVec.toInt_ofInt_eq_self hw ?_ ?_ <;> split <;> omega

theorem laneField_uh_add : ((laneField .uh w ((a.toNat : Int) + b.toNat)).toNat : Int) = (a.toNat + b.toNat) / 2 := by
  have ha := toNat_lt_pow a
  have hb := toNat_lt_pow b
  exact toNat_ofInt_of_lt (by omega) (by omega)

theorem laneField_uh_sub (hw : 0 < w) :
    (laneField .uh w ((a.toNat : Int) - b.toNat)).toInt = (a.toNat - b.toNat) / 2 := by
  have ha := toNat_lt_pow a
  have hb := toNat_lt_pow b
  rw [two_pow_pred hw] at ha hb
  exact BitVec.toInt_ofInt_eq_self hw (by omega) (by omega)

end

/-- Settles O18. -/
theorem laneFields : Obligations.LaneFields := by
  intro w sub a b hw e u
  refine ⟨fun p => by cases p <;> decide, ?_, ?_, by simp [laneGE, ParallelPrefix.signed], ?_, ?_,
    ofInt_signed_lane sub a b, ofInt_unsigned_lane sub a b, laneField_q hw e, laneField_uq u,
    laneField_sh sub a b hw, ?_, ?_⟩
  · intro p hp
    simp only [List.mem_cons, List.not_mem_nil, or_false] at hp
    obtain rfl | rfl | rfl := hp <;> rfl
  · intro p hp
    simp only [List.mem_cons, List.not_mem_nil, or_false] at hp
    obtain rfl | rfl | rfl := hp <;> rfl
  · rintro rfl
    simp [laneGE, u]
  · rintro rfl
    simp only [laneGE, ParallelPrefix.signed, Bool.or_self, Bool.false_eq_true, if_false, decide_eq_true_eq, u]
    norm_cast
  · rintro rfl
    exact laneField_uh_add a b
  · rintro rfl
    exact laneField_uh_sub a b hw

/-! ### The instructions -/

/-- How a parallel instruction ends: with its result, and the GE bits where its kind of arithmetic writes them. -/
theorem ends_of_parallel {i : Instr} {s : State} {c : Cond} {regs all : List Reg} {p : ParallelPrefix} {rd : Reg}
    {r : ParallelResult} (h : Runs c s) (hpc : 15#4 ∉ all)
    (hx : exec i s = whenCond c s (withoutPC regs (s.parallelResult p rd r))) (hs : regs ⊆ all) :
    Ends i s { s.writeReg rd r.value with
      cpsr := { s.cpsr with ge := if p.writesGE then r.ge else s.cpsr.ge } } := by
  have he := ends_of_finish h hpc hx hs
  cases hp : p.writesGE
  · rwa [if_neg (by simp [hp])] at he
  · rwa [if_pos hp] at he

theorem geHalves_bits : ∀ t b : Bool, (geHalves t b).getLsbD 3 = t ∧ (geHalves t b).getLsbD 2 = t
    ∧ (geHalves t b).getLsbD 1 = b ∧ (geHalves t b).getLsbD 0 = b := by decide

theorem geBytes_bits : ∀ b3 b2 b1 b0 : Bool, (geBytes b3 b2 b1 b0).getLsbD 0 = b0
    ∧ (geBytes b3 b2 b1 b0).getLsbD 1 = b1 ∧ (geBytes b3 b2 b1 b0).getLsbD 2 = b2
    ∧ (geBytes b3 b2 b1 b0).getLsbD 3 = b3 := by decide

/-- The bytes of a word written as four bytes. -/
theorem byteOf_append (b3 b2 b1 b0 : Byte) :
    byteOf (b3 ++ b2 ++ b1 ++ b0) 0 = b0 ∧ byteOf (b3 ++ b2 ++ b1 ++ b0) 1 = b1
      ∧ byteOf (b3 ++ b2 ++ b1 ++ b0) 2 = b2 ∧ byteOf (b3 ++ b2 ++ b1 ++ b0) 3 = b3 := by
  have h1 : (b3 ++ b2 ++ b1 ++ b0).extractLsb' 8 8 = b1 := by
    rw [BitVec.extractLsb'_append_eq_of_le (Nat.le_refl 8)]
    exact BitVec.extractLsb'_append_eq_right
  have h2 : (b3 ++ b2 ++ b1 ++ b0).extractLsb' 16 8 = b2 := by
    rw [BitVec.extractLsb'_append_eq_of_le (by decide), BitVec.extractLsb'_append_eq_of_le (by decide)]
    exact BitVec.extractLsb'_append_eq_right
  have h3 : (b3 ++ b2 ++ b1 ++ b0).extractLsb' 24 8 = b3 := by
    rw [BitVec.extractLsb'_append_eq_of_le (by decide), BitVec.extractLsb'_append_eq_of_le (by decide)]
    exact BitVec.extractLsb'_append_eq_left
  have h0 : (b3 ++ b2 ++ b1 ++ b0).extractLsb' 0 8 = b0 := BitVec.extractLsb'_append_eq_right
  exact ⟨h0, h1, h2, h3⟩

/-- A halfword instruction with the exact results `x` and `y` of its lanes: what `ParallelHalfwords` says of it. -/
theorem halfwords_end {i : Instr} {s : State} {c : Cond} {rn rd rm : Reg} {p : ParallelPrefix} {ht hb : Bool}
    (ex : Bool) (h : Runs c s) (hpc : 15#4 ∉ [rn, rd, rm])
    (hx : exec i s = whenCond c s (withoutPC [rn, rd, rm]
      (s.parallelResult p rd (parallel16 p ht hb ex (s.readReg rn) (s.readReg rm))))) :
    let x := laneExact p ht ((s.readReg rn).extractLsb' 16 16) ((s.readReg rm).extractLsb' (if ex then 0 else 16) 16)
    let y := laneExact p hb ((s.readReg rn).extractLsb' 0 16) ((s.readReg rm).extractLsb' (if ex then 16 else 0) 16)
    ∃ d g, Ends i s { s.writeReg rd d with cpsr := { s.cpsr with ge := g } }
      ∧ d.extractLsb' 16 16 = laneField p 16 x ∧ d.extractLsb' 0 16 = laneField p 16 y
      ∧ (p.writesGE = true → g.getLsbD 3 = laneGE p ht 16 x ∧ g.getLsbD 2 = laneGE p ht 16 x
        ∧ g.getLsbD 1 = laneGE p hb 16 y ∧ g.getLsbD 0 = laneGE p hb 16 y)
      ∧ (p.writesGE = false → g = s.cpsr.ge) := by
  intro x y
  refine ⟨_, _, ends_of_parallel h hpc hx (by simp), BitVec.extractLsb'_append_eq_left,
    BitVec.extractLsb'_append_eq_right, fun hp => ?_, fun hp => by simp [hp]⟩
  rw [if_pos hp]
  exact geHalves_bits _ _

/-- Settles O19: each instruction is `parallel16` with its arithmetic, its operations and its exchange. -/
theorem parallelHalfwords : Obligations.ParallelHalfwords := by
  intro s c rn rd rm h hpc e he
  simp only [List.mem_cons, List.not_mem_nil, or_false] at he
  obtain rfl | rfl | rfl | rfl | rfl | rfl := he
  all_goals exact ⟨halfwords_end false h hpc rfl, halfwords_end true h hpc rfl, halfwords_end true h hpc rfl,
    halfwords_end false h hpc rfl⟩

/-- A byte instruction: what `ParallelBytes` says of it. -/
theorem bytes_end {i : Instr} {s : State} {c : Cond} {rn rd rm : Reg} {p : ParallelPrefix} {sub : Bool}
    (h : Runs c s) (hpc : 15#4 ∉ [rn, rd, rm])
    (hx : exec i s = whenCond c s (withoutPC [rn, rd, rm]
      (s.parallelResult p rd (parallel8 p sub (s.readReg rn) (s.readReg rm))))) :
    ∃ d g, Ends i s { s.writeReg rd d with cpsr := { s.cpsr with ge := g } }
      ∧ (∀ k, k < 4 →
          let x := laneExact p sub (byteOf (s.readReg rn) k) (byteOf (s.readReg rm) k)
          byteOf d k = laneField p 8 x ∧ (p.writesGE = true → g.getLsbD k = laneGE p sub 8 x))
      ∧ (p.writesGE = false → g = s.cpsr.ge) := by
  refine ⟨_, _, ends_of_parallel h hpc hx (by simp), fun k hk => ?_, fun hp => by simp [hp]⟩
  obtain ⟨d0, d1, d2, d3⟩ := byteOf_append (laneField p 8 (laneExact p sub (byteOf (s.readReg rn) 3) (byteOf (s.readReg rm) 3)))
    (laneField p 8 (laneExact p sub (byteOf (s.readReg rn) 2) (byteOf (s.readReg rm) 2)))
    (laneField p 8 (laneExact p sub (byteOf (s.readReg rn) 1) (byteOf (s.readReg rm) 1)))
    (laneField p 8 (laneExact p sub (byteOf (s.readReg rn) 0) (byteOf (s.readReg rm) 0)))
  intro x
  obtain rfl | rfl | rfl | rfl : k = 0 ∨ k = 1 ∨ k = 2 ∨ k = 3 := by omega
  · exact ⟨d0, fun hp => by rw [if_pos hp]; exact (geBytes_bits _ _ _ _).1⟩
  · exact ⟨d1, fun hp => by rw [if_pos hp]; exact (geBytes_bits _ _ _ _).2.1⟩
  · exact ⟨d2, fun hp => by rw [if_pos hp]; exact (geBytes_bits _ _ _ _).2.2.1⟩
  · exact ⟨d3, fun hp => by rw [if_pos hp]; exact (geBytes_bits _ _ _ _).2.2.2⟩

/-- Settles O20. -/
theorem parallelBytes : Obligations.ParallelBytes := by
  intro s c rn rd rm h hpc e he
  simp only [List.mem_cons, List.not_mem_nil, or_false] at he
  obtain rfl | rfl | rfl | rfl | rfl | rfl := he
  all_goals exact ⟨bytes_end h hpc rfl, bytes_end h hpc rfl⟩

end Sys2Proof.Machine

/-!
The extend, pack, reverse, select and saturating instructions (R540 to R571).
-/

namespace Sys2Proof.Machine

open Sys2Proof

/-! ### Extend -/

theorem extendByte_zero (signed : Bool) (r : Word) : extendByte signed 0 r = extend signed 32 (byteOf r 0) :=
  BitVec.zero_add _

theorem extract_low_half (r : Word) : r.extractLsb' 0 16 = r.setWidth 16 := by
  ext k hk
  simp

theorem extendHalf_eq (signed : Bool) (base r : Word) :
    extendHalf signed base r = base + extend signed 32 (r.setWidth 16) := by
  rw [extendHalf, extract_low_half]

theorem extendBytes16_zero (signed : Bool) (r : Word) :
    extendBytes16 signed 0 r = extend signed 16 (byteOf r 2) ++ extend signed 16 (byteOf r 0) :=
  congrArg₂ (· ++ ·) (BitVec.zero_add _) (BitVec.zero_add _)

/-- The bytes 0 and 2 of a word, extended by zeros, are what a mask keeps of it. -/
theorem zero_extended_bytes (r : Word) :
    (byteOf r 2).setWidth 16 ++ (byteOf r 0).setWidth 16 = r &&& 0x00FF00FF#32 := by
  ext k hk
  simp only [byteOf, BitVec.getElem_append, BitVec.getElem_setWidth, BitVec.getLsbD_extractLsb', BitVec.getElem_and]
  interval_cases k <;> simp

/-- Settles O21. -/
theorem extendResults : Obligations.ExtendResults := by
  intro s c rn rd rm rot h hpc r n b0 b2 h0 nTop nBottom ends
  have two : ∀ {i : Instr} {v u : Word}, exec i s = whenCond c s (withoutPC [rd, rm] (s.finish rd u s.cpsr)) →
      u = v → ends i v := by
    rintro i v u hx rfl
    exact ends_of_finish_keeps h hpc hx (by simp)
  have three : ∀ {i : Instr} {v u : Word}, exec i s = whenCond c s (withoutPC [rn, rd, rm] (s.finish rd u s.cpsr)) →
      u = v → ends i v := by
    rintro i v u hx rfl
    exact ends_of_finish_keeps h hpc hx (by simp)
  refine ⟨two rfl (extendByte_zero ..), two rfl (extendByte_zero ..), ?_, ?_, two rfl (extendBytes16_zero ..), ?_,
    three rfl rfl, three rfl rfl, three rfl (extendHalf_eq ..), three rfl (extendHalf_eq ..), three rfl rfl,
    three rfl rfl⟩
  · exact two rfl ((extendHalf_eq ..).trans (BitVec.zero_add _))
  · exact two rfl ((extendHalf_eq ..).trans (BitVec.zero_add _))
  · exact two rfl ((extendBytes16_zero ..).trans (zero_extended_bytes r))

/-! ### Bytes and bits -/

/-- The number of leading zeros by the place of the first one. -/
theorem leadingZeros_spec (x : Word) : (x = 0 → leadingZeros x = 32)
    ∧ (x ≠ 0 → leadingZeros x < 32 ∧ 2 ^ (31 - leadingZeros x) ≤ x.toNat ∧ x.toNat < 2 ^ (32 - leadingZeros x)) := by
  constructor
  · rintro rfl
    decide
  intro hx
  unfold leadingZeros
  cases hf : (List.range 32).find? fun i => x.getLsbD (31 - i) with
  | none =>
    refine absurd ?_ hx
    ext i hi
    have := List.find?_range_eq_none.1 hf (31 - i) (by omega)
    rw [show 31 - (31 - i) = i by omega] at this
    simpa [← BitVec.getLsbD_eq_getElem] using this
  | some k =>
    obtain ⟨hk, hlt, hbelow⟩ := List.find?_range_eq_some.1 hf
    have hlt := List.mem_range.1 hlt
    refine ⟨hlt, Nat.ge_two_pow_of_testBit hk, Nat.lt_pow_two_of_testBit _ fun i hi => ?_⟩
    change 32 - k ≤ i at hi
    by_cases h32 : i < 32
    · have := hbelow (31 - i) (by omega)
      rw [show 31 - (31 - i) = i by omega] at this
      simpa [BitVec.getLsbD] using this
    · exact BitVec.getLsbD_of_ge x i (by omega)

/-- The absolute difference of two bytes as the larger less the smaller. -/
theorem byteDistance_eq (x y : Word) (k : Nat) : byteDistance x y k
    = max (byteOf x k).toNat (byteOf y k).toNat - min (byteOf x k).toNat (byteOf y k).toNat := by
  show ((((byteOf x k).toNat : Int) - ((byteOf y k).toNat : Int))).natAbs = _
  omega

theorem sumDistances_eq (x y : Word) : sumDistances x y
    = ((List.range 4).map fun k => max (byteOf x k).toNat (byteOf y k).toNat
      - min (byteOf x k).toNat (byteOf y k).toNat).sum := by
  simp only [← byteDistance_eq]
  simp [sumDistances, List.range_succ, Nat.add_assoc]

/-- Settles O22. -/
theorem byteAndBitResults : Obligations.ByteAndBitResults := by
  intro s c rn rd rs rm imm h hpc m n sum ends
  have hsum : sumDistances m (s.readReg rs) = sum := sumDistances_eq ..
  have keeps : ∀ {i : Instr} {v : Word} (regs : List Reg),
      exec i s = whenCond c s (withoutPC regs (s.finish rd v s.cpsr)) → regs ⊆ [rn, rd, rs, rm] → ends i v :=
    fun regs hx hs => ends_of_finish_keeps h hpc hx hs
  refine ⟨⟨_, keeps [rn, rd, rm] rfl (by simp), BitVec.extractLsb'_append_eq_right, BitVec.extractLsb'_append_eq_left⟩,
    ⟨_, keeps [rn, rd, rm] rfl (by simp), BitVec.extractLsb'_append_eq_left, BitVec.extractLsb'_append_eq_right⟩,
    ⟨_, keeps [rd, rm] rfl (by simp), fun k hk => ?_⟩, ⟨_, keeps [rd, rm] rfl (by simp), ?_⟩,
    keeps [rd, rm] rfl (by simp), ⟨_, keeps [rn, rd, rm] rfl (by simp), fun k hk => ?_⟩,
    hsum ▸ keeps [rd, rs, rm] rfl (by simp), hsum ▸ keeps [rd, rn, rs, rm] rfl (by simp),
    ⟨_, keeps [rd, rm] rfl (by simp), leadingZeros_spec m⟩⟩
  · obtain ⟨h0, h1, h2, h3⟩ := byteOf_append (byteOf m 0) (byteOf m 1) (byteOf m 2) (byteOf m 3)
    obtain rfl | rfl | rfl | rfl : k = 0 ∨ k = 1 ∨ k = 2 ∨ k = 3 := by omega
    · exact h0
    · exact h1
    · exact h2
    · exact h3
  · exact byteOf_append ..
  · obtain ⟨h0, h1, h2, h3⟩ := byteOf_append (if s.cpsr.ge.getLsbD 3 then byteOf n 3 else byteOf m 3)
      (if s.cpsr.ge.getLsbD 2 then byteOf n 2 else byteOf m 2) (if s.cpsr.ge.getLsbD 1 then byteOf n 1 else byteOf m 1)
      (if s.cpsr.ge.getLsbD 0 then byteOf n 0 else byteOf m 0)
    obtain rfl | rfl | rfl | rfl : k = 0 ∨ k = 1 ∨ k = 2 ∨ k = 3 := by omega
    · exact h0
    · exact h1
    · exact h2
    · exact h3

/-! ### Saturation -/

/-- Clamping changes a value exactly when it is outside the range. -/
theorem clamped_ne_iff {x lo hi : Int} (h : lo ≤ hi) : (min (max x lo) hi != x) = true ↔ x < lo ∨ hi < x := by
  rw [bne_iff_ne]
  omega

theorem ends_of_saturatedResult {i : Instr} {s : State} {c : Cond} {regs all : List Reg} {rd : Reg} {r : Saturated}
    (h : Runs c s) (hpc : 15#4 ∉ all) (hx : exec i s = whenCond c s (withoutPC regs (s.saturatedResult rd r)))
    (hs : regs ⊆ all) : Ends i s { s.writeReg rd (BitVec.ofInt 32 r.value) with
      cpsr := { s.cpsr with q := s.cpsr.q || r.sat } } := ends_of_finish h hpc hx hs

theorem ends_of_saturatedHalves {i : Instr} {s : State} {c : Cond} {regs all : List Reg} {rd : Reg} {t b : Saturated}
    (h : Runs c s) (hpc : 15#4 ∉ all) (hx : exec i s = whenCond c s (withoutPC regs (s.saturatedHalves rd t b)))
    (hs : regs ⊆ all) : Ends i s { s.writeReg rd (BitVec.ofInt 16 t.value ++ BitVec.ofInt 16 b.value) with
      cpsr := { s.cpsr with q := s.cpsr.q || (t.sat || b.sat) } } := by
  rw [Bool.or_comm t.sat]
  exact ends_of_finish h hpc hx hs

theorem saturateOperand_eq (x : Word) (imm : BitVec 5) (sh : Bool) : saturateOperand x imm sh
    = if sh then x.toInt / 2 ^ (if imm = 0 then 32 else imm.toNat) else (x <<< imm.toNat).toInt := by
  cases sh
  · rfl
  · exact shiftAsr_toInt ..

/-- Settles O23. -/
theorem saturatingResults : Obligations.SaturatingResults := by
  refine ⟨fun x n => ⟨fun h1 _ => ⟨rfl, clamped_ne_iff ?_⟩, fun _ => ⟨rfl, clamped_ne_iff ?_⟩⟩, ?_⟩
  · have hp : (0 : Int) < 2 ^ (n - 1) := by positivity
    omega
  · have hp : (0 : Int) < 2 ^ n := by positivity
    omega
  intro s c rn rd rm k5 imm k4 sh h hpc m n d v top bottom ends word halves
  have hv : saturateOperand (s.readReg rm) imm sh = v := saturateOperand_eq ..
  refine ⟨?_, ?_, ?_, ?_, ?_, ?_, ?_, ?_⟩
  · exact ends_of_saturatedResult (regs := [rn, rd, rm]) h hpc rfl (by simp)
  · exact ends_of_saturatedResult (regs := [rn, rd, rm]) h hpc rfl (by simp)
  · exact ends_of_saturatedResult (regs := [rn, rd, rm])
      (r := ⟨(signedSat (m + d.value) 32).value, d.sat || (signedSat (m + d.value) 32).sat⟩) h hpc rfl (by simp)
  · exact ends_of_saturatedResult (regs := [rn, rd, rm])
      (r := ⟨(signedSat (m - d.value) 32).value, d.sat || (signedSat (m - d.value) 32).sat⟩) h hpc rfl (by simp)
  · rw [← hv]
    exact ends_of_saturatedResult (regs := [rd, rm]) h hpc rfl (by simp)
  · rw [← hv]
    exact ends_of_saturatedResult (regs := [rd, rm]) h hpc rfl (by simp)
  · exact ends_of_saturatedHalves (regs := [rd, rm]) h hpc rfl (by simp)
  · exact ends_of_saturatedHalves (regs := [rd, rm]) h hpc rfl (by simp)

end Sys2Proof.Machine

/-!
The registers of a list (R288), and the operand combinations that every instruction refuses: each guard of an instruction
says what an outcome other than the refusal needs, and the restrictions of R405 to R670 are those needs negated.
-/

namespace Sys2Proof.Machine

open Sys2Proof

/-! ### The registers of a list -/

theorem mem_listRegs {r : Reg} {list : BitVec 16} : r ∈ listRegs list ↔ list.getLsbD r.toNat = true := by
  unfold listRegs
  rw [List.mem_map]
  constructor
  · rintro ⟨k, hk, rfl⟩
    obtain ⟨hk, hb⟩ := List.mem_filter.1 hk
    rwa [BitVec.toNat_ofNat, Nat.mod_eq_of_lt (List.mem_range.1 hk)]
  · intro h
    exact ⟨r.toNat, List.mem_filter.2 ⟨List.mem_range.2 r.isLt, h⟩, by simp⟩

theorem pairwise_listRegs (list : BitVec 16) : (listRegs list).Pairwise fun a b => a.toNat < b.toNat := by
  unfold listRegs
  rw [List.pairwise_map]
  refine ((List.pairwise_lt_range (n := 16)).filter _).imp_of_mem fun ha hb h => ?_
  have ha := List.mem_range.1 (List.mem_filter.1 ha).1
  have hb := List.mem_range.1 (List.mem_filter.1 hb).1
  rwa [BitVec.toNat_ofNat, BitVec.toNat_ofNat, Nat.mod_eq_of_lt ha, Nat.mod_eq_of_lt hb]

theorem listRegs_eq_nil {list : BitVec 16} : listRegs list = [] ↔ list = 0 := by
  rw [List.eq_nil_iff_forall_not_mem]
  simp only [mem_listRegs]
  constructor
  · intro h
    ext i hi
    have := h (BitVec.ofNat 4 i)
    rw [BitVec.toNat_ofNat, Nat.mod_eq_of_lt hi] at this
    simpa [← BitVec.getLsbD_eq_getElem] using this
  · rintro rfl r
    simp

/-- The lowest register of a list: no bit below it is set. -/
theorem head_listRegs {r : Reg} {list : BitVec 16} (h : (listRegs list).head? = some r) :
    list.toNat % 2 ^ r.toNat = 0 := by
  unfold listRegs at h
  rw [List.head?_map, List.head?_filter, Option.map_eq_some_iff] at h
  obtain ⟨k, hk, rfl⟩ := h
  obtain ⟨-, hlt, hbelow⟩ := List.find?_range_eq_some.1 hk
  rw [BitVec.toNat_ofNat, Nat.mod_eq_of_lt (List.mem_range.1 hlt)]
  refine Nat.eq_of_testBit_eq fun j => ?_
  rw [Nat.testBit_mod_two_pow, Nat.zero_testBit]
  by_cases hj : j < k
  · have := hbelow j hj
    rw [Bool.not_eq_true'] at this
    exact Bool.and_eq_false_iff.2 (.inr this)
  · simp [hj]

theorem multipleAllowed_listRegs (rn : Reg) (list : BitVec 16) :
    multipleAllowed rn (listRegs list) = (list != 0 && rn != 15#4) := by
  have he : (listRegs list).isEmpty = (list == 0) := by
    rw [Bool.eq_iff_iff, List.isEmpty_iff, listRegs_eq_nil, beq_iff_eq]
  rw [multipleAllowed, he]
  rfl

theorem contains_listRegs (rn : Reg) (list : BitVec 16) :
    (listRegs list).contains rn = list.getLsbD rn.toNat := by
  rw [Bool.eq_iff_iff, List.contains_iff_mem, mem_listRegs]

/-! ### What an outcome that is not the refusal needs -/

/-- The operands are refused as UNPREDICTABLE. -/
def Out.Refuses (o : Out) : Prop := o = .refused .unpredictableOperands

theorem withoutPC_needs {regs : List Reg} {body : Out} (h : ¬ (withoutPC regs body).Refuses) :
    regs.contains 15#4 = false ∧ ¬ body.Refuses := by
  unfold withoutPC at h
  split at h
  · exact absurd rfl h
  · exact ⟨by simpa using ‹¬ regs.contains 15#4 = true›, h⟩

theorem distinct_needs {hi lo : Reg} {body : Out} (h : ¬ (distinct hi lo body).Refuses) : hi ≠ lo := by
  rintro rfl
  exact h (if_pos rfl)

theorem unless_needs {b : Bool} {body : Out}
    (h : ¬ Out.Refuses (if b then .refused .unpredictableOperands else body)) : b = false ∧ ¬ body.Refuses := by
  cases b
  · exact ⟨rfl, h⟩
  · exact absurd rfl h

theorem withOffsetReg_needs {idx : IndexMode} {rn rm : Reg} {body : Out}
    (h : ¬ (withOffsetReg idx rn rm body).Refuses) :
    rm ≠ 15#4 ∧ (idx ≠ .offset → rm ≠ rn) ∧ ¬ body.Refuses := by
  unfold withOffsetReg at h
  split at h
  · rename_i ha
    refine ⟨?_, ?_, h⟩ <;> cases idx <;> simp_all [offsetRegAllowed, indexWritesBack]
  · exact absurd rfl h

theorem writebackAllowed_needs {idx : IndexMode} {rn : Reg} {regs : List Reg}
    (h : writebackAllowed idx rn regs = true) (hi : idx ≠ .offset) : rn ≠ 15#4 ∧ rn ∉ regs := by
  cases idx <;> simp_all [writebackAllowed, indexWritesBack]

section
variable {s : State} {idx : IndexMode} {u : Bool} {rn rd : Reg} {offset : Word}

theorem loadForm_needs {size : AccessSize} {user : Bool} {extend : Word → Word}
    (h : ¬ (s.loadForm idx u rn offset rd size user extend).Refuses) (hi : idx ≠ .offset) : rn ≠ 15#4 ∧ rn ≠ rd := by
  have := (unless_needs h).1
  obtain ⟨hpc, hm⟩ := writebackAllowed_needs (by simpa using this) hi
  exact ⟨hpc, fun e => hm (List.mem_singleton.2 e)⟩

theorem storeForm_needs {size : AccessSize} {user : Bool}
    (h : ¬ (s.storeForm idx u rn offset rd size user).Refuses) (hi : idx ≠ .offset) : rn ≠ 15#4 ∧ rn ≠ rd := by
  have := (unless_needs h).1
  obtain ⟨hpc, hm⟩ := writebackAllowed_needs (by simpa using this) hi
  exact ⟨hpc, fun e => hm (List.mem_singleton.2 e)⟩

theorem pairAllowed_needs (h : pairAllowed idx rn rd = true) : rd.getLsbD 0 = false ∧ rd ≠ 14#4
    ∧ (idx ≠ .offset → rn ≠ 15#4 ∧ rn ≠ rd ∧ rn ≠ rd + 1) := by
  simp only [pairAllowed, Bool.and_eq_true, Bool.not_eq_true', bne_iff_ne, ne_eq] at h
  obtain ⟨⟨h0, h14⟩, hw⟩ := h
  exact ⟨h0, h14, fun hi => by simpa [pairOf] using writebackAllowed_needs hw hi⟩

theorem loadPair_needs (h : ¬ (s.loadPair idx u rn offset rd).Refuses) : rd.getLsbD 0 = false ∧ rd ≠ 14#4
    ∧ (idx ≠ .offset → rn ≠ 15#4 ∧ rn ≠ rd ∧ rn ≠ rd + 1) := by
  have := (unless_needs h).1
  exact pairAllowed_needs (by simpa using this)

theorem storePair_needs (h : ¬ (s.storePair idx u rn offset rd).Refuses) : rd.getLsbD 0 = false ∧ rd ≠ 14#4
    ∧ (idx ≠ .offset → rn ≠ 15#4 ∧ rn ≠ rd ∧ rn ≠ rd + 1) := by
  have := (unless_needs h).1
  exact pairAllowed_needs (by simpa using this)

end

/-! ### The instructions -/

section
variable {i : Instr} {c : Cond} {s : State} {body : Out}

/-- An instruction is refused when another outcome would need what `b` denies. -/
theorem refused_of_needs {o : Out} {b : Bool} (hc : condPassed c s.cpsr = true) (hx : exec i s = whenCond c s o)
    (hn : ¬ o.Refuses → b = false) (hb : b = true) : exec i s = .refused .unpredictableOperands := by
  rw [hx, whenCond_pass hc]
  by_contra h
  rw [hn h] at hb
  cases hb

theorem refused_of_regs {regs : List Reg} (hc : condPassed c s.cpsr = true)
    (hx : exec i s = whenCond c s (withoutPC regs body)) (hb : regs.contains 15#4 = true) :
    exec i s = .refused .unpredictableOperands :=
  refused_of_needs hc hx (fun h => (withoutPC_needs h).1) hb

theorem refused_of_pair {hi lo rs rm : Reg} (hc : condPassed c s.cpsr = true)
    (hx : exec i s = whenCond c s (withoutPC [hi, lo, rs, rm] (distinct hi lo body)))
    (hb : ([hi, lo, rs, rm].contains 15#4 || hi == lo) = true) : exec i s = .refused .unpredictableOperands := by
  refine refused_of_needs hc hx (fun h => ?_) hb
  obtain ⟨hr, hd⟩ := withoutPC_needs h
  rw [hr, beq_false_of_ne (distinct_needs hd)]
  rfl

/-! Loads and stores of one register. -/

theorem index_restriction_imm {idx : IndexMode} {rn rd : Reg} (h : idx ≠ .offset → rn ≠ 15#4 ∧ rn ≠ rd) :
    (idx != .offset && (rn == 15#4 || rn == rd)) = false := by
  cases idx <;> simp_all

theorem index_restriction_reg {idx : IndexMode} {rn rd rm : Reg} (h : idx ≠ .offset → rn ≠ 15#4 ∧ rn ≠ rd)
    (hm : idx ≠ .offset → rm ≠ rn) :
    (idx != .offset && (rn == 15#4 || rn == rd || rm == rn)) = false := by
  cases idx <;> simp_all

theorem refused_of_word_imm {idx : IndexMode} {rn rd : Reg} (hc : condPassed c s.cpsr = true)
    (hx : exec i s = whenCond c s body) (hn : ¬ body.Refuses → idx ≠ .offset → rn ≠ 15#4 ∧ rn ≠ rd)
    (hb : (idx != .offset && (rn == 15#4 || rn == rd)) = true) : exec i s = .refused .unpredictableOperands :=
  refused_of_needs hc hx (fun h => index_restriction_imm (hn h)) hb

theorem refused_of_imm {idx : IndexMode} {rn rd : Reg} (hc : condPassed c s.cpsr = true)
    (hx : exec i s = whenCond c s (withoutPC [rd] body)) (hn : ¬ body.Refuses → idx ≠ .offset → rn ≠ 15#4 ∧ rn ≠ rd)
    (hb : ([rd].contains 15#4 || (idx != .offset && (rn == 15#4 || rn == rd))) = true) :
    exec i s = .refused .unpredictableOperands := by
  refine refused_of_needs hc hx (fun h => ?_) hb
  obtain ⟨hr, h⟩ := withoutPC_needs h
  rw [hr, index_restriction_imm (hn h)]
  rfl

theorem refused_of_word_reg {idx : IndexMode} {rn rd rm : Reg} (hc : condPassed c s.cpsr = true)
    (hx : exec i s = whenCond c s (withOffsetReg idx rn rm body))
    (hn : ¬ body.Refuses → idx ≠ .offset → rn ≠ 15#4 ∧ rn ≠ rd)
    (hb : (rm == 15#4 || (idx != .offset && (rn == 15#4 || rn == rd || rm == rn))) = true) :
    exec i s = .refused .unpredictableOperands := by
  refine refused_of_needs hc hx (fun h => ?_) hb
  obtain ⟨hpc, hm, h⟩ := withOffsetReg_needs h
  rw [beq_false_of_ne hpc, index_restriction_reg (hn h) hm]
  rfl

theorem refused_of_reg {idx : IndexMode} {rn rd rm : Reg} (hc : condPassed c s.cpsr = true)
    (hx : exec i s = whenCond c s (withOffsetReg idx rn rm (withoutPC [rd] body)))
    (hn : ¬ body.Refuses → idx ≠ .offset → rn ≠ 15#4 ∧ rn ≠ rd)
    (hb : ([rd].contains 15#4 || rm == 15#4 || (idx != .offset && (rn == 15#4 || rn == rd || rm == rn))) = true) :
    exec i s = .refused .unpredictableOperands := by
  refine refused_of_needs hc hx (fun h => ?_) hb
  obtain ⟨hpc, hm, h⟩ := withOffsetReg_needs h
  obtain ⟨hr, h⟩ := withoutPC_needs h
  rw [hr, beq_false_of_ne hpc, index_restriction_reg (hn h) hm]
  rfl

/-- The T forms are post-indexed. -/
theorem refused_of_imm_post {rn rd : Reg} (hc : condPassed c s.cpsr = true)
    (hx : exec i s = whenCond c s (withoutPC [rd] body))
    (hn : ¬ body.Refuses → IndexMode.post ≠ .offset → rn ≠ 15#4 ∧ rn ≠ rd)
    (hb : ([rd].contains 15#4 || rn == 15#4 || rn == rd) = true) : exec i s = .refused .unpredictableOperands :=
  refused_of_imm hc hx hn ((Bool.or_assoc ..).symm.trans hb)

theorem refused_of_reg_post {rn rd rm : Reg} (hc : condPassed c s.cpsr = true)
    (hx : exec i s = whenCond c s (withOffsetReg .post rn rm (withoutPC [rd] body)))
    (hn : ¬ body.Refuses → IndexMode.post ≠ .offset → rn ≠ 15#4 ∧ rn ≠ rd)
    (hb : ([rd].contains 15#4 || rm == 15#4 || rn == 15#4 || rn == rd || rm == rn) = true) :
    exec i s = .refused .unpredictableOperands := by
  refine refused_of_reg hc hx hn ?_
  rw [← hb]
  simp only [Bool.or_assoc]
  rfl

/-! Doublewords, exclusives and swaps. -/

section
variable {idx : IndexMode} {u : Bool} {rn rd rm : Reg} {off : BitVec 8}

theorem refused_of_ldrdImm (hc : condPassed c s.cpsr = true)
    (hb : restrictedOperands (.ldrdImm c idx u rn rd off) = true) :
    exec (.ldrdImm c idx u rn rd off) s = .refused .unpredictableOperands := by
  refine refused_of_needs hc rfl (fun h => ?_) hb
  obtain ⟨h0, h14, hi⟩ := loadPair_needs h
  cases idx <;> simp_all [restrictedOperands]

theorem refused_of_strdImm (hc : condPassed c s.cpsr = true)
    (hb : restrictedOperands (.strdImm c idx u rn rd off) = true) :
    exec (.strdImm c idx u rn rd off) s = .refused .unpredictableOperands := by
  refine refused_of_needs hc rfl (fun h => ?_) hb
  obtain ⟨h0, h14, hi⟩ := storePair_needs h
  cases idx <;> simp_all [restrictedOperands]

theorem refused_of_ldrdReg (hc : condPassed c s.cpsr = true)
    (hb : restrictedOperands (.ldrdReg c idx u rn rd rm) = true) :
    exec (.ldrdReg c idx u rn rd rm) s = .refused .unpredictableOperands := by
  refine refused_of_needs hc rfl (fun h => ?_) hb
  obtain ⟨hpc, hm, h⟩ := withOffsetReg_needs h
  obtain ⟨hp, h⟩ := unless_needs (b := rm = rd || rm = pairOf rd) h
  obtain ⟨h0, h14, hi⟩ := loadPair_needs h
  cases idx <;> simp_all [restrictedOperands, pairOf]

theorem refused_of_strdReg (hc : condPassed c s.cpsr = true)
    (hb : restrictedOperands (.strdReg c idx u rn rd rm) = true) :
    exec (.strdReg c idx u rn rd rm) s = .refused .unpredictableOperands := by
  refine refused_of_needs hc rfl (fun h => ?_) hb
  obtain ⟨hpc, hm, h⟩ := withOffsetReg_needs h
  obtain ⟨h0, h14, hi⟩ := storePair_needs h
  cases idx <;> simp_all [restrictedOperands]

theorem swap_needs {size : AccessSize} {extend : Word → Word} (h : ¬ (s.swap rn rd rm size extend).Refuses) :
    ([rn, rd, rm].contains 15#4 || rn == rm || rn == rd) = false := by
  obtain ⟨hr, h⟩ := withoutPC_needs h
  obtain ⟨hp, -⟩ := unless_needs (b := rn = rm || rn = rd) h
  rw [hr, Bool.false_or]
  exact hp

theorem refused_of_swp (hc : condPassed c s.cpsr = true) (hb : restrictedOperands (.swp c rn rd rm) = true) :
    exec (.swp c rn rd rm) s = .refused .unpredictableOperands := refused_of_needs hc rfl swap_needs hb

theorem refused_of_swpb (hc : condPassed c s.cpsr = true) (hb : restrictedOperands (.swpb c rn rd rm) = true) :
    exec (.swpb c rn rd rm) s = .refused .unpredictableOperands := refused_of_needs hc rfl swap_needs hb

theorem refused_of_strex (hc : condPassed c s.cpsr = true) (hb : restrictedOperands (.strex c rn rd rm) = true) :
    exec (.strex c rn rd rm) s = .refused .unpredictableOperands := by
  refine refused_of_needs hc rfl (fun h => ?_) hb
  obtain ⟨hr, h⟩ := withoutPC_needs h
  obtain ⟨hp, -⟩ := unless_needs (b := rd = rn || rd = rm) h
  rw [restrictedOperands, hr, Bool.false_or]
  exact hp

end

/-! Multiple transfers. -/

section
variable {am : AddrMode4} {wb : Bool} {rn : Reg}

theorem refused_of_ldm1 {list : BitVec 16} (hc : condPassed c s.cpsr = true)
    (hb : restrictedOperands (.ldm1 c am wb rn list) = true) :
    exec (.ldm1 c am wb rn list) s = .refused .unpredictableOperands := by
  refine refused_of_needs hc rfl (fun h => ?_) hb
  have hg := (unless_needs h).1
  rw [multipleAllowed_listRegs, contains_listRegs] at hg
  simp_all [restrictedOperands]

theorem refused_of_ldm2 {list : BitVec 15} (hc : condPassed c s.cpsr = true)
    (hb : restrictedOperands (.ldm2 c am wb rn list) = true) :
    exec (.ldm2 c am wb rn list) s = .refused .unpredictableOperands := by
  refine refused_of_needs hc rfl (fun h => ?_) hb
  have hg := (unless_needs h).1
  rw [multipleAllowed_listRegs] at hg
  have h0 : list = 0 → list.setWidth 16 = 0 := by rintro rfl; rfl
  have hl : list ≠ 0 := fun e => by simp [h0 e] at hg
  simp_all [restrictedOperands]

theorem refused_of_ldm3 {list : BitVec 15} (hc : condPassed c s.cpsr = true)
    (hb : restrictedOperands (.ldm3 c am wb rn list) = true) :
    exec (.ldm3 c am wb rn list) s = .refused .unpredictableOperands := by
  refine refused_of_needs hc rfl (fun h => ?_) hb
  have hg := (unless_needs h).1
  rw [multipleAllowed_listRegs, contains_listRegs] at hg
  have hbit : list.getLsbD rn.toNat = true → (1#1 ++ list).getLsbD rn.toNat = true := by
    intro hl
    have hlt : rn.toNat < 15 := BitVec.lt_of_getLsbD hl
    rw [BitVec.getLsbD_append, if_pos hlt, hl]
  cases hl : list.getLsbD rn.toNat
  · simp_all [restrictedOperands]
  · rw [hbit hl] at hg
    simp_all [restrictedOperands]

theorem refused_of_stm1 {list : BitVec 16} (hc : condPassed c s.cpsr = true)
    (hb : restrictedOperands (.stm1 c am wb rn list) = true) :
    exec (.stm1 c am wb rn list) s = .refused .unpredictableOperands := by
  refine refused_of_needs hc rfl (fun h => ?_) hb
  have hg := (unless_needs h).1
  rw [multipleAllowed_listRegs, contains_listRegs] at hg
  have hlow : (listRegs list).head? = some rn → list.toNat % 2 ^ rn.toNat = 0 := head_listRegs
  by_cases hh : (listRegs list).head? = some rn
  · simp_all [restrictedOperands]
  · simp_all [restrictedOperands]

theorem refused_of_stm2 {list : BitVec 16} (hc : condPassed c s.cpsr = true)
    (hb : restrictedOperands (.stm2 c am wb rn list) = true) :
    exec (.stm2 c am wb rn list) s = .refused .unpredictableOperands := by
  refine refused_of_needs hc rfl (fun h => ?_) hb
  have hg := (unless_needs h).1
  rw [multipleAllowed_listRegs] at hg
  simp_all [restrictedOperands]

end

end

theorem exec_restricted {i : Instr} {c : Cond} {s : State} (hi : conditionOf i = some c)
    (hc : condPassed c s.cpsr = true) (hb : restrictedOperands i = true) :
    exec i s = .refused .unpredictableOperands := by
  cases i with
  | cps | setend | pldImm | pldReg | srs | rfe | blx1 | mcrr2 | mrrc2 | stc2 | ldc2 | cdp2 | mcr2 | mrc2 | bkpt
  | undefinedWord | unpredictableWord =>
    cases hi
  | mul | mla | ldrex | mrs | msrReg | clz | blx2 | qadd | qsub | qdadd | qdsub | smlaxy | smlawy | smulwy | smulxy
  | andShiftReg | eorShiftReg | subShiftReg | rsbShiftReg | addShiftReg | adcShiftReg | sbcShiftReg | rscShiftReg
  | tstShiftReg | teqShiftReg | cmpShiftReg | cmnShiftReg | orrShiftReg | movShiftReg | bicShiftReg | mvnShiftReg
  | sadd16 | saddsubx | ssubaddx | ssub16 | sadd8 | ssub8 | qadd16 | qaddsubx | qsubaddx | qsub16 | qadd8 | qsub8
  | shadd16 | shaddsubx | shsubaddx | shsub16 | shadd8 | shsub8 | uadd16 | uaddsubx | usubaddx | usub16 | uadd8
  | usub8 | uqadd16 | uqaddsubx | uqsubaddx | uqsub16 | uqadd8 | uqsub8 | uhadd16 | uhaddsubx | uhsubaddx | uhsub16
  | uhadd8 | uhsub8 | pkhbt | pkhtb | ssat | usat | ssat16 | usat16 | rev | rev16 | revsh | sel | sxtb16 | sxtab16
  | sxtb | sxtab | sxth | sxtah | uxtb16 | uxtab16 | uxtb | uxtab | uxth | uxtah | smuad | smlad | smusd | smlsd
  | smmul | smmla | smmls | usad8 | usada8 =>
    cases hi; exact refused_of_regs hc rfl hb
  | umaal | umull | umlal | smull | smlal | smlalxy | smlald | smlsld =>
    cases hi; exact refused_of_pair hc rfl hb
  | swp => cases hi; exact refused_of_swp hc hb
  | swpb => cases hi; exact refused_of_swpb hc hb
  | strex => cases hi; exact refused_of_strex hc hb
  | ldrdReg => cases hi; exact refused_of_ldrdReg hc hb
  | ldrdImm => cases hi; exact refused_of_ldrdImm hc hb
  | strdReg => cases hi; exact refused_of_strdReg hc hb
  | strdImm => cases hi; exact refused_of_strdImm hc hb
  | ldm1 => cases hi; exact refused_of_ldm1 hc hb
  | ldm3 => cases hi; exact refused_of_ldm3 hc hb
  | ldm2 => cases hi; exact refused_of_ldm2 hc hb
  | stm1 => cases hi; exact refused_of_stm1 hc hb
  | stm2 => cases hi; exact refused_of_stm2 hc hb
  | strhReg | strbReg =>
    cases hi; exact refused_of_reg hc rfl storeForm_needs hb
  | strhImm | strbImm =>
    cases hi; exact refused_of_imm hc rfl storeForm_needs hb
  | ldrhReg | ldrsbReg | ldrshReg | ldrbReg =>
    cases hi; exact refused_of_reg hc rfl loadForm_needs hb
  | ldrhImm | ldrsbImm | ldrshImm | ldrbImm =>
    cases hi; exact refused_of_imm hc rfl loadForm_needs hb
  | bx | bxj | andShiftImm | eorShiftImm | subShiftImm | rsbShiftImm | addShiftImm | adcShiftImm | sbcShiftImm
  | rscShiftImm | tstShiftImm | teqShiftImm | cmpShiftImm | cmnShiftImm | orrShiftImm | movShiftImm | bicShiftImm
  | mvnShiftImm | msrImm | andImm | eorImm | subImm | rsbImm | addImm | adcImm | sbcImm | rscImm | tstImm | teqImm
  | cmpImm | cmnImm | orrImm | movImm | bicImm | mvnImm | b | bl | mcrr | mrrc | stc | ldc | cdp | mcr | mrc | swi =>
    exact absurd hb Bool.false_ne_true
  | strtImm | strbtImm =>
    cases hi; exact refused_of_imm_post hc rfl storeForm_needs hb
  | ldrtImm | ldrbtImm =>
    cases hi; exact refused_of_imm_post hc rfl loadForm_needs hb
  | strImm =>
    cases hi; exact refused_of_word_imm hc rfl storeForm_needs hb
  | ldrImm =>
    cases hi; exact refused_of_word_imm hc rfl loadForm_needs hb
  | strtReg | strbtReg =>
    cases hi; exact refused_of_reg_post hc rfl storeForm_needs hb
  | ldrtReg | ldrbtReg =>
    cases hi; exact refused_of_reg_post hc rfl loadForm_needs hb
  | strReg =>
    cases hi; exact refused_of_word_reg hc rfl storeForm_needs hb
  | ldrReg =>
    cases hi; exact refused_of_word_reg hc rfl loadForm_needs hb

/-- Settles O24. -/
theorem restrictedForms : Obligations.RestrictedForms := by
  refine ⟨fun i c s => exec_restricted, fun s u wb rn op am => ⟨fun h => ?_, fun hm => ?_, fun hm => ?_⟩⟩
  · exact withoutPC_refused (regs := [op.rm]) (by rw [h]; exact List.mem_singleton_self _) s.advance
  · show execRfe am wb 15#4 s = _
    rw [execRfe, (privileged_iff s).2 hm]
    rfl
  · show execRfe am wb rn s = _
    rw [execRfe, show s.privileged = false by simp [State.privileged, hm]]
    rfl

end Sys2Proof.Machine

/-!
The frame of the instructions that work on registers alone, and the register banks.
-/

namespace Sys2Proof.Machine

open Sys2Proof

/-! ### The frame -/

/-- A status register differs from another in the condition flags, Q and GE alone. -/
def FlagsFrame (p q : Psr) : Prop := q = { p with n := q.n, z := q.z, c := q.c, v := q.v, q := q.q, ge := q.ge }

/-- A state differs from another in the destinations `ds`, the flags and the pc of the next instruction alone. -/
def Framed (s : State) (ds : List Reg) (t : State) : Prop :=
  SameRegs s t (ds.map (bankedReg s.mode)) ∧ SameMemory s t ∧ SameSystem s t
    ∧ t.tlbD = s.tlbD ∧ t.tlbI = s.tlbI ∧ t.pendingImprecise = s.pendingImprecise
    ∧ t.pendingParity = s.pendingParity ∧ t.pc = s.pc + 4 ∧ FlagsFrame s.cpsr t.cpsr

theorem FlagsFrame.refl (p : Psr) : FlagsFrame p p := rfl

theorem flagsFrame_nz32 (p : Psr) (sf : Bool) (v : Word) : FlagsFrame p (nz32 p sf v) := by cases sf <;> rfl

theorem flagsFrame_nz64 (p : Psr) (sf : Bool) (v : BitVec 64) : FlagsFrame p (nz64 p sf v) := by cases sf <;> rfl

/-- The end of an instruction that changed registers of the list and flags only. -/
theorem framed_advance {s : State} {r : Regs} {p : Psr} {ds : List Reg}
    (hr : ∀ q, q ∉ ds.map (bankedReg s.mode) → r.get q = s.regs.get q) (hp : FlagsFrame s.cpsr p) :
    Leads ({ s with regs := r, cpsr := p } : State).advance (Framed s ds) := by
  refine ⟨fun t ht => ?_⟩
  obtain ⟨-, rfl⟩ := State.advance_eq_next ht
  exact ⟨hr, fun _ => rfl, ⟨rfl, rfl, rfl, rfl, rfl, rfl, rfl, rfl, rfl, rfl, rfl, rfl, rfl, rfl, rfl⟩, rfl, rfl, rfl, rfl,
    rfl, hp⟩

section
variable {s : State} {ds : List Reg}

theorem framed_whenCond {c : Cond} {body : Out} (h : Leads body (Framed s ds)) :
    Leads (whenCond c s body) (Framed s ds) := by
  unfold whenCond
  split
  · exact h
  · exact framed_advance (fun _ _ => rfl) rfl

theorem framed_compareResult (r : AluResult) : Leads (s.compareResult r) (Framed s ds) :=
  framed_advance (fun _ _ => rfl) rfl

theorem framed_finish {p : Psr} (hp : FlagsFrame s.cpsr p) (rd : Reg) (v : Word) :
    Leads (s.finish rd v p) (Framed s [rd]) :=
  framed_advance (fun _ hq => Regs.get_set_ne _ _ (by simpa using hq)) hp

theorem framed_finishPair {p : Psr} (hp : FlagsFrame s.cpsr p) (hi lo : Reg) (v : BitVec 64) :
    Leads (s.finishPair hi lo v p) (Framed s [hi, lo]) := by
  refine framed_advance (fun q hq => ?_) hp
  simp only [List.map_cons, List.map_nil, List.mem_cons, List.not_mem_nil, or_false, not_or] at hq
  obtain ⟨hhi, hlo⟩ := hq
  exact (Regs.get_set_ne _ _ hlo).trans (Regs.get_set_ne _ _ hhi)

theorem framed_accumulate (rd : Reg) (e : Int) : Leads (s.accumulate rd e) (Framed s [rd]) :=
  framed_finish (p := s.cpsr.orQ _) rfl ..

theorem framed_saturatedResult (rd : Reg) (r : Saturated) : Leads (s.saturatedResult rd r) (Framed s [rd]) :=
  framed_finish (p := s.cpsr.orQ _) rfl ..

theorem framed_saturatedHalves (rd : Reg) (t b : Saturated) : Leads (s.saturatedHalves rd t b) (Framed s [rd]) :=
  framed_finish (p := s.cpsr.orQ _) rfl ..

theorem framed_parallelResult (p : ParallelPrefix) (rd : Reg) (r : ParallelResult) :
    Leads (s.parallelResult p rd r) (Framed s [rd]) := by
  refine framed_finish ?_ ..
  split <;> rfl

theorem framed_dataResult {rd : Reg} (hpc : 15#4 ∉ [rd]) (sf : Bool) (r : AluResult) :
    Leads (s.dataResult sf rd r) (Framed s [rd]) := by
  rw [State.dataResult, if_neg fun e => hpc (by rw [e]; exact List.mem_singleton_self _)]
  refine framed_finish ?_ ..
  cases sf <;> rfl

theorem framed_mrs (c : Cond) (r : Bool) (rd : Reg) : Leads (execMrs c r rd s) (Framed s [rd]) := by
  refine framed_whenCond (leads_withoutPC ?_)
  split
  · split
    · exact leads_refused ..
    · exact framed_finish (.refl _) ..
  · exact framed_finish (.refl _) ..

end

theorem exec_framed {i : Instr} {s : State} {ds : List Reg} (hd : destinationsOf i = some ds) (hpc : 15#4 ∉ ds) :
    Leads (exec i s) (Framed s ds) := by
  cases i with
  | cps | setend | pldImm | pldReg | srs | rfe | blx1 | mcrr2 | mrrc2 | stc2 | ldc2 | cdp2 | mcr2 | mrc2 | swp | swpb
  | strex | ldrex | strhReg | strhImm | ldrhReg | ldrhImm | ldrdReg | ldrdImm | ldrsbReg | ldrsbImm | strdReg
  | strdImm | ldrshReg | ldrshImm | msrReg | bx | bxj | blx2 | bkpt | msrImm | strtImm | ldrtImm | strbtImm
  | ldrbtImm | strImm | ldrImm | strbImm | ldrbImm | strtReg | ldrtReg | strbtReg | ldrbtReg | strReg | ldrReg
  | strbReg | ldrbReg | ldm1 | ldm3 | ldm2 | stm1 | stm2 | b | bl | mcrr | mrrc | stc | ldc | cdp | mcr | mrc | swi
  | undefinedWord | unpredictableWord =>
    cases hd
  | mul | mla =>
    cases hd; exact framed_whenCond (leads_withoutPC (framed_finish (flagsFrame_nz32 ..) ..))
  | umaal | smlalxy | smlald | smlsld =>
    cases hd; exact framed_whenCond (leads_withoutPC (leads_distinct (framed_finishPair (.refl _) ..)))
  | umull | umlal | smull | smlal =>
    cases hd; exact framed_whenCond (leads_withoutPC (leads_distinct (framed_finishPair (flagsFrame_nz64 ..) ..)))
  | mrs =>
    cases hd; exact framed_mrs ..
  | clz | smulwy | smulxy | pkhbt | pkhtb | rev | rev16 | revsh | sel | sxtb16 | sxtab16 | sxtb | sxtab | sxth
  | sxtah | uxtb16 | uxtab16 | uxtb | uxtab | uxth | uxtah | smusd | smmul | smmla | smmls | usad8 | usada8 =>
    cases hd; exact framed_whenCond (leads_withoutPC (framed_finish (.refl _) ..))
  | qadd | qsub | qdadd | qdsub | ssat | usat =>
    cases hd; exact framed_whenCond (leads_withoutPC (framed_saturatedResult ..))
  | smlaxy | smlawy | smuad | smlad | smlsd =>
    cases hd; exact framed_whenCond (leads_withoutPC (framed_accumulate ..))
  | andShiftImm | eorShiftImm | subShiftImm | rsbShiftImm | addShiftImm | adcShiftImm | sbcShiftImm | rscShiftImm
  | orrShiftImm | movShiftImm | bicShiftImm | mvnShiftImm | andImm | eorImm | subImm | rsbImm | addImm | adcImm
  | sbcImm | rscImm | orrImm | movImm | bicImm | mvnImm =>
    cases hd; exact framed_whenCond (framed_dataResult hpc ..)
  | tstShiftImm | teqShiftImm | cmpShiftImm | cmnShiftImm | tstImm | teqImm | cmpImm | cmnImm =>
    cases hd; exact framed_whenCond (framed_compareResult ..)
  | andShiftReg | eorShiftReg | subShiftReg | rsbShiftReg | addShiftReg | adcShiftReg | sbcShiftReg | rscShiftReg
  | orrShiftReg | movShiftReg | bicShiftReg | mvnShiftReg =>
    cases hd; exact framed_whenCond (leads_withoutPC (framed_dataResult hpc ..))
  | tstShiftReg | teqShiftReg | cmpShiftReg | cmnShiftReg =>
    cases hd; exact framed_whenCond (leads_withoutPC (framed_compareResult ..))
  | sadd16 | saddsubx | ssubaddx | ssub16 | sadd8 | ssub8 | qadd16 | qaddsubx | qsubaddx | qsub16 | qadd8 | qsub8
  | shadd16 | shaddsubx | shsubaddx | shsub16 | shadd8 | shsub8 | uadd16 | uaddsubx | usubaddx | usub16 | uadd8
  | usub8 | uqadd16 | uqaddsubx | uqsubaddx | uqsub16 | uqadd8 | uqsub8 | uhadd16 | uhaddsubx | uhsubaddx | uhsub16
  | uhadd8 | uhsub8 =>
    cases hd; exact framed_whenCond (leads_withoutPC (framed_parallelResult ..))
  | ssat16 | usat16 =>
    cases hd; exact framed_whenCond (leads_withoutPC (framed_saturatedHalves ..))

/-! ### The banks -/

theorem SameRegs.writeBank (s : State) (m : Mode) (n : Reg) (v : Word) :
    SameRegs s (s.writeBank m n v) [bankedReg m n] := fun _ hp => Regs.get_set_ne _ _ (by simpa using hp)

/-- Settles O25. -/
theorem registerFrame : Obligations.RegisterFrame := by
  refine ⟨fun i s t ds hd hpc h => (exec_framed hd hpc).next t h, fun s m n v => ?_⟩
  refine ⟨rfl, fun h => if_neg h, rfl, fun h => ?_, rfl, rfl, ?_, ?_, Regs.get_set .., .writeBank s m n v, rfl⟩
  · rw [State.mode, h, Mode.ofBits_bits]
    rfl
  · cases m <;> rfl
  · cases m <;> rfl

end Sys2Proof.Machine

/-!
Branches (R400 to R406), the status register instructions (R591 to R594), and the addressing modes (R606 to R660).
-/

namespace Sys2Proof.Machine

open Sys2Proof

/-! ### Branches -/

theorem branchInRange_iff (pc : Word) (imm : BitVec 24) :
    branchInRange pc imm = true ↔ 0 ≤ branchSum pc imm ∧ branchSum pc imm < 2 ^ 32 := by
  simp [branchInRange]

/-- Settles O27. -/
theorem branchResults : Obligations.BranchResults := by
  intro s c imm hc target
  have hb : exec (.b c imm) s = if branchInRange s.pc imm then
      .next { s with pc := branchTarget s.pc imm } else .refused .pcWrap := whenCond_pass hc _
  have hl : exec (.bl c imm) s = if branchInRange s.pc imm then
      .next { s.writeReg 14#4 s.returnAddress with pc := branchTarget s.pc imm } else .refused .pcWrap :=
    whenCond_pass hc _
  refine ⟨fun h0 h1 => ?_, fun h => ?_⟩
  · rw [hb, hl, if_pos ((branchInRange_iff ..).2 ⟨h0, h1⟩), if_pos ((branchInRange_iff ..).2 ⟨h0, h1⟩)]
    exact ⟨rfl, rfl⟩
  · have hn : ¬ branchInRange s.pc imm = true := by
      rw [branchInRange_iff]
      show ¬ (0 ≤ target ∧ target < 2 ^ 32)
      omega
    rw [hb, hl, if_neg hn, if_neg hn]
    exact ⟨rfl, rfl⟩

/-- Settles O28. -/
theorem branchExchangeResults : Obligations.BranchExchangeResults := by
  intro s c rm hc v
  have hx : exec (.bx c rm) s = s.branchExchange v := whenCond_pass hc _
  have hj : exec (.bxj c rm) s = s.branchExchange v := whenCond_pass hc _
  have hl : exec (.blx2 c rm) s
      = withoutPC [rm] ((s.writeReg 14#4 s.returnAddress).branchExchange v) := whenCond_pass hc _
  have hl' (h : rm ≠ 15#4) : exec (.blx2 c rm) s = (s.writeReg 14#4 s.returnAddress).branchExchange v :=
    hl.trans (withoutPC_ok (fun hm => h (List.mem_singleton.1 hm).symm) _)
  refine ⟨fun h => ?_, fun h => ?_, fun h => ?_⟩
  · have hn (t : State) := State.branchExchange_next (s := t) h
    exact ⟨hx.trans (hn s), hj.trans (hn s), fun hr => (hl' hr).trans (hn _)⟩
  · have hn (t : State) := State.branchExchange_thumb (s := t) h
    exact ⟨hx.trans (hn s), hj.trans (hn s), fun hr => (hl' hr).trans (hn _)⟩
  · have hn (t : State) := State.branchExchange_unaligned (s := t) h
    refine ⟨hx.trans (hn s), hj.trans (hn s), ?_⟩
    by_cases hr : rm = 15#4
    · exact hl.trans (withoutPC_refused (by rw [hr]; exact List.mem_singleton_self _) _)
    · exact (hl' hr).trans (hn _)

/-! ### The layout of a status register -/

theorem Psr.ofWord_toWord (p : Psr) : Psr.ofWord p.toWord = p := by
  unfold Psr.ofWord
  rw [p.toWord_n, p.toWord_z, p.toWord_c, p.toWord_v, p.toWord_q, p.toWord_j, p.toWord_ge, p.toWord_e, p.toWord_a,
    p.toWord_i, p.toWord_f, p.toWord_t, p.toWord_m]

theorem Psr.toWord_ofWord (w : Word) : (Psr.ofWord w).toWord = w &&& 0xF90F03FF#32 := by
  refine BitVec.eq_of_getLsbD_eq fun k hk => ?_
  rw [BitVec.getLsbD_and]
  simp only [Psr.toWord, Psr.ofWord, BitVec.getLsbD_append, BitVec.getLsbD_extractLsb']
  interval_cases k <;> simp

/-- Settles O30. -/
theorem mrsResults : Obligations.MrsResults := by
  refine ⟨fun s c rd h hrd => ?_, fun p w => ⟨p.ofWord_toWord, Psr.toWord_ofWord w, p.toWord_n, p.toWord_z, p.toWord_c,
    p.toWord_v, p.toWord_q, p.toWord_j, p.toWord_ge, p.toWord_e, p.toWord_a, p.toWord_i, p.toWord_f, p.toWord_t,
    p.toWord_m⟩⟩
  have hpc : 15#4 ∉ [rd] := fun hm => hrd (List.mem_singleton.1 hm).symm
  have hs : exec (.mrs c true rd) s = match s.spsr.get s.mode with
      | none => .refused .noSpsr
      | some p => s.finish rd p.toWord s.cpsr :=
    exec_body h hpc (i := .mrs c true rd) (regs := [rd]) rfl (List.Subset.refl _)
  refine ⟨ends_of_finish_keeps h hpc (regs := [rd]) rfl (List.Subset.refl _), fun p hp => ?_, fun hm => ?_⟩
  · rw [Ends, hs, hp]
    exact State.finish_next h.2 ..
  · rw [hs, show s.spsr.get s.mode = none by rcases hm with hm | hm <;> rw [hm] <;> rfl]

/-! ### MSR and CPS -/

theorem byteMask_bit (mask : BitVec 4) {k : Nat} (hk : k < 32) :
    (byteMask mask).getLsbD k = mask.getLsbD (k / 8) := by
  revert mask
  interval_cases k <;> decide

theorem Psr.writeMasked_eq (p : Psr) (bm m operand : Word) :
    p.writeMasked (bm &&& m) operand = Psr.ofWord ((p.toWord &&& ~~~(bm &&& m)) ||| (operand &&& bm &&& m)) := by
  rw [Psr.writeMasked, BitVec.and_assoc]

section
variable {s : State} {mask : BitVec 4} {operand : Word}

/-- MSR to the CPSR writes the bits that the mode may write. -/
theorem msrCpsr_user (hpc : s.pc ≠ 0xFFFFFFFC#32) (hm : s.mode = .usr) (hl : (Mode.ofBits s.cpsr.m).isSome = true) :
    s.msrCpsr mask operand = .next { s with
      cpsr := s.cpsr.writeMasked (byteMask mask &&& userMask) operand, pc := s.pc + 4 } := by
  have hp : s.privileged = false := by simp [State.privileged, hm]
  have hbits : (byteMask mask &&& userMask).extractLsb' 0 5 = 0#5 := by
    rw [BitVec.extractLsb'_and]
    exact BitVec.and_zero
  obtain ⟨m, hmode⟩ := Option.isSome_iff_exists.1 hl
  rw [← Psr.writeMasked_m operand hbits] at hmode
  simp only [State.msrCpsr, hp, Bool.false_and, Bool.false_eq_true, if_false, hmode]
  exact State.advance_next hpc

/-- MSR to the CPSR in a privileged mode that names no execution state bit: the new mode must be legal. -/
theorem msrCpsr_legal {m : Mode} (hm : s.mode ≠ .usr) (h0 : operand &&& byteMask mask &&& stateMask = 0)
    (hl : Mode.ofBits (s.cpsr.writeMasked (byteMask mask &&& (userMask ||| privMask)) operand).m = some m) :
    s.msrCpsr mask operand =
      ({ s with cpsr := s.cpsr.writeMasked (byteMask mask &&& (userMask ||| privMask)) operand } : State).advance := by
  have hp : s.privileged = true := (privileged_iff s).2 hm
  simp only [State.msrCpsr, hp, h0, bne_self_eq_false, Bool.and_false, Bool.false_eq_true, if_false, if_true, hl]

theorem msrCpsr_illegal (hm : s.mode ≠ .usr) (h0 : operand &&& byteMask mask &&& stateMask = 0)
    (hl : Mode.ofBits (s.cpsr.writeMasked (byteMask mask &&& (userMask ||| privMask)) operand).m = none) :
    s.msrCpsr mask operand = .refused .illegalMode := by
  have hp : s.privileged = true := (privileged_iff s).2 hm
  simp only [State.msrCpsr, hp, h0, bne_self_eq_false, Bool.and_false, Bool.false_eq_true, if_false, if_true, hl]

theorem msrCpsr_stateBits (hm : s.mode ≠ .usr) (h0 : operand &&& byteMask mask &&& stateMask ≠ 0) :
    s.msrCpsr mask operand = .refused .executionStateBits := by
  have hp : s.privileged = true := (privileged_iff s).2 hm
  have hb : (operand &&& byteMask mask &&& stateMask != 0) = true := bne_iff_ne.2 h0
  simp only [State.msrCpsr, hp, hb, Bool.and_self, if_true]

theorem msrSpsr_some {q : Psr} (hpc : s.pc ≠ 0xFFFFFFFC#32) (h : s.spsr.get s.mode = some q) :
    s.msrSpsr mask operand = .next { s with
      spsr := s.spsr.set s.mode (q.writeMasked (byteMask mask &&& (userMask ||| privMask ||| stateMask)) operand)
      pc := s.pc + 4 } := by
  rw [State.msrSpsr, h]
  exact State.advance_next hpc

theorem msrSpsr_none (h : s.mode = .usr ∨ s.mode = .sys) : s.msrSpsr mask operand = .refused .noSpsr := by
  rw [State.msrSpsr, show s.spsr.get s.mode = none by rcases h with h | h <;> rw [h] <;> rfl]

end

/-- Settles O31: the two forms differ in the operand alone. -/
theorem msrResults : Obligations.MsrResults := by
  refine ⟨fun mask k hk => byteMask_bit mask hk, ?_⟩
  intro s c mask operand i h hform written p stateBits
  obtain ⟨hcpsr, hspsr⟩ : exec (i false) s = s.msrCpsr mask operand ∧ exec (i true) s = s.msrSpsr mask operand := by
    obtain ⟨rm, hrm, rfl, rfl⟩ | ⟨op, rfl, rfl⟩ := hform
    · have hpc : 15#4 ∉ [rm] := fun hm => hrm (List.mem_singleton.1 hm).symm
      exact ⟨exec_body h hpc (regs := [rm]) rfl (List.Subset.refl _),
        exec_body h hpc (regs := [rm]) rfl (List.Subset.refl _)⟩
    · exact ⟨whenCond_pass h.1 _, whenCond_pass h.1 _⟩
  have hp : s.cpsr.writeMasked (byteMask mask &&& (userMask ||| privMask)) operand = p := Psr.writeMasked_eq ..
  refine ⟨fun hm hl => ?_, fun hm h0 hl => ?_, fun hm h0 hl => ?_, fun hm h0 => ?_, fun q hq => ?_, fun hm => ?_⟩
  · rw [Ends, hcpsr, msrCpsr_user h.2 hm hl, Psr.writeMasked_eq]
    rfl
  · obtain ⟨m, hmode⟩ := Option.isSome_iff_exists.1 hl
    rw [Ends, hcpsr, msrCpsr_legal hm h0 (hp ▸ hmode), hp]
    exact State.advance_next h.2
  · exact hcpsr.trans (msrCpsr_illegal hm h0 (hp ▸ hl))
  · exact hcpsr.trans (msrCpsr_stateBits hm h0)
  · rw [Ends, hspsr, msrSpsr_some h.2 hq, Psr.writeMasked_eq]
    rfl
  · exact hspsr.trans (msrSpsr_none hm)

theorem cpsFieldsAllowed_iff (imod : BitVec 2) (mmod a i f : Bool) (mode : BitVec 5) :
    cpsFieldsAllowed imod mmod a i f mode = true ↔
      ¬ (imod = 1#2 ∨ (imod = 0#2 ∧ mmod = false) ∨ (imod.getLsbD 1 = true ∧ (a || i || f) = false)
        ∨ (imod.getLsbD 1 = false ∧ (a || i || f) = true) ∨ (mmod = false ∧ mode ≠ 0)) := by
  unfold cpsFieldsAllowed
  cases imod.getLsbD 1 <;> cases a || i || f <;> cases mmod <;> simp [and_assoc]

/-- Settles O32. -/
theorem cpsResults : Obligations.CpsResults := by
  intro s imod mmod a i f mode hpc bad
  have hx : exec (.cps imod mmod a i f mode) s = execCps imod mmod a i f mode s := rfl
  have hallowed := cpsFieldsAllowed_iff imod mmod a i f mode
  unfold execCps at hx
  refine ⟨fun hb => ?_, fun hb hm => ?_, fun hb hm hl => ?_, fun hb hm h1 hl => ?_⟩
  · have hf : cpsFieldsAllowed imod mmod a i f mode = false := by
      rw [Bool.eq_false_iff]
      exact fun h => hallowed.1 h hb
    rw [hx, hf]
    rfl
  · have hp : s.privileged = false := by simp [State.privileged, hm]
    rw [Ends, hx, hallowed.2 hb, hp]
    exact State.advance_next hpc
  · rw [Ends, hx, hallowed.2 hb, (privileged_iff s).2 hm]
    cases mmod
    · exact State.advance_next hpc
    · obtain ⟨m, hmode⟩ := Option.isSome_iff_exists.1 (hl rfl)
      simp only [Bool.not_true, Bool.false_eq_true, if_false, if_true, hmode]
      exact State.advance_next hpc
  · subst h1
    rw [hx, hallowed.2 hb, (privileged_iff s).2 hm]
    simp only [Bool.not_true, Bool.false_eq_true, if_false, if_true, hl]

/-! ### Addressing modes -/

theorem ofInt_add_toNat (x y : Word) : BitVec.ofInt 32 ((x.toNat : Int) + y.toNat) = x + y := by
  rw [BitVec.ofInt_add, ← eq_ofInt_toNat, ← eq_ofInt_toNat]

theorem ofInt_sub_toNat (x y : Word) : BitVec.ofInt 32 ((x.toNat : Int) - y.toNat) = x - y := by
  rw [Int.sub_eq_add_neg, BitVec.ofInt_add, BitVec.ofInt_neg, ← eq_ofInt_toNat, ← eq_ofInt_toNat,
    BitVec.sub_eq_add_neg]

theorem applyOffset_eq (u : Bool) (base offset : Word) : applyOffset u base offset
    = BitVec.ofInt 32 (if u then (base.toNat : Int) + offset.toNat else (base.toNat : Int) - offset.toNat) := by
  cases u
  · exact (ofInt_sub_toNat ..).symm
  · exact (ofInt_add_toNat ..).symm

/-- A word displaced by a multiple of four. -/
theorem ofInt_up (base : Word) (n : Nat) :
    BitVec.ofInt 32 ((base.toNat : Int) + 4 * n) = base + BitVec.ofNat 32 (4 * n) := by
  rw [BitVec.ofInt_add, ← eq_ofInt_toNat, ← BitVec.ofInt_natCast]
  push_cast
  rfl

theorem ofInt_down (base : Word) (n : Nat) :
    BitVec.ofInt 32 ((base.toNat : Int) + -4 * n) = base - BitVec.ofNat 32 (4 * n) := by
  rw [BitVec.ofInt_add, ← eq_ofInt_toNat, Int.neg_mul, BitVec.ofInt_neg, BitVec.sub_eq_add_neg, ← BitVec.ofInt_natCast]
  push_cast
  rfl

theorem shiftByImm_asr_toInt (k : BitVec 5) (x : Word) (c : Bool) :
    (shiftByImm .asr k x c).value.toInt = x.toInt / 2 ^ (if k.toNat = 0 then 32 else k.toNat) := by
  unfold shiftByImm
  dsimp only
  split
  · exact shiftAsr_toInt x 32
  · exact shiftAsr_toInt x k.toNat

theorem shiftByImm_lsr_toNat (k : BitVec 5) (x : Word) (c : Bool) :
    (shiftByImm .lsr k x c).value.toNat = x.toNat / 2 ^ (if k.toNat = 0 then 32 else k.toNat) := by
  unfold shiftByImm
  dsimp only
  split
  · exact (Nat.div_eq_of_lt x.isLt).symm
  · exact shiftLsr_toNat x k.toNat

theorem shiftByImm_lsl (k : BitVec 5) (x : Word) (c : Bool) :
    (shiftByImm .lsl k x c).value = BitVec.ofNat 32 (x.toNat * 2 ^ k.toNat) := by
  have hn : shiftLsl x k.toNat = BitVec.ofNat 32 (x.toNat * 2 ^ k.toNat) :=
    BitVec.eq_of_toNat_eq (by rw [shiftLsl_toNat, BitVec.toNat_ofNat])
  unfold shiftByImm
  dsimp only
  split
  · next h => rw [h, Nat.pow_zero, Nat.mul_one, BitVec.ofNat_toNat, BitVec.setWidth_eq]
  · exact hn

/-- A rotation is the sum of the two parts that change places. -/
theorem shiftRor_toNat (x : Word) {n : Nat} (h : n < 32) :
    (shiftRor x n).toNat = x.toNat / 2 ^ n + x.toNat % 2 ^ n * 2 ^ (32 - n) := by
  have hp : 2 ^ 32 = 2 ^ n * 2 ^ (32 - n) := by rw [← Nat.pow_add]; congr 1; omega
  have hlow : x.toNat * 2 ^ (32 - n) % 2 ^ 32 = x.toNat % 2 ^ n * 2 ^ (32 - n) := by
    rw [hp, Nat.mul_mod_mul_right]
  have hdiv : x.toNat / 2 ^ n < 2 ^ (32 - n) := Nat.div_lt_of_lt_mul (hp ▸ x.isLt)
  rw [shiftRor_of_ne, Nat.mod_eq_of_lt h, BitVec.toNat_or, shiftLsr_toNat, shiftLsl_toNat, hlow, Nat.or_comm,
    ← Nat.shiftLeft_eq, ← Nat.shiftLeft_add_eq_or_of_lt hdiv, Nat.shiftLeft_eq, Nat.add_comm]

/-- Settles O39. -/
theorem addressingModes : Obligations.AddressingModes := by
  intro s u base offset rn r op n list sum x k at4
  have hsum : applyOffset u base offset = sum := applyOffset_eq ..
  have hso : scaledOffset s op = (shiftByImm op.ty op.amount x s.cpsr.c).value := rfl
  refine ⟨⟨hsum, hsum, rfl⟩, ⟨rfl, by rw [← hsum]; rfl, by rw [← hsum]; rfl⟩, fun h => ?_, fun h => ?_, fun h => ?_,
    fun h hk => ?_, fun h hk => ?_, rfl, ?_, ?_, (ofInt_down ..).symm, (ofInt_up ..).symm, (ofInt_up ..).symm,
    (ofInt_down ..).symm, (ofInt_down ..).symm, mem_listRegs, pairwise_listRegs list⟩
  · rw [hso, h]
    exact shiftByImm_lsl ..
  · rw [hso, h]
    exact shiftByImm_lsr_toNat ..
  · rw [hso, h]
    exact shiftByImm_asr_toInt ..
  · rw [hso, h, ← shiftRor_toNat x op.amount.isLt, shiftByImm]
    exact congrArg (fun v : Shifted => v.value.toNat) (if_neg hk)
  · rw [hso, h, ← shiftRrx_toNat, shiftByImm]
    exact congrArg (fun v : Shifted => v.value.toNat) (if_pos hk)
  · exact (ofInt_up base 1).symm
  · show base - BitVec.ofNat 32 (4 * n) + 4 = BitVec.ofInt 32 _
    rw [← ofInt_down, ← Int.add_assoc, BitVec.ofInt_add _ 4]
    rfl

end Sys2Proof.Machine

/-!
Memory, and the accesses that memory serves (R86, R127 to R146): bytes, plain accesses with the MMU off, alignment, and
transfers of several words.
-/

namespace Sys2Proof.Machine

open Sys2Proof

/-! ### Bytes of memory -/

theorem Memory.readBytes_writeBytes (bs : List Byte) {m : Memory} (a : Nat) (h : m.wf = true) :
    (m.writeBytes a bs).readBytes a bs.length = bs := by
  induction bs generalizing m a with
  | nil => rfl
  | cons b bs ih =>
    show (Memory.writeBytes (m.write a b) (a + 1) bs).read a :: _ = _
    rw [Memory.read_writeBytes_ne bs _ (.inl (Nat.lt_succ_self a)), Memory.read_write m a b a h, if_pos rfl]
    exact congrArg (b :: ·) (ih (a + 1) (Memory.write_wf m a b h))

/-- A canonical memory starts at its lowest byte that is not zero. -/
theorem Memory.read_head {k : Nat} {v : Byte} {rest : Memory} (h : Memory.wf ((k, v) :: rest) = true) :
    v ≠ 0 ∧ Memory.wf rest = true ∧ ∀ a ≤ k, Memory.read rest a = 0 := by
  rw [Memory.wf_iff] at h
  obtain ⟨hv, hp⟩ := h
  obtain ⟨hk, hp⟩ := List.pairwise_cons.1 hp
  exact ⟨hv _ List.mem_cons_self, (Memory.wf_iff _).2 ⟨fun c hc => hv c (List.mem_cons_of_mem _ hc), hp⟩,
    fun a ha => Memory.read_below _ _ fun c hc => ha.trans_lt (hk c hc)⟩

theorem Memory.read_cons_self (k : Nat) (v : Byte) (rest : Memory) : Memory.read ((k, v) :: rest) k = v := by
  simp [Memory.read]

theorem Memory.read_cons_ne {k a : Nat} (v : Byte) (rest : Memory) (h : k ≠ a) :
    Memory.read ((k, v) :: rest) a = Memory.read rest a := by
  simp [Memory.read, h]

/-- Two canonical memories with different lowest addresses read differently at the lower one. -/
theorem Memory.read_ne_of_lt {k l : Nat} {v w : Byte} {m n : Memory} (hm : Memory.wf ((k, v) :: m) = true)
    (hn : Memory.wf ((l, w) :: n) = true) (h : k < l) :
    Memory.read ((k, v) :: m) k ≠ Memory.read ((l, w) :: n) k := by
  rw [Memory.read_cons_self, Memory.read_cons_ne w n h.ne', (Memory.read_head hn).2.2 k h.le]
  exact (Memory.read_head hm).1

/-- Canonical memories that read alike are the same data. -/
theorem Memory.ext_of_read (m n : Memory) (hm : m.wf = true) (hn : n.wf = true) (h : ∀ a, m.read a = n.read a) :
    m = n := by
  induction m generalizing n with
  | nil =>
    cases n with
    | nil => rfl
    | cons y n =>
      have := h y.1
      rw [Memory.read_cons_self] at this
      exact absurd this.symm (Memory.read_head hn).1
  | cons x m ih =>
    obtain ⟨k, v⟩ := x
    cases n with
    | nil =>
      have := h k
      rw [Memory.read_cons_self] at this
      exact absurd this (Memory.read_head hm).1
    | cons y n =>
      obtain ⟨l, w⟩ := y
      have hk : k = l := by
        rcases Nat.lt_trichotomy k l with hlt | he | hlt
        · exact absurd (h k) (Memory.read_ne_of_lt hm hn hlt)
        · exact he
        · exact absurd (h l).symm (Memory.read_ne_of_lt hn hm hlt)
      subst hk
      have hv : v = w := by
        have := h k
        rwa [Memory.read_cons_self, Memory.read_cons_self] at this
      subst hv
      obtain ⟨-, hwm, hzm⟩ := Memory.read_head hm
      obtain ⟨-, hwn, hzn⟩ := Memory.read_head hn
      refine congrArg _ (ih n hwm hwn fun a => ?_)
      by_cases ha : k = a
      · rw [hzm a ha.ge, hzn a ha.ge]
      · have := h a
        rwa [Memory.read_cons_ne _ _ ha, Memory.read_cons_ne _ _ ha] at this

/-- Settles O35. -/
theorem memoryLaws : Obligations.MemoryLaws :=
  ⟨fun _ a bs h => ⟨Memory.readBytes_writeBytes bs a h, fun _ hb => Memory.read_writeBytes_ne bs _ hb⟩,
    fun m n => Memory.ext_of_read m n⟩

/-! ### Words and bytes -/

theorem shift_or_toNat {x : Word} (b : Byte) (h : x.toNat < 2 ^ 24) :
    ((x <<< 8) ||| b.setWidth 32).toNat = x.toNat * 2 ^ 8 + b.toNat := by
  have hb : b.toNat < 2 ^ 8 := b.isLt
  rw [BitVec.toNat_or, BitVec.toNat_shiftLeft, BitVec.toNat_setWidth, Nat.mod_eq_of_lt (by omega : b.toNat < 2 ^ 32),
    Nat.mod_eq_of_lt (by rw [Nat.shiftLeft_eq]; omega), ← Nat.shiftLeft_add_eq_or_of_lt hb, Nat.shiftLeft_eq]

theorem append_byte_toNat {w : Nat} (x : BitVec w) (b : Byte) : (x ++ b).toNat = x.toNat * 2 ^ 8 + b.toNat := by
  have hb : b.toNat < 2 ^ 8 := b.isLt
  rw [BitVec.toNat_append, ← Nat.shiftLeft_add_eq_or_of_lt hb, Nat.shiftLeft_eq]

theorem bytesToWord_one (b0 : Byte) : bytesToWord [b0] = b0.setWidth 32 := by simp [bytesToWord]

theorem bytesToWord_one_toNat (b0 : Byte) : (bytesToWord [b0]).toNat = b0.toNat := by
  rw [bytesToWord_one, BitVec.toNat_setWidth, Nat.mod_eq_of_lt (by have := b0.isLt; omega)]

theorem bytesToWord_two_toNat (b0 b1 : Byte) : (bytesToWord [b0, b1]).toNat = b1.toNat * 2 ^ 8 + b0.toNat := by
  have h1 := b1.isLt
  rw [bytesToWord, shift_or_toNat _ (by rw [bytesToWord_one_toNat]; omega), bytesToWord_one_toNat]

theorem bytesToWord_two (b0 b1 : Byte) : bytesToWord [b0, b1] = (b1 ++ b0).setWidth 32 := by
  have h0 := b0.isLt
  have h1 := b1.isLt
  apply BitVec.eq_of_toNat_eq
  rw [bytesToWord_two_toNat, BitVec.toNat_setWidth, append_byte_toNat, Nat.mod_eq_of_lt (by omega)]

theorem bytesToWord_four (b0 b1 b2 b3 : Byte) : bytesToWord [b0, b1, b2, b3] = b3 ++ b2 ++ b1 ++ b0 := by
  have h1 := b1.isLt
  have h2 := b2.isLt
  have h3 := b3.isLt
  have hthree : (bytesToWord [b1, b2, b3]).toNat = (b3.toNat * 2 ^ 8 + b2.toNat) * 2 ^ 8 + b1.toNat := by
    rw [bytesToWord, shift_or_toNat _ (by rw [bytesToWord_two_toNat]; omega), bytesToWord_two_toNat]
  apply BitVec.eq_of_toNat_eq
  rw [bytesToWord, shift_or_toNat _ (by rw [hthree]; omega), hthree, append_byte_toNat, append_byte_toNat,
    append_byte_toNat]

theorem wordToBytes_shifted (v : Word) (j n : Nat) :
    wordToBytes (v >>> (8 * j)) n = (List.range n).map fun k => byteOf v (j + k) := by
  induction n generalizing j with
  | zero => rfl
  | succ n ih =>
    have hs : v >>> (8 * j) >>> 8 = v >>> (8 * (j + 1)) := by
      rw [← BitVec.shiftRight_add]
      rfl
    have hb : (v >>> (8 * j)).setWidth 8 = byteOf v j := by
      ext k hk
      simp [byteOf]
    rw [wordToBytes, hs, ih, hb, List.range_succ_eq_map, List.map_cons, List.map_map]
    refine congrArg₂ _ rfl (List.map_congr_left fun k _ => ?_)
    show byteOf v (j + 1 + k) = byteOf v (j + (k + 1))
    rw [Nat.add_assoc, Nat.add_comm 1 k]

theorem wordToBytes_eq (v : Word) (n : Nat) : wordToBytes v n = (List.range n).map fun k => byteOf v k := by
  have := wordToBytes_shifted v 0 n
  simpa using this

theorem split_eq (e : Bool) (size : AccessSize) (v : Word) : split e size v
    = if e then ((List.range size.bytes).map fun k => byteOf v k).reverse
      else (List.range size.bytes).map fun k => byteOf v k := by
  rw [split, wordToBytes_eq]

/-! ### Accesses that memory serves -/

theorem useSynced_closed {s : State} {r : Synced} (h : r.window = []) : s.useSynced r = (r.current, s) := by
  simp [State.useSynced, h]

theorem popResponse_nil {s : State} (h : s.responses = []) : s.popResponse = (.served, s) := by
  simp [State.popResponse, h]

theorem popResponse_cons {s : State} {r : MemoryResponse} {rest : List MemoryResponse} (h : s.responses = r :: rest) :
    s.popResponse = (r, { s with responses := rest }) := by
  simp [State.popResponse, h]

section
variable {s : State} {pa : Nat} (va : Word)

theorem readAt_plain {size : AccessSize} (hb : backed s.cfg pa size.bytes = true) (hr : s.responses = [])
    (hp : parityError s.cfg pa size.bytes = false) :
    readAt s pa va size = .ok (assemble s.cpsr.e (s.mem.readBytes pa size.bytes)) s := by
  simp [readAt, hb, popResponse_nil hr, hp]

theorem writeAt_plain {size : AccessSize} (v : Word) (hb : backed s.cfg pa size.bytes = true) (hr : s.responses = []) :
    writeAt s pa va size v = .ok () (s.store pa size v) := by
  simp [writeAt, hb, popResponse_nil hr]

theorem fetchAt_plain (hb : backed s.cfg pa 4 = true) (hr : s.responses = []) (hp : parityError s.cfg pa 4 = false) :
    fetchAt s pa = .ok (assemble false (s.mem.readBytes pa 4)) s := by
  simp [fetchAt, hb, popResponse_nil hr, hp]

end

theorem setWidth_40_toNat (va : Word) : (va.setWidth 40).toNat = va.toNat := by
  rw [BitVec.toNat_setWidth, Nat.mod_eq_of_lt (by have := va.isLt; omega)]

/-- With the MMU off the address of an aligned access is the virtual one. -/
theorem dataAddress_flat {s : State} {va : Word} {size : AccessSize} (h : Flat s va size) (k : AccessKind)
    (user : Bool) : dataAddress s va size k user = .ok (va.setWidth 40) s := by
  obtain ⟨hw, hm, ha, hr, -⟩ := h
  rw [dataAddress, if_neg (Nat.not_lt.2 hr)]
  simp [useSynced_closed hw, hm, ha]

theorem memRead_flat {s : State} {va : Word} {size : AccessSize} (h : Flat s va size) (user : Bool) :
    memRead s va size user = .ok (assemble s.cpsr.e (s.mem.readBytes va.toNat size.bytes)) s := by
  rw [memRead, dataAddress_flat h]
  obtain ⟨-, -, -, -, hb, hresp, hp⟩ := h
  show readAt s (va.setWidth 40).toNat va size = _
  rw [setWidth_40_toNat]
  exact readAt_plain va hb hresp hp

theorem memWrite_flat {s : State} {va : Word} {size : AccessSize} (h : Flat s va size) (v : Word) (user : Bool) :
    memWrite s va size v user = .ok () (s.store va.toNat size v) := by
  rw [memWrite, dataAddress_flat h]
  obtain ⟨-, -, -, -, hb, hresp, -⟩ := h
  show writeAt s (va.setWidth 40).toNat va size v = _
  rw [setWidth_40_toNat]
  exact writeAt_plain va v hb hresp

theorem fetch_flat {s : State} (h : Flat s s.pc .word) :
    fetch s = .ok (assemble false (s.mem.readBytes s.pc.toNat 4)) s := by
  obtain ⟨hw, hm, -, -, hb, hresp, hp⟩ := h
  have ha : fetchAddress s = .ok (s.pc.setWidth 40) s := by simp [fetchAddress, useSynced_closed hw, hm]
  rw [fetch, ha]
  show fetchAt s (s.pc.setWidth 40).toNat = _
  rw [setWidth_40_toNat]
  exact fetchAt_plain hb hresp hp

/-- Settles O36. -/
theorem flatAccess : Obligations.FlatAccess := by
  intro s t va user pa a quiet b bytes
  refine ⟨fun h => ?_, fun h => ?_, fun h => ?_, fun size v h => ?_, fun h hpc => ?_, fun size h hq => ?_,
    fun size v h hq => ?_, fun h hq => ?_, fun size h => ?_, fun size v h => ?_, fun h => ?_,
    fun b bs => ⟨rfl, rfl, ?_⟩, fun size v => split_eq ..⟩
  · rw [memRead_flat h, ← bytesToWord_one]
    cases s.cpsr.e <;> rfl
  · rw [memRead_flat h, ← bytesToWord_two, ← bytesToWord_two]
    cases s.cpsr.e <;> rfl
  · rw [memRead_flat h, ← bytesToWord_four, ← bytesToWord_four]
    cases s.cpsr.e <;> rfl
  · rw [memWrite_flat h, State.store, split_eq]
  · subst hpc
    rw [fetch_flat h, ← bytesToWord_four]
    rfl
  · obtain ⟨hb, hr, hp⟩ := hq
    rw [memRead, h]
    exact readAt_plain va hb hr hp
  · obtain ⟨hb, hr, -⟩ := hq
    rw [memWrite, h]
    exact writeAt_plain va v hb hr
  · obtain ⟨hb, hr, hp⟩ := hq
    rw [fetch, h]
    exact fetchAt_plain hb hr hp
  · rw [memRead, h]
    rfl
  · rw [memWrite, h]
    rfl
  · rw [fetch, h]
    rfl
  · rw [assemble, assemble, if_pos rfl, List.reverse_cons, if_neg Bool.false_ne_true]

/-! ### Alignment -/

theorem low_bits_zero {va : Word} (h : va.extractLsb' 0 3 = 4#3) : va.extractLsb' 0 2 = 0#2 := by
  have h3 := congrArg BitVec.toNat h
  apply BitVec.eq_of_toNat_eq
  simp only [BitVec.extractLsb'_toNat, Nat.shiftRight_zero, BitVec.toNat_ofNat] at h3 ⊢
  omega

theorem low_bits_of_pair {va : Word} (h : va.extractLsb' 0 3 = 0#3) : va.extractLsb' 0 2 = 0#2 := by
  have h3 := congrArg BitVec.toNat h
  apply BitVec.eq_of_toNat_eq
  simp only [BitVec.extractLsb'_toNat, Nat.shiftRight_zero, BitVec.toNat_ofNat] at h3 ⊢
  omega

/-- Settles O38. -/
theorem misaligned : Obligations.Misaligned := by
  intro s va size k user hw info checked
  have hu : s.useSynced s.sctlr = (s.sctlr.current, s) := useSynced_closed hw
  have hcheck : checked ↔ (ctlM s.sctlr.current && ctlA s.sctlr.current) = true := by
    rw [Bool.and_eq_true]
  refine ⟨fun ha hr => ⟨fun hc => ?_, fun hc => ?_⟩, fun hr => ⟨fun h2 hc => ?_, fun h2 hc => ?_, fun h3 => ?_⟩,
    fun hr => if_pos hr⟩
  · simp only [dataAddress, hu, ha, hcheck.1 hc, if_neg (Nat.not_lt.2 hr), Bool.not_false, if_true]
    rfl
  · have hf : (ctlM s.sctlr.current && ctlA s.sctlr.current) = false := by rwa [hcheck, Bool.not_eq_true] at hc
    simp only [dataAddress, hu, ha, hf, if_neg (Nat.not_lt.2 hr), Bool.not_false, if_true, Bool.false_eq_true, if_false]
  · have h3 : (va.extractLsb' 0 3 == 0) = false := beq_false_of_ne fun h => h2 (low_bits_of_pair h)
    rw [checkPair, if_neg (Nat.not_lt.2 hr), if_neg (ne_true_of_eq_false h3), hu]
    exact if_pos (by rw [hcheck.1 hc, Bool.true_and]; exact bne_iff_ne.2 h2)
  · have h3 : (va.extractLsb' 0 3 == 0) = false := beq_false_of_ne fun h => h2 (low_bits_of_pair h)
    have hf : (ctlM s.sctlr.current && ctlA s.sctlr.current) = false := by rwa [hcheck, Bool.not_eq_true] at hc
    rw [checkPair, if_neg (Nat.not_lt.2 hr), if_neg (ne_true_of_eq_false h3), hu]
    exact if_neg (by simp [hf])
  · rw [checkPair, if_neg (Nat.not_lt.2 hr), if_neg (by rw [h3]; decide), hu]
    exact if_neg (by rw [low_bits_zero h3]; simp)

/-! ### Transfers of several words -/

theorem Res.bind_assoc {α β γ : Type} (x : Res α) (f : α → State → Res β) (g : β → State → Res γ) :
    (x.bind f).bind g = x.bind fun a s => (f a s).bind g := by
  cases x <;> rfl

theorem Res.ok_bind {α β : Type} (a : α) (s : State) (f : α → State → Res β) : (Res.ok a s).bind f = f a s := rfl

theorem Res.bind_pure {α : Type} (x : Res α) : (x.bind fun a s => .ok a s) = x := by cases x <;> rfl

/-- Four bytes further, and then four more for each of `m` words. -/
theorem word_further (va : Word) (m : Nat) : va + 4 + BitVec.ofNat 32 (4 * m) = va + BitVec.ofNat 32 (4 * (m + 1)) := by
  rw [Nat.mul_add, BitVec.ofNat_add, BitVec.add_assoc, BitVec.add_comm (BitVec.ofNat 32 (4 * m))]
  rfl

theorem readWords_add (s : State) (va : Word) (user : Bool) (m n : Nat) :
    readWords s va user (m + n) = (readWords s va user m).bind fun vs t =>
      (readWords t (va + BitVec.ofNat 32 (4 * m)) user n).bind fun ws u => .ok (vs ++ ws) u := by
  induction m generalizing s va with
  | zero =>
    rw [Nat.zero_add]
    show _ = (readWords s (va + 0#32) user n).bind fun ws u => .ok ws u
    rw [BitVec.add_zero, Res.bind_pure]
  | succ m ih =>
    rw [Nat.succ_add]
    simp only [readWords, ih, Res.bind_assoc, word_further, Res.ok_bind, List.cons_append]

theorem writeWords_append (s : State) (va : Word) (user : Bool) (vs ws : List Word) :
    writeWords s va user (vs ++ ws) = (writeWords s va user vs).bind fun _ t =>
      writeWords t (va + BitVec.ofNat 32 (4 * vs.length)) user ws := by
  induction vs generalizing s va with
  | nil =>
    show _ = writeWords s (va + 0#32) user ws
    rw [BitVec.add_zero]
    rfl
  | cons v vs ih =>
    simp only [List.cons_append, writeWords, ih, Res.bind_assoc, word_further, List.length_cons]

theorem readWords_flat (s : State) (user : Bool) (n : Nat) (va : Word)
    (h : ∀ k, k < n → Flat s (va + BitVec.ofNat 32 (4 * k)) .word) :
    readWords s va user n = .ok ((List.range n).map fun k =>
      assemble s.cpsr.e (s.mem.readBytes (va + BitVec.ofNat 32 (4 * k)).toNat 4)) s := by
  induction n generalizing va with
  | zero => rfl
  | succ n ih =>
    have h0 : Flat s va .word := by
      have := h 0 (Nat.succ_pos n)
      rwa [Nat.mul_zero, BitVec.add_zero] at this
    rw [readWords, memRead_flat h0, Res.ok_bind, ih (va + 4) fun k hk => by
      rw [word_further]
      exact h (k + 1) (Nat.succ_lt_succ hk), Res.ok_bind, List.range_succ_eq_map, List.map_cons, List.map_map]
    simp only [word_further]
    rw [Nat.mul_zero, BitVec.add_zero]
    rfl

/-- Settles O40. -/
theorem wordSequences : Obligations.WordSequences := fun s va _ user m n vs ws =>
  ⟨rfl, readWords_add s va user m n, Res.bind_pure _, writeWords_append s va user vs ws, readWords_flat s user n va⟩

end Sys2Proof.Machine

/-!
# External errors and parity errors

What memory answers is one entry of a list (entry 12): a state is `Answered` when it is the state after that entry.
Every access is then a case analysis on the answer, with one lemma per case.
-/
namespace Sys2Proof.Machine
open Sys2Proof

/-- Memory at `pa` answers an access of `n` bytes in `s` with `r`, and leaves `u`. -/
def Answered (s u : State) (pa n : Nat) (r : MemoryResponse) : Prop :=
  backed s.cfg pa n = true ∧ s.popResponse = (r, u)

/-- An access of `n` bytes at `pa` is outside memory, or is answered with an error. -/
def Errs (s u : State) (pa n : Nat) : Prop :=
  (backed s.cfg pa n = false ∧ u = s) ∨ Answered s u pa n .error

theorem answered_cons {s u : State} {pa n : Nat} {r : MemoryResponse}
    (h : backed s.cfg pa n = true ∧ ∃ rest, s.responses = r :: rest ∧ u = { s with responses := rest }) :
    Answered s u pa n r := by
  obtain ⟨hb, rest, hr, rfl⟩ := h
  exact ⟨hb, popResponse_cons hr⟩

theorem answered_nil {s u : State} {pa n : Nat} (h : backed s.cfg pa n = true ∧ s.responses = [] ∧ u = s) :
    Answered s u pa n .served := by
  obtain ⟨hb, hr, rfl⟩ := h
  exact ⟨hb, popResponse_nil hr⟩

/-- An answer leaves everything but the list of answers. -/
theorem Answered.eq {s u : State} {pa n : Nat} {r : MemoryResponse} (h : Answered s u pa n r) :
    u = { s with responses := u.responses } := by
  obtain ⟨-, hp⟩ := h
  cases hr : s.responses with
  | nil => cases (popResponse_nil hr).symm.trans hp; rfl
  | cons _ _ => cases (popResponse_cons hr).symm.trans hp; rfl

theorem Errs.eq {s u : State} {pa n : Nat} (h : Errs s u pa n) : u = { s with responses := u.responses } := by
  obtain ⟨-, rfl⟩ | h := h
  · rfl
  · exact h.eq

section
variable {s u : State} {pa : Nat} {va v : Word} {size : AccessSize}

theorem cfg_of_responses (h : u = { s with responses := u.responses }) : u.cfg = s.cfg := by rw [h]

theorem mem_of_responses (h : u = { s with responses := u.responses }) : u.mem = s.mem := by rw [h]

theorem cpsr_of_responses (h : u = { s with responses := u.responses }) : u.cpsr = s.cpsr := by rw [h]

theorem pc_of_responses (h : u = { s with responses := u.responses }) : u.pc = s.pc := by rw [h]

theorem parityError_iff {c : Params} {n : Nat} : parityError c pa n = true ↔
    c.parity = true ∧ ∃ r ∈ c.parityBad, ∃ k, k < n ∧ r.base ≤ pa + k ∧ pa + k < r.base + r.size := by
  simp only [parityError, Bool.and_eq_true, List.any_eq_true, List.mem_range, decide_eq_true_eq]
  constructor
  · rintro ⟨hp, k, hk, r, hr, hb⟩
    exact ⟨hp, r, hr, k, hk, hb⟩
  · rintro ⟨hp, r, hr, k, hk, hb⟩
    exact ⟨hp, k, hk, r, hr, hb⟩

theorem impreciseAborts_iff {c : Params} :
    impreciseAborts c = true ↔ c.extData = .imprecise ∨ c.extImprecise = true := by
  simp [impreciseAborts, or_comm]

/-! ### Reads -/

/-- Where an external error of a read is an abort, the read is that error. -/
theorem readAt_errs (h : Errs s u pa size.bytes) (hx : s.cfg.extData ≠ .none) : readAt s pa va size =
    externalError u va false (fun t => .ok t.draw.1 t.draw.2) (.fault (.noMemory pa)) := by
  have hc := cfg_of_responses h.eq
  obtain ⟨hb, rfl⟩ | ⟨hb, hp⟩ := h
  · simp [readAt, hb]
  · simp only [readAt, hb, hp, hc, Bool.not_true, Bool.false_eq_true, if_false, beq_self_eq_true, Bool.true_and,
      bne_iff_ne, ne_eq, hx, not_false_eq_true, if_true]
    rw [externalError, externalError, hc]
    cases he : s.cfg.extData with
    | none => exact absurd he hx
    | precise => rfl
    | imprecise => rfl

theorem readAt_outside (hb : backed s.cfg pa size.bytes = false) (hx : s.cfg.extData = .none) :
    readAt s pa va size = .fault (.noMemory pa) := by
  simp [readAt, hb, externalError, hx]

/-- What a read answered with `r` gives where no external error stops it. -/
theorem readAt_answered {r : MemoryResponse} (h : Answered s u pa size.bytes r)
    (hr : r = .error → s.cfg.extData = .none) : readAt s pa va size =
      if r == .lateParity && s.cfg.parity && impreciseAborts s.cfg then .ok (u.pend true).draw.1 (u.pend true).draw.2
      else if ((r == .parity || r == .lateParity) && s.cfg.parity) || parityError s.cfg pa size.bytes then
        .abort ⟨0b11000#5, none, va, false, false⟩ u
      else .ok (assemble s.cpsr.e (s.mem.readBytes pa size.bytes)) u := by
  have hc := cfg_of_responses h.eq
  have hm := mem_of_responses h.eq
  have hs := cpsr_of_responses h.eq
  obtain ⟨hb, hp⟩ := h
  have he : (r == .error && s.cfg.extData != .none) = false := by
    cases r with
    | error => simp [hr rfl]
    | served | parity | lateParity => rfl
  simp only [readAt, hb, hp, hc, hm, hs, he, Bool.not_true, Bool.false_eq_true, if_false]

/-! ### Writes -/

theorem writeAt_errs (h : Errs s u pa size.bytes) (hx : s.cfg.extData ≠ .none) : ∃ keep : Bool, writeAt s pa va size v =
    externalError u va true (fun t => .ok () (if keep then t else t.forgetAt pa size)) (.fault (.noMemory pa)) := by
  have hc := cfg_of_responses h.eq
  obtain ⟨hb, rfl⟩ | ⟨hb, hp⟩ := h
  · exact ⟨true, by simp [writeAt, hb]⟩
  · refine ⟨false, ?_⟩
    simp only [writeAt, hb, hp, Bool.not_true, Bool.false_eq_true, if_false, beq_self_eq_true, if_true]
    rw [externalError, externalError, hc]
    cases he : s.cfg.extData with
    | none => exact absurd he hx
    | precise => rfl
    | imprecise => rfl

theorem writeAt_outside (hb : backed s.cfg pa size.bytes = false) (hx : s.cfg.extData = .none) :
    writeAt s pa va size v = .fault (.noMemory pa) := by
  simp [writeAt, hb, externalError, hx]

theorem writeAt_answered {r : MemoryResponse} (h : Answered s u pa size.bytes r)
    (hr : r = .error → s.cfg.extData = .none) :
    writeAt s pa va size v = .ok () { u with mem := s.mem.writeBytes pa (split s.cpsr.e size v) } := by
  have hc := cfg_of_responses h.eq
  rw [← mem_of_responses h.eq, ← cpsr_of_responses h.eq]
  obtain ⟨hb, hp⟩ := h
  cases r with
  | error => simp [writeAt, hb, hp, externalError, hc, hr rfl, State.store]
  | served | parity | lateParity => simp [writeAt, hb, hp, State.store]

/-- A value forgotten at a physical address changes its own bytes only. -/
theorem State.forgetAt_eq (t : State) (pa : Nat) (size : AccessSize) : ∃ m n,
    t.forgetAt pa size = { t with mem := m, draws := n }
      ∧ ∀ a, a < pa ∨ pa + size.bytes ≤ a → m.read a = t.mem.read a :=
  ⟨_, _, rfl, fun _ h => Memory.read_writeBytes_ne _ _ (by rwa [split_length])⟩

/-! ### Fetches and walks -/

theorem fetchAt_errs (h : Errs s u pa 4) (hx : s.cfg.extFetch = true) :
    fetchAt s pa = .abort ⟨0b01000#5, none, s.pc, false, false⟩ u := by
  have hc := cfg_of_responses h.eq
  have hpc := pc_of_responses h.eq
  obtain ⟨hb, rfl⟩ | ⟨hb, hp⟩ := h
  · simp [fetchAt, hb, hx]
  · simp [fetchAt, hb, hp, hc, hx, hpc]

theorem fetchAt_answered {r : MemoryResponse} (h : Answered s u pa 4 r) (hr : r = .error → s.cfg.extFetch = false) :
    fetchAt s pa = if ((r == .parity || r == .lateParity) && s.cfg.parity) || parityError s.cfg pa 4 then
      .abort ⟨0b11000#5, none, s.pc, false, false⟩ u
    else .ok (assemble false (s.mem.readBytes pa 4)) u := by
  have hc := cfg_of_responses h.eq
  have hm := mem_of_responses h.eq
  have hpc := pc_of_responses h.eq
  obtain ⟨hb, hp⟩ := h
  have he : (r == .error && s.cfg.extFetch) = false := by
    cases r with
    | error => simp [hr rfl]
    | served | parity | lateParity => rfl
  simp only [fetchAt, hb, hp, hc, hm, hpc, he, Bool.not_true, Bool.false_eq_true, if_false]

theorem walkRead_errs {big : Bool} {i : AbortInfo} (h : Errs s u pa 4) (hx : s.cfg.extWalk = true) :
    walkRead s pa big i = .abort i u := by
  have hc := cfg_of_responses h.eq
  obtain ⟨hb, rfl⟩ | ⟨hb, hp⟩ := h
  · simp [walkRead, hb, hx]
  · simp [walkRead, hb, hp, hc, hx]

theorem walkRead_answered {big : Bool} {i : AbortInfo} {r : MemoryResponse} (h : Answered s u pa 4 r)
    (hr : r = .error → s.cfg.extWalk = false) :
    walkRead s pa big i = .ok (assemble big (s.mem.readBytes pa 4)) u := by
  have hc := cfg_of_responses h.eq
  have hm := mem_of_responses h.eq
  obtain ⟨hb, hp⟩ := h
  cases r with
  | error => simp [walkRead, hb, hp, hc, hm, hr rfl]
  | served | parity | lateParity => simp [walkRead, hb, hp, hm]

end

/-- Settles O37. -/
theorem externalAborts : Obligations.ExternalAborts := by
  intro s u pa va v size big i answered outside error parity imprecise unremarked bad pending late read written
    fetched walked
  have herr (n : Nat) (h : error n) : Errs s u pa n := h.imp id answered_cons
  have hserved (n : Nat) (h : unremarked n) : Answered s u pa n .served := h.elim answered_cons answered_nil
  have hbad (n : Nat) : bad n ↔ parityError s.cfg pa n = true := parityError_iff.symm
  have hok (n : Nat) (h : ¬bad n) : parityError s.cfg pa n = false := by rwa [hbad, Bool.not_eq_true] at h
  refine ⟨fun hx h => ?_, fun hx h => ?_, fun hx => ⟨fun h => ⟨fun hb => ?_, ?_⟩, fun h => ?_⟩, fun hx h => ?_,
    fun hx => ⟨fun h => ?_, fun h hb => ?_⟩, fun hx h => ?_, fun hx => ⟨fun h => ?_, fun h => ?_⟩,
    fun hx => ⟨fun h => ?_, fun h hi => ?_, fun h hi => ?_, fun h => ?_⟩, fun hb h => ?_, fun hb h => ?_,
    fun hx => ⟨fun h => ?_, fun h => ?_⟩, fun h => ?_, fun h => ?_, fun h hb => ?_, fun h hb => ?_⟩
  · have he := herr _ h
    have hxu : u.cfg.extData = .precise := by rw [cfg_of_responses he.eq, hx]
    have hne : s.cfg.extData ≠ .none := by rw [hx]; decide
    obtain ⟨keep, hw⟩ := writeAt_errs (va := va) (v := v) he hne
    rw [readAt_errs he hne, hw, externalError, externalError, hxu]
    exact ⟨rfl, rfl⟩
  · have he := herr _ h
    have hxu : u.cfg.extData = .imprecise := by rw [cfg_of_responses he.eq, hx]
    have hm := mem_of_responses he.eq
    have hne : s.cfg.extData ≠ .none := by rw [hx]; decide
    obtain ⟨keep, hw⟩ := writeAt_errs (va := va) (v := v) he hne
    rw [readAt_errs he hne, hw, externalError, externalError, hxu]
    refine ⟨⟨(u.pend false).draw.1, u.draws + 1, rfl⟩, ?_⟩
    cases keep with
    | true => exact ⟨_, _, rfl, fun a _ => congrArg (Memory.read · a) hm⟩
    | false =>
      obtain ⟨m, n, hf, hframe⟩ := State.forgetAt_eq (u.pend false) pa size
      exact ⟨m, n, congrArg (Res.ok ()) hf, fun a ha => (hframe a ha).trans (congrArg (Memory.read · a) hm)⟩
  · rw [readAt_answered (answered_cons h) fun _ => hx, hok _ hb]
    rfl
  · exact writeAt_answered (answered_cons h) fun _ => hx
  · exact ⟨readAt_outside h.1 hx, writeAt_outside h.1 hx⟩
  · exact fetchAt_errs (herr _ h) hx
  · simp [fetchAt, h.1, hx]
  · rw [fetchAt_answered (answered_cons h) fun _ => hx, hok _ hb]
    rfl
  · exact walkRead_errs (herr _ h) hx
  · simp [walkRead, h.1, hx]
  · exact walkRead_answered (answered_cons h) fun _ => hx
  · rw [readAt_answered (answered_cons h) nofun, hx]
    rfl
  · rw [readAt_answered (answered_cons h) nofun, hx, impreciseAborts_iff.2 hi]
    exact ⟨(u.pend true).draw.1, u.draws + 1, by simp [State.pend, State.draw, late, pending]⟩
  · rw [readAt_answered (answered_cons h) nofun, hx, Bool.eq_false_iff.2 (mt impreciseAborts_iff.1 hi)]
    rfl
  · obtain h | h := h <;> rw [fetchAt_answered (answered_cons h) nofun, hx] <;> rfl
  · rw [readAt_answered (hserved _ h) nofun, (hbad _).1 hb]
    rfl
  · rw [fetchAt_answered (hserved _ h) nofun, (hbad _).1 hb]
    rfl
  · have hp : parityError s.cfg pa size.bytes = false := by rw [parityError, hx, Bool.false_and]
    obtain h | h := h <;> rw [readAt_answered (answered_cons h) nofun, hx, hp] <;> rfl
  · have hp : parityError s.cfg pa 4 = false := by rw [parityError, hx, Bool.false_and]
    obtain h | h := h <;> rw [fetchAt_answered (answered_cons h) nofun, hx, hp] <;> rfl
  · obtain h | h | h := h
    · exact writeAt_answered (hserved _ h) nofun
    · exact writeAt_answered (answered_cons h) nofun
    · exact writeAt_answered (answered_cons h) nofun
  · obtain h | h | h := h
    · exact walkRead_answered (hserved _ h) nofun
    · exact walkRead_answered (answered_cons h) nofun
    · exact walkRead_answered (answered_cons h) nofun
  · rw [readAt_answered (hserved _ h) nofun, hok _ hb]
    rfl
  · rw [fetchAt_answered (hserved _ h) nofun, hok _ hb]
    rfl

end Sys2Proof.Machine

/-!
# Single, doubleword and exclusive loads and stores

Each instruction is one of the two general forms `State.loadForm` and `State.storeForm` with its size, permissions and
extension (`exec_ldr` to `exec_strbt`); what a form does when its access completes, and when it aborts, is proved once.
-/
namespace Sys2Proof.Machine
open Sys2Proof

/-- A sequence aborts where its first part does, or where the rest does. -/
theorem Res.bind_abort {α β : Type} {x : Res α} {f : α → State → Res β} {i : AbortInfo} {u : State}
    (h : x.bind f = .abort i u) : x = .abort i u ∨ ∃ a t, x = .ok a t ∧ f a t = .abort i u := by
  cases x with
  | ok a t => exact .inr ⟨a, t, rfl, h⟩
  | abort j t => cases h; exact .inl rfl
  | fault e => cases h
  | refused r => cases h

/-! ### What an access stores -/

/-- A state that a load left behind, and then a store. -/
theorem OnlyStored.of_same {s t u : State} {pas : List Nat} {n : Nat} (h : SameButTlb s t) (k : OnlyStored t u pas n) :
    OnlyStored s u pas n := by
  obtain ⟨ku, km⟩ := k
  refine ⟨SameButTlb.mem_trans ?_ ku, fun a ha => (km a ha).trans (congrArg (Memory.read · a) h.mem)⟩
  rw [h.mem]
  exact h

theorem writeAt_onlyStored {s t : State} {pa : Nat} {va v : Word} {size : AccessSize}
    (h : writeAt s pa va size v = .ok () t) : OnlyStored s t [pa] size.bytes := by
  obtain ⟨hs, hm⟩ := (writeAt_keeps s pa va size v).ok h
  refine ⟨hs, fun a ha => ?_⟩
  obtain hm | ⟨w, hm⟩ := hm
  · rw [hm]
  · rw [hm, Memory.read_writeBytes_ne]
    rw [split_length]
    exact ha pa (List.mem_singleton_self pa)

theorem memWrite_onlyStored {s t t' : State} {va v : Word} {size : AccessSize} {user : Bool} {pa : BitVec 40}
    (h : memWrite s va size v user = .ok () t) (hpa : dataAddress s va size .write user = .ok pa t') :
    OnlyStored s t [pa.toNat] size.bytes := by
  rw [memWrite, hpa] at h
  exact .of_same ((dataAddress_keeps ..).ok hpa) (writeAt_onlyStored h)

theorem memWrite_address {s t : State} {va v : Word} {size : AccessSize} {user : Bool}
    (h : memWrite s va size v user = .ok () t) : ∃ pa t', dataAddress s va size .write user = .ok pa t' := by
  obtain ⟨pa, t', hpa, -⟩ := Res.bind_ok h
  exact ⟨pa, t', hpa⟩

/-- A transfer to memory that completes stores its words at their addresses and nothing else. -/
theorem writeWords_onlyStored {s t : State} {va : Word} {user : Bool} {values : List Word}
    (h : writeWords s va user values = .ok () t) : OnlyStored s t (storeAddresses s va user values) 4 := by
  induction values generalizing s va with
  | nil => cases h; exact .refl ..
  | cons v vs ih =>
    obtain ⟨⟨⟩, t1, h1, h2⟩ := Res.bind_ok h
    obtain ⟨pa, t', hpa⟩ := memWrite_address h1
    simp only [storeAddresses, hpa, h1]
    exact (memWrite_onlyStored h1 hpa).cons (ih h2)

/-- What the stores keep besides memory. -/
theorem OnlyStored.pc {s t : State} {pas : List Nat} {n : Nat} (h : OnlyStored s t pas n) : t.pc = s.pc := h.1.pc

theorem memWrite_pc {s t : State} {va v : Word} {size : AccessSize} {user : Bool}
    (h : memWrite s va size v user = .ok () t) : t.pc = s.pc := by
  obtain ⟨pa, t', hpa⟩ := memWrite_address h
  exact (memWrite_onlyStored h hpa).pc

/-! ### The ends of an instruction -/

theorem ends_of_advance {i : Instr} {s t : State} (hx : exec i s = t.advance) (ht : t.pc = s.pc)
    (hpc : s.pc ≠ 0xFFFFFFFC#32) : Ends i s t := by
  unfold Ends
  rw [hx, State.advance_next (by rwa [ht]), ht]

section
variable {i : Instr} {s t : State} {idx : IndexMode} {u : Bool} {rn rd : Reg} {offset v : Word} {a : AbortInfo}
  {size : AccessSize} {user : Bool} {extend : Word → Word}

theorem ends_of_loadForm (hw : BaseAllowed idx rn [rd])
    (hr : memRead s (indexAddress idx u (s.readReg rn) offset) size user = .ok v t)
    (hx : exec i s = s.loadForm idx u rn offset rd size user extend) (hrd : rd ≠ 15#4) (hpc : s.pc ≠ 0xFFFFFFFC#32) :
    Ends i s ((t.baseWritten idx u rn (s.readReg rn) offset).writeReg rd (extend v)) ∧ SameButTlb s t := by
  have hs : SameButTlb s t := (memRead_keeps ..).ok hr
  rw [State.loadForm_ok hw hr, if_neg hrd] at hx
  exact ⟨ends_of_advance hx (by rw [State.writeReg_pc, State.baseWritten_pc, hs.pc]) hpc, hs⟩

theorem abort_of_loadForm (hw : BaseAllowed idx rn [rd])
    (hr : memRead s (indexAddress idx u (s.readReg rn) offset) size user = .abort a t)
    (hx : exec i s = s.loadForm idx u rn offset rd size user extend) :
    exec i s = .next (t.dataAbort a) ∧ SameButTlb s t :=
  ⟨hx.trans (State.loadForm_abort hw hr), (memRead_keeps ..).abort hr⟩

theorem ends_of_storeForm (hw : BaseAllowed idx rn [rd])
    (hr : memWrite s (indexAddress idx u (s.readReg rn) offset) size (s.storedReg rd) user = .ok () t)
    (hx : exec i s = s.storeForm idx u rn offset rd size user) (hpc : s.pc ≠ 0xFFFFFFFC#32) :
    Ends i s (t.baseWritten idx u rn (s.readReg rn) offset)
      ∧ ∀ pa t', dataAddress s (indexAddress idx u (s.readReg rn) offset) size .write user = .ok pa t' →
        OnlyStored s t [pa.toNat] size.bytes := by
  rw [State.storeForm_ok hw hr] at hx
  exact ⟨ends_of_advance hx (by rw [State.baseWritten_pc, memWrite_pc hr]) hpc, fun _ _ => memWrite_onlyStored hr⟩

theorem abort_of_storeForm (hw : BaseAllowed idx rn [rd])
    (hr : memWrite s (indexAddress idx u (s.readReg rn) offset) size (s.storedReg rd) user = .abort a t)
    (hx : exec i s = s.storeForm idx u rn offset rd size user) :
    exec i s = .next (t.dataAbort a) ∧ SameButTlb s t :=
  ⟨hx.trans (State.storeForm_abort hw hr), memWrite_abort hr⟩

end

/-! ### The forms of each instruction -/

theorem withOffsetReg_ok {idx : IndexMode} {rn rm : Reg} (hpc : rm ≠ 15#4) (hw : idx ≠ .offset → rm ≠ rn) (body : Out) :
    withOffsetReg idx rn rm body = body := by
  refine if_pos ?_
  cases idx with
  | offset => simp [offsetRegAllowed, indexWritesBack, hpc]
  | pre => simp [offsetRegAllowed, indexWritesBack, hpc, hw nofun]
  | post => simp [offsetRegAllowed, indexWritesBack, hpc, hw nofun]

/-- Both offset forms of addressing mode 2 run the body with their offset. -/
theorem OffsetForms2.exec_eq {s : State} {c : Cond} {idx : IndexMode} {rn : Reg} {imm : BitVec 12 → Instr}
    {scaled : ImmShift → Instr} {offset : Word} {i : Instr} {body : Word → Out}
    (h : OffsetForms2 s idx rn imm scaled offset i) (hc : condPassed c s.cpsr = true)
    (hi : ∀ n, exec (imm n) s = whenCond c s (body (n.setWidth 32)))
    (hs : ∀ op, exec (scaled op) s = whenCond c s (withOffsetReg idx rn op.rm (body (scaledOffset s op)))) :
    exec i s = body offset := by
  obtain ⟨n, rfl, rfl⟩ | ⟨op, rfl, rfl, hpc, hw⟩ := h
  · rw [hi, whenCond_pass hc]
  · rw [hs, whenCond_pass hc, withOffsetReg_ok hpc hw]

/-- Both offset forms of addressing mode 3 run the body with their offset. -/
theorem OffsetForms3.exec_eq {s : State} {c : Cond} {idx : IndexMode} {rn : Reg} {imm : BitVec 8 → Instr}
    {reg : Reg → Instr} {offset : Word} {i : Instr} {body : Word → Out}
    (h : OffsetForms3 s idx rn imm reg offset i) (hc : condPassed c s.cpsr = true)
    (hi : ∀ n, exec (imm n) s = whenCond c s (body (n.setWidth 32)))
    (hs : ∀ rm, i = reg rm → exec (reg rm) s = whenCond c s (withOffsetReg idx rn rm (body (s.readReg rm)))) :
    exec i s = body offset := by
  obtain ⟨n, rfl, rfl⟩ | ⟨rm, rfl, rfl, hpc, hw⟩ := h
  · rw [hi, whenCond_pass hc]
  · rw [hs rm rfl, whenCond_pass hc, withOffsetReg_ok hpc hw]

section
variable {s : State} {c : Cond} {idx : IndexMode} {u : Bool} {rn rd : Reg} {offset : Word} {i : Instr}

theorem exec_ldr (hc : condPassed c s.cpsr = true)
    (h : OffsetForms2 s idx rn (.ldrImm c idx u rn rd) (.ldrReg c idx u rn rd) offset i) :
    exec i s = s.loadForm idx u rn offset rd .word s.user id :=
  h.exec_eq (body := fun o => s.loadForm idx u rn o rd .word s.user id) hc (fun _ => rfl) fun _ => rfl

theorem exec_str (hc : condPassed c s.cpsr = true)
    (h : OffsetForms2 s idx rn (.strImm c idx u rn rd) (.strReg c idx u rn rd) offset i) :
    exec i s = s.storeForm idx u rn offset rd .word s.user :=
  h.exec_eq (body := fun o => s.storeForm idx u rn o rd .word s.user) hc (fun _ => rfl) fun _ => rfl

theorem not_pc_mem (hrd : rd ≠ 15#4) : 15#4 ∉ [rd] := by
  rw [List.mem_singleton]
  exact hrd.symm

theorem exec_ldrb (hc : condPassed c s.cpsr = true) (hrd : rd ≠ 15#4)
    (h : OffsetForms2 s idx rn (.ldrbImm c idx u rn rd) (.ldrbReg c idx u rn rd) offset i) :
    exec i s = s.loadForm idx u rn offset rd .byte s.user zeroByte :=
  (h.exec_eq (body := fun o => withoutPC [rd] (s.loadForm idx u rn o rd .byte s.user zeroByte)) hc (fun _ => rfl)
    fun _ => rfl).trans (withoutPC_ok (not_pc_mem hrd) _)

theorem exec_strb (hc : condPassed c s.cpsr = true) (hrd : rd ≠ 15#4)
    (h : OffsetForms2 s idx rn (.strbImm c idx u rn rd) (.strbReg c idx u rn rd) offset i) :
    exec i s = s.storeForm idx u rn offset rd .byte s.user :=
  (h.exec_eq (body := fun o => withoutPC [rd] (s.storeForm idx u rn o rd .byte s.user)) hc (fun _ => rfl)
    fun _ => rfl).trans (withoutPC_ok (not_pc_mem hrd) _)

theorem exec_ldrh (hc : condPassed c s.cpsr = true) (hrd : rd ≠ 15#4)
    (h : OffsetForms3 s idx rn (.ldrhImm c idx u rn rd) (.ldrhReg c idx u rn rd) offset i) :
    exec i s = s.loadForm idx u rn offset rd .half s.user zeroHalf :=
  (h.exec_eq (body := fun o => withoutPC [rd] (s.loadForm idx u rn o rd .half s.user zeroHalf)) hc (fun _ => rfl)
    fun _ _ => rfl).trans (withoutPC_ok (not_pc_mem hrd) _)

theorem exec_ldrsb (hc : condPassed c s.cpsr = true) (hrd : rd ≠ 15#4)
    (h : OffsetForms3 s idx rn (.ldrsbImm c idx u rn rd) (.ldrsbReg c idx u rn rd) offset i) :
    exec i s = s.loadForm idx u rn offset rd .byte s.user signByte :=
  (h.exec_eq (body := fun o => withoutPC [rd] (s.loadForm idx u rn o rd .byte s.user signByte)) hc (fun _ => rfl)
    fun _ _ => rfl).trans (withoutPC_ok (not_pc_mem hrd) _)

theorem exec_ldrsh (hc : condPassed c s.cpsr = true) (hrd : rd ≠ 15#4)
    (h : OffsetForms3 s idx rn (.ldrshImm c idx u rn rd) (.ldrshReg c idx u rn rd) offset i) :
    exec i s = s.loadForm idx u rn offset rd .half s.user signHalf :=
  (h.exec_eq (body := fun o => withoutPC [rd] (s.loadForm idx u rn o rd .half s.user signHalf)) hc (fun _ => rfl)
    fun _ _ => rfl).trans (withoutPC_ok (not_pc_mem hrd) _)

theorem exec_strh (hc : condPassed c s.cpsr = true) (hrd : rd ≠ 15#4)
    (h : OffsetForms3 s idx rn (.strhImm c idx u rn rd) (.strhReg c idx u rn rd) offset i) :
    exec i s = s.storeForm idx u rn offset rd .half s.user :=
  (h.exec_eq (body := fun o => withoutPC [rd] (s.storeForm idx u rn o rd .half s.user)) hc (fun _ => rfl)
    fun _ _ => rfl).trans (withoutPC_ok (not_pc_mem hrd) _)

theorem exec_ldrt (hc : condPassed c s.cpsr = true) (hrd : rd ≠ 15#4)
    (h : OffsetForms2 s .post rn (.ldrtImm c u rn rd) (.ldrtReg c u rn rd) offset i) :
    exec i s = s.loadForm .post u rn offset rd .word true id :=
  (h.exec_eq (body := fun o => withoutPC [rd] (s.loadForm .post u rn o rd .word true id)) hc (fun _ => rfl)
    fun _ => rfl).trans (withoutPC_ok (not_pc_mem hrd) _)

theorem exec_ldrbt (hc : condPassed c s.cpsr = true) (hrd : rd ≠ 15#4)
    (h : OffsetForms2 s .post rn (.ldrbtImm c u rn rd) (.ldrbtReg c u rn rd) offset i) :
    exec i s = s.loadForm .post u rn offset rd .byte true zeroByte :=
  (h.exec_eq (body := fun o => withoutPC [rd] (s.loadForm .post u rn o rd .byte true zeroByte)) hc (fun _ => rfl)
    fun _ => rfl).trans (withoutPC_ok (not_pc_mem hrd) _)

theorem exec_strt (hc : condPassed c s.cpsr = true) (hrd : rd ≠ 15#4)
    (h : OffsetForms2 s .post rn (.strtImm c u rn rd) (.strtReg c u rn rd) offset i) :
    exec i s = s.storeForm .post u rn offset rd .word true :=
  (h.exec_eq (body := fun o => withoutPC [rd] (s.storeForm .post u rn o rd .word true)) hc (fun _ => rfl)
    fun _ => rfl).trans (withoutPC_ok (not_pc_mem hrd) _)

theorem exec_strbt (hc : condPassed c s.cpsr = true) (hrd : rd ≠ 15#4)
    (h : OffsetForms2 s .post rn (.strbtImm c u rn rd) (.strbtReg c u rn rd) offset i) :
    exec i s = s.storeForm .post u rn offset rd .byte true :=
  (h.exec_eq (body := fun o => withoutPC [rd] (s.storeForm .post u rn o rd .byte true)) hc (fun _ => rfl)
    fun _ => rfl).trans (withoutPC_ok (not_pc_mem hrd) _)

theorem exec_ldrd (hc : condPassed c s.cpsr = true)
    (hrm : ∀ rm, i = .ldrdReg c idx u rn rd rm → rm ≠ rd ∧ rm ≠ rd + 1)
    (h : OffsetForms3 s idx rn (.ldrdImm c idx u rn rd) (.ldrdReg c idx u rn rd) offset i) :
    exec i s = s.loadPair idx u rn offset rd :=
  h.exec_eq (body := fun o => s.loadPair idx u rn o rd) hc (fun _ => rfl) fun rm hi => by
    obtain ⟨h1, h2⟩ := hrm rm hi
    have hne : (decide (rm = rd) || decide (rm = pairOf rd)) = false := by
      rw [decide_eq_false h1, decide_eq_false (p := rm = pairOf rd) h2, Bool.or_self]
    show whenCond c s (withOffsetReg idx rn rm (if (decide (rm = rd) || decide (rm = pairOf rd)) = true then _ else _)) = _
    rw [hne]
    rfl

theorem exec_strd (hc : condPassed c s.cpsr = true)
    (h : OffsetForms3 s idx rn (.strdImm c idx u rn rd) (.strdReg c idx u rn rd) offset i) :
    exec i s = s.storePair idx u rn offset rd :=
  h.exec_eq (body := fun o => s.storePair idx u rn o rd) hc (fun _ => rfl) fun _ _ => rfl

end

/-- Settles O41. -/
theorem loadResults : Obligations.LoadResults := by
  intro s t c idx u rn rd offset v i hc hw base t' ends read
  refine ⟨fun h hr => ⟨fun hrd => ends_of_loadForm hw hr (exec_ldr hc h) hrd, fun hrd => ?_⟩,
    fun h hr hrd => ends_of_loadForm hw hr (exec_ldrb hc hrd h) hrd,
    fun h hr hrd => ends_of_loadForm hw hr (exec_ldrh hc hrd h) hrd,
    fun h hr hrd => ends_of_loadForm hw hr (exec_ldrsb hc hrd h) hrd,
    fun h hr hrd => ends_of_loadForm hw hr (exec_ldrsh hc hrd h) hrd, ?_, ?_⟩
  · have hx := (exec_ldr hc h).trans (State.loadForm_ok hw hr)
    rw [if_pos hrd, id] at hx
    exact ⟨fun h0 => ⟨hx.trans (State.branchExchange_next h0), (memRead_keeps ..).ok hr⟩,
      fun h1 => hx.trans (State.branchExchange_thumb h1), fun h2 => hx.trans (State.branchExchange_unaligned h2)⟩
  · rintro rfl h hr hrd
    exact ends_of_loadForm hw hr (exec_ldrt hc hrd h) hrd
  · rintro rfl h hr hrd
    exact ends_of_loadForm hw hr (exec_ldrbt hc hrd h) hrd

/-- Settles O42. -/
theorem storeResults : Obligations.StoreResults := by
  intro s t c idx u rn rd offset i hrun hw base va v ends
  obtain ⟨hc, hpc⟩ := hrun
  refine ⟨fun h hr => ends_of_storeForm hw hr (exec_str hc h) hpc,
    fun hrd h hr => ends_of_storeForm hw hr (exec_strb hc hrd h) hpc,
    fun hrd h hr => ends_of_storeForm hw hr (exec_strh hc hrd h) hpc, ?_, ?_⟩
  · rintro hrd rfl h hr
    exact ends_of_storeForm hw hr (exec_strt hc hrd h) hpc
  · rintro hrd rfl h hr
    exact ends_of_storeForm hw hr (exec_strbt hc hrd h) hpc

/-! ### Doublewords, exclusives and swaps -/

theorem checkPair_aligned {s : State} {va : Word} (ha : va.extractLsb' 0 3 = 0#3) (hr : va.toNat + 8 ≤ 2 ^ 32)
    (k : AccessKind) : checkPair s va k = .ok () s := by
  rw [checkPair, if_neg (Nat.not_lt.2 hr), if_pos (by rw [ha]; rfl)]

theorem pairAllowed_of {idx : IndexMode} {rn rd : Reg} (heven : rd.getLsbD 0 = false) (h14 : rd ≠ 14#4)
    (hw : BaseAllowed idx rn [rd, rd + 1]) : pairAllowed idx rn rd = true := by
  rw [pairAllowed, heven, bne_iff_ne.2 h14]
  exact writebackAllowed_of hw

/-- LDRD whose accesses complete. -/
theorem State.loadPair_ok {s t1 t2 : State} {idx : IndexMode} {u : Bool} {rn rd : Reg} {offset d0 d1 : Word}
    (hp : pairAllowed idx rn rd = true)
    (hcheck : checkPair s (indexAddress idx u (s.readReg rn) offset) .read = .ok () s)
    (h0 : memRead s (indexAddress idx u (s.readReg rn) offset) .word s.user = .ok d0 t1)
    (h1 : memRead t1 (indexAddress idx u (s.readReg rn) offset + 4) .word s.user = .ok d1 t2) :
    s.loadPair idx u rn offset rd =
      (((t2.baseWritten idx u rn (s.readReg rn) offset).writeReg rd d0).writeReg (rd + 1) d1).advance := by
  rw [State.loadPair, hp]
  simp only [hcheck, Res.ok_bind, h0, h1]
  rw [← State.writeback_eq]
  rfl

/-- STRD whose accesses complete. -/
theorem State.storePair_ok {s t : State} {idx : IndexMode} {u : Bool} {rn rd : Reg} {offset : Word}
    (hp : pairAllowed idx rn rd = true)
    (hcheck : checkPair s (indexAddress idx u (s.readReg rn) offset) .write = .ok () s)
    (h : writeWords s (indexAddress idx u (s.readReg rn) offset) s.user [s.readReg rd, s.readReg (rd + 1)] = .ok () t) :
    s.storePair idx u rn offset rd = (t.baseWritten idx u rn (s.readReg rn) offset).advance := by
  rw [State.storePair, hp]
  simp only [hcheck]
  rw [← State.writeback_eq]
  exact State.storeWords_ok h _

/-- Settles O44. -/
theorem doublewordResults : Obligations.DoublewordResults := by
  intro s t1 t2 c idx u rn rd offset d0 d1 i hrun heven h14 hw base va values ha hr
  obtain ⟨hc, hpc⟩ := hrun
  have hp := pairAllowed_of heven h14 hw
  refine ⟨fun h hrm h0 h1 => ?_, fun h hs => ?_⟩
  · have hsame : SameButTlb s t2 :=
      SameButTlb.trans ((memRead_keeps ..).ok h0) ((memRead_keeps ..).ok h1)
    have hx := (exec_ldrd hc hrm h).trans (State.loadPair_ok hp (checkPair_aligned ha hr _) h0 h1)
    refine ⟨ends_of_advance hx ?_ hpc, hsame⟩
    rw [State.writeReg_pc, State.writeReg_pc, State.baseWritten_pc, hsame.pc]
  · have hstored := writeWords_onlyStored hs
    have hx := (exec_strd hc h).trans (State.storePair_ok hp (checkPair_aligned ha hr _) hs)
    exact ⟨ends_of_advance hx (by rw [State.baseWritten_pc, hstored.pc]) hpc, hstored⟩

section
variable {s : State} {c : Cond} {rn rd rm : Reg} {size : AccessSize} {extend : Word → Word}

/-- The instructions for semaphores run when their registers are allowed. -/
theorem exec_ldrex (hc : condPassed c s.cpsr = true) (hregs : 15#4 ∉ [rn, rd]) : exec (.ldrex c rn rd) s =
    ((dataAddress s (s.readReg rn) .word .read s.user).bind fun pa t =>
      (readAt t pa.toNat (s.readReg rn) .word).bind fun v t => .ok (pa.toNat, v) t).finish
      (fun r t => ({ t.writeReg rd r.2 with excl := some r.1 }).advance) abortInstruction :=
  (whenCond_pass hc _).trans (withoutPC_ok hregs _)

theorem exec_strex (hc : condPassed c s.cpsr = true) (hregs : 15#4 ∉ [rn, rd, rm]) (hn : rd ≠ rn) (hm : rd ≠ rm) :
    exec (.strex c rn rd rm) s = ((dataAddress s (s.readReg rn) .word .write s.user).bind fun pa t =>
        if t.excl = some pa.toNat then
          (writeAt t pa.toNat (s.readReg rn) .word (s.readReg rm)).bind fun _ t => .ok 0#32 t
        else .ok 1#32 t).finish
        (fun status t => ({ t.writeReg rd status with excl := none }).advance) abortInstruction :=
  ((whenCond_pass hc _).trans (withoutPC_ok hregs _)).trans (if_neg (by simp [hn, hm]))

theorem exec_swp (hc : condPassed c s.cpsr = true) : exec (.swp c rn rd rm) s = s.swap rn rd rm .word id :=
  whenCond_pass hc _

theorem exec_swpb (hc : condPassed c s.cpsr = true) : exec (.swpb c rn rd rm) s = s.swap rn rd rm .byte zeroByte :=
  whenCond_pass hc _

theorem State.swap_eq (hregs : 15#4 ∉ [rn, rd, rm]) (hn : rn ≠ rd) (hm : rn ≠ rm) :
    s.swap rn rd rm size extend = ((memRead s (s.readReg rn) size s.user).bind fun old t =>
        (memWrite t (s.readReg rn) size (s.readReg rm) s.user).bind fun _ t => .ok old t).finish
        (fun old t => (t.writeReg rd (extend old)).advance) abortInstruction :=
  (withoutPC_ok hregs _).trans (if_neg (by simp [hn, hm]))

theorem State.swap_ok {i : Instr} {t u : State} {v : Word} (hregs : 15#4 ∉ [rn, rd, rm]) (hn : rn ≠ rd) (hm : rn ≠ rm)
    (hx : exec i s = s.swap rn rd rm size extend) (hpc : s.pc ≠ 0xFFFFFFFC#32)
    (hr : memRead s (s.readReg rn) size s.user = .ok v t)
    (hw : memWrite t (s.readReg rn) size (s.readReg rm) s.user = .ok () u) :
    Ends i s (u.writeReg rd (extend v)) ∧ ∀ pa t', dataAddress t (s.readReg rn) size .write s.user = .ok pa t' →
      OnlyStored s u [pa.toNat] size.bytes := by
  have hs : SameButTlb s t := (memRead_keeps ..).ok hr
  rw [State.swap_eq hregs hn hm, hr, Res.ok_bind, hw] at hx
  exact ⟨ends_of_advance hx (by rw [State.writeReg_pc, memWrite_pc hw, hs.pc]) hpc,
    fun _ _ hpa => (memWrite_onlyStored hw hpa).of_same hs⟩

theorem State.swap_abort {t : State} {a : AbortInfo} (hregs : 15#4 ∉ [rn, rd, rm]) (hn : rn ≠ rd) (hm : rn ≠ rm)
    (h : memRead s (s.readReg rn) size s.user = .abort a t
      ∨ ∃ old t', memRead s (s.readReg rn) size s.user = .ok old t'
        ∧ memWrite t' (s.readReg rn) size (s.readReg rm) s.user = .abort a t) :
    s.swap rn rd rm size extend = .next (t.dataAbort a) ∧ SameButTlb s t := by
  rw [State.swap_eq hregs hn hm]
  obtain hr | ⟨old, t', hr, hw⟩ := h
  · rw [hr]
    exact ⟨rfl, (memRead_keeps ..).abort hr⟩
  · rw [hr, Res.ok_bind, hw]
    exact ⟨rfl, SameButTlb.trans ((memRead_keeps ..).ok hr) (memWrite_abort hw)⟩

end

/-- Settles O45. -/
theorem semaphoreResults : Obligations.SemaphoreResults := by
  refine ⟨?_, ?_⟩
  · intro s t u c rn rd rm pa v hrun hregs va
    obtain ⟨hc, hpc⟩ := hrun
    refine ⟨fun ha hr => ?_, fun hn hm ha => ?_⟩
    · have hs : SameButTlb s u := SameButTlb.trans ((dataAddress_keeps ..).ok ha) ((readAt_keeps ..).ok hr)
      have hx := exec_ldrex hc (rn := rn) (rd := rd) (not_mem_of_subset hregs (by simp))
      rw [ha, Res.ok_bind, hr, Res.ok_bind] at hx
      exact ⟨ends_of_advance hx hs.pc hpc, hs⟩
    · have hs : SameButTlb s t := (dataAddress_keeps ..).ok ha
      have hx := exec_strex hc hregs hn hm
      rw [ha, Res.ok_bind, hs.excl] at hx
      refine ⟨fun he hw => ?_, fun he => ?_⟩
      · have hu : OnlyStored s u [pa.toNat] 4 := .of_same hs (writeAt_onlyStored hw)
        rw [if_pos he, hw, Res.ok_bind] at hx
        exact ⟨ends_of_advance hx hu.pc hpc, hu⟩
      · rw [if_neg he] at hx
        exact ⟨ends_of_advance hx hs.pc hpc, hs⟩
  · intro s t u c rn rd rm v hrun hregs hn hm va swaps
    obtain ⟨hc, hpc⟩ := hrun
    exact ⟨State.swap_ok hregs hn hm (exec_swp hc) hpc, State.swap_ok hregs hn hm (exec_swpb hc) hpc⟩

/-- Settles O43. -/
theorem accessAborts : Obligations.AccessAborts := by
  intro s t c idx u rn rd rm offset a i hc va v aborts loads stores
  refine ⟨fun hw => ⟨fun h hr => abort_of_loadForm hw hr (exec_ldr hc h),
      fun h hr => abort_of_storeForm hw hr (exec_str hc h),
      fun hrd => ⟨fun h hr => abort_of_loadForm hw hr (exec_ldrb hc hrd h),
        fun h hr => abort_of_loadForm hw hr (exec_ldrh hc hrd h),
        fun h hr => abort_of_loadForm hw hr (exec_ldrsb hc hrd h),
        fun h hr => abort_of_loadForm hw hr (exec_ldrsh hc hrd h),
        fun h hr => abort_of_storeForm hw hr (exec_strb hc hrd h),
        fun h hr => abort_of_storeForm hw hr (exec_strh hc hrd h), ?_⟩⟩,
    fun hregs hr => ?_, fun hregs hn hm h => ?_, fun hregs hn hm e he h => ?_⟩
  · rintro rfl
    exact ⟨fun h hr => abort_of_loadForm hw hr (exec_ldrt hc hrd h),
      fun h hr => abort_of_loadForm hw hr (exec_ldrbt hc hrd h),
      fun h hr => abort_of_storeForm hw hr (exec_strt hc hrd h),
      fun h hr => abort_of_storeForm hw hr (exec_strbt hc hrd h)⟩
  · refine ⟨?_, (memRead_keeps ..).abort hr⟩
    have hx := exec_ldrex hc hregs
    obtain ha | ⟨pa, t', ha, hr⟩ := Res.bind_abort hr
    · rwa [ha] at hx
    · rwa [ha, Res.ok_bind, hr] at hx
  · have hx := exec_strex hc hregs hn hm
    obtain ha | ⟨pa, t', ha, he, hw⟩ := h
    · rw [ha] at hx
      exact ⟨hx, (dataAddress_keeps ..).abort ha⟩
    · have hs : SameButTlb s t' := (dataAddress_keeps ..).ok ha
      rw [ha, Res.ok_bind, hs.excl, if_pos he, hw] at hx
      exact ⟨hx, hs.trans (writeAt_abort hw)⟩
  · rw [List.mem_cons, List.mem_singleton] at he
    obtain rfl | rfl := he
    · obtain ⟨hx, hs⟩ := State.swap_abort (extend := id) hregs hn hm h
      exact ⟨(exec_swp hc).trans hx, hs⟩
    · obtain ⟨hx, hs⟩ := State.swap_abort (extend := zeroByte) hregs hn hm h
      exact ⟨(exec_swpb hc).trans hx, hs⟩

end Sys2Proof.Machine

/-!
# Load multiple

A load multiple is `State.loadMultiple` with the registers and the bank it names (`exec_ldm1`, `exec_ldm2`, `exec_ldm3`).
`Loaded` says what its words leave in the registers, and `forgetRegs` what an abort leaves.
-/
namespace Sys2Proof.Machine
open Sys2Proof

theorem inAddressSpace_ok {va : Word} {n : Nat} (h : va.toNat + 4 * n ≤ 2 ^ 32) (body : Out) :
    inAddressSpace va n body = body := if_neg (Nat.not_lt.2 h)

theorem readWords_length {s t : State} {va : Word} {user : Bool} {n : Nat} {vs : List Word}
    (h : readWords s va user n = .ok vs t) : vs.length = n := by
  induction n generalizing s va vs with
  | zero => cases h; rfl
  | succ n ih =>
    obtain ⟨v, t1, -, h2⟩ := Res.bind_ok h
    obtain ⟨ws, t2, h3, h4⟩ := Res.bind_ok h2
    cases h4
    rw [List.length_cons, ih h3]

theorem spsr_isNone {p : Spsrs} {m : Mode} : (p.get m).isNone = true ↔ m = .usr ∨ m = .sys := by
  cases m <;> simp [Spsrs.get]

theorem spsr_isNone_false {p : Spsrs} {m : Mode} (h1 : m ≠ .usr) (h2 : m ≠ .sys) : (p.get m).isNone = false := by
  rw [Bool.eq_false_iff, ne_eq, spsr_isNone]
  exact not_or.2 ⟨h1, h2⟩

/-! ### Writing the words of a list to its registers -/

/-- The physical registers that a list names in a mode's bank. -/
def bankOf (m : Mode) (regs : List Reg) : List PhysReg := (regs.filter (· ≠ 15#4)).map (bankedReg m)

theorem bankedReg_mem_bankOf {m : Mode} {r : Reg} {regs : List Reg} (hr : r ≠ 15#4) :
    bankedReg m r ∈ bankOf m regs ↔ r ∈ regs := by
  simp only [bankOf, List.mem_map, List.mem_filter, decide_eq_true_eq]
  constructor
  · rintro ⟨a, ⟨ha, ha15⟩, h⟩
    exact bankedReg_injective ha15 hr h ▸ ha
  · exact fun h => ⟨r, ⟨h, hr⟩, rfl⟩

theorem bankOf_cons_subset (m : Mode) (r : Reg) (regs : List Reg) {p : PhysReg} (h : p ∉ bankOf m (r :: regs)) :
    p ∉ bankOf m regs := by
  simp only [bankOf, List.mem_map, List.mem_filter, List.mem_cons] at h ⊢
  rintro ⟨a, ⟨ha, h15⟩, rfl⟩
  exact h ⟨a, ⟨.inr ha, h15⟩, rfl⟩

theorem State.writeRegs_eq (m : Mode) (regs : List Reg) (vs : List Word) (s : State) :
    s.writeRegs m regs vs = { s with regs := (s.writeRegs m regs vs).regs } := by
  induction regs generalizing s vs with
  | nil => cases vs <;> rfl
  | cons r rs ih =>
    cases vs with
    | nil => rfl
    | cons v vs =>
      rw [State.writeRegs]
      split
      · exact ih vs s
      · exact ih vs (s.writeBank m r v)

theorem State.writeRegs_get_ne (m : Mode) (regs : List Reg) (vs : List Word) (s : State) {p : PhysReg}
    (hp : p ∉ bankOf m regs) : (s.writeRegs m regs vs).regs.get p = s.regs.get p := by
  induction regs generalizing s vs with
  | nil => cases vs <;> rfl
  | cons r rs ih =>
    cases vs with
    | nil => rfl
    | cons v vs =>
      have hrest := bankOf_cons_subset m r rs hp
      rw [State.writeRegs]
      split
      · exact ih vs s hrest
      · next hr =>
        rw [ih vs _ hrest, State.writeBank_regs, Regs.get_set_ne]
        rintro rfl
        exact hp ((bankedReg_mem_bankOf hr).2 (List.mem_cons_self ..))

/-- Every register of the list but R15 holds its word. -/
theorem State.writeRegs_readBank (m : Mode) (regs : List Reg) (vs : List Word) (s : State)
    (hnodup : regs.Nodup) (hlen : vs.length = regs.length) (k : Nat) (hk : k < regs.length)
    (h15 : regs.getD k 0 ≠ 15#4) : (s.writeRegs m regs vs).readBank m (regs.getD k 0) = vs.getD k 0 := by
  induction regs generalizing s vs k with
  | nil => exact absurd hk (Nat.not_lt_zero k)
  | cons r rs ih =>
    obtain ⟨hr, hrs⟩ := List.nodup_cons.1 hnodup
    cases vs with
    | nil => simp at hlen
    | cons v vs =>
      have hlen : vs.length = rs.length := Nat.succ.inj hlen
      rw [State.writeRegs]
      cases k with
      | succ k => exact ih vs _ hrs hlen k (Nat.lt_of_succ_lt_succ hk) h15
      | zero =>
        have h15 : r ≠ 15#4 := h15
        rw [if_neg h15]
        show (State.writeRegs _ m rs vs).regs.get (bankedReg m r) = v
        rw [State.writeRegs_get_ne m rs vs _ (mt (bankedReg_mem_bankOf h15).1 hr), State.writeBank_regs, Regs.get_set]

theorem nodup_listRegs (list : BitVec 16) : (listRegs list).Nodup :=
  (pairwise_listRegs list).imp fun h => fun e => Nat.ne_of_lt h (congrArg BitVec.toNat e)

/-! ### What a load multiple leaves -/

/-- The words `vs` are in the listed registers of the bank of `m`, the base is written back where `wb` says so, and no
other register is changed, nor memory. -/
def Loaded (s : State) (am : AddrMode4) (wb : Bool) (rn : Reg) (regs : List Reg) (vs : List Word) (m : Mode)
    (x : State) : Prop :=
  (∀ k, k < regs.length → regs.getD k 0 ≠ 15#4 → x.readBank m (regs.getD k 0) = vs.getD k 0)
    ∧ (wb = true → x.readReg rn = multipleWriteback am (s.readReg rn) regs.length)
    ∧ SameRegs s x ((regs.filter (· ≠ 15#4)).map (bankedReg m) ++ if wb then [bankedReg s.mode rn] else [])
    ∧ x.mem = s.mem ∧ x.spsr = s.spsr ∧ x.excl = s.excl

/-- The state after the base and the registers are written. -/
def State.afterLoad (s t : State) (am : AddrMode4) (wb : Bool) (rn : Reg) (regs : List Reg) (m : Mode)
    (vs : List Word) : State :=
  (t.writeback rn (multipleWb am wb (s.readReg rn) regs.length)).writeRegs m regs vs

section
variable {s t : State} {am : AddrMode4} {wb : Bool} {rn : Reg} {regs : List Reg} {m : Mode} {vs : List Word}

theorem State.afterLoad_eq : s.afterLoad t am wb rn regs m vs =
    { t with regs := (s.afterLoad t am wb rn regs m vs).regs } := by
  rw [State.afterLoad, State.writeRegs_eq]
  cases wb <;> rfl

theorem State.afterLoad_pc (hs : SameButTlb s t) : (s.afterLoad t am wb rn regs m vs).pc = s.pc := by
  rw [State.afterLoad_eq, ← hs.pc]

theorem State.afterLoad_cpsr (hs : SameButTlb s t) : (s.afterLoad t am wb rn regs m vs).cpsr = s.cpsr := by
  rw [State.afterLoad_eq, ← hs.cpsr]

theorem State.afterLoad_spsr (hs : SameButTlb s t) : (s.afterLoad t am wb rn regs m vs).spsr = s.spsr := by
  rw [State.afterLoad_eq, ← hs.spsr]

theorem State.afterLoad_mode (hs : SameButTlb s t) : (s.afterLoad t am wb rn regs m vs).mode = s.mode := by
  rw [State.mode, State.afterLoad_cpsr hs, State.mode]

theorem SameSystem.afterLoad (hs : SameButTlb s t) (p : Word) :
    SameSystem s { s.afterLoad t am wb rn regs m vs with pc := p } := by
  rw [State.afterLoad_eq]
  exact hs.system

/-- A state that holds the registers of `afterLoad`. -/
theorem loaded_of {x : State} (hs : SameButTlb s t) (hrn : rn ≠ 15#4) (hnodup : regs.Nodup)
    (hlen : vs.length = regs.length) (hwb : wb = true → rn ∉ regs ∧ m = s.mode)
    (hregs : x.regs = (s.afterLoad t am wb rn regs m vs).regs) (hmode : x.mode = s.mode)
    (hrest : x.mem = t.mem ∧ x.spsr = t.spsr ∧ x.excl = t.excl) : Loaded s am wb rn regs vs m x := by
  obtain ⟨hmem, hspsr, hexcl⟩ := hrest
  refine ⟨fun k hk h15 => ?_, fun hw => ?_, fun p hp => ?_, hmem.trans hs.mem, hspsr.trans hs.spsr,
    hexcl.trans hs.excl⟩
  · rw [State.readBank, hregs]
    exact State.writeRegs_readBank m regs vs _ hnodup hlen k hk h15
  · obtain ⟨hnot, rfl⟩ := hwb hw
    rw [State.readReg, if_neg hrn, State.readBank, hmode, hregs, State.afterLoad, hw,
      State.writeRegs_get_ne _ _ _ _ (mt (bankedReg_mem_bankOf hrn).1 hnot), ← hs.mode]
    exact Regs.get_set ..
  · obtain ⟨hp1, hp2⟩ := not_or.1 (mt List.mem_append.2 hp)
    rw [hregs, State.afterLoad, State.writeRegs_get_ne _ _ _ _ hp1, ← hs.regs]
    cases hw : wb with
    | false => rfl
    | true =>
      rw [hw, if_pos rfl, List.mem_singleton] at hp2
      exact Regs.get_set_ne _ _ (by rwa [hs.mode])

theorem State.loadMultiple_ok {done : List Word → State → Out}
    (hr : (multipleStart am (s.readReg rn) regs.length).toNat + 4 * regs.length ≤ 2 ^ 32)
    (h : readWords s (multipleStart am (s.readReg rn) regs.length) s.user regs.length = .ok vs t) :
    s.loadMultiple am rn regs m done = done vs t := by
  rw [State.loadMultiple, inAddressSpace_ok hr, h]
  rfl

theorem State.loadMultiple_abort {done : List Word → State → Out} {a : AbortInfo}
    (hr : (multipleStart am (s.readReg rn) regs.length).toNat + 4 * regs.length ≤ 2 ^ 32)
    (h : readWords s (multipleStart am (s.readReg rn) regs.length) s.user regs.length = .abort a t) :
    s.loadMultiple am rn regs m done = .next ((t.forgetRegs (loadedRegs s.mode m rn regs)).dataAbort a) := by
  rw [State.loadMultiple, inAddressSpace_ok hr, h]
  rfl

end

/-! ### The three instructions -/

section
variable {s : State} {c : Cond} {am : AddrMode4} {wb : Bool} {rn : Reg} {list : BitVec 16}

theorem multipleAllowed_of (hrn : rn ≠ 15#4) (hlist : list ≠ 0) : multipleAllowed rn (listRegs list) = true := by
  rw [multipleAllowed_listRegs, bne_iff_ne.2 hlist, bne_iff_ne.2 hrn, Bool.and_self]

theorem wb_and_contains {regs : List Reg} (hwb : wb = true → rn ∉ regs) : (wb && regs.contains rn) = false := by
  cases wb with
  | false => rfl
  | true => simpa using hwb rfl

theorem exec_ldm1 (hc : condPassed c s.cpsr = true) (hrn : rn ≠ 15#4) (hlist : list ≠ 0)
    (hwb : wb = true → rn ∉ listRegs list) : exec (.ldm1 c am wb rn list) s =
      s.loadMultiple am rn (listRegs list) s.mode fun vs t =>
        if list.getLsbD 15 then (s.afterLoad t am wb rn (listRegs list) s.mode vs).branchExchange (vs.getLastD 0)
        else (s.afterLoad t am wb rn (listRegs list) s.mode vs).advance := by
  show execLdm1 c am wb rn list s = _
  rw [execLdm1, whenCond_pass hc, multipleAllowed_of hrn hlist, wb_and_contains hwb]
  rfl

/-- The fifteen bits of LDM (2) and the list they stand for. -/
theorem setWidth_list (h : list.getLsbD 15 = false) : (list.setWidth 15).setWidth 16 = list := by
  ext k hk
  rw [BitVec.getElem_setWidth, BitVec.getLsbD_setWidth]
  by_cases hk15 : k = 15
  · subst hk15
    simpa using h.symm
  · have : k < 15 := by omega
    simp [this, BitVec.getLsbD_eq_getElem hk]

/-- The fifteen bits of LDM (3) and the list they stand for. -/
theorem append_list (h : list.getLsbD 15 = true) : 1#1 ++ list.setWidth 15 = list := by
  ext k hk
  rw [BitVec.getElem_append]
  by_cases hk15 : k = 15
  · subst hk15
    simpa using h.symm
  · have : k < 15 := by omega
    simp [this, BitVec.getLsbD_eq_getElem hk]

theorem exec_ldm2 (hc : condPassed c s.cpsr = true) (hrn : rn ≠ 15#4) (hlist : list ≠ 0)
    (h15 : list.getLsbD 15 = false) : exec (.ldm2 c am false rn (list.setWidth 15)) s =
      if (s.spsr.get s.mode).isNone then .refused .unpredictableInMode
      else s.loadMultiple am rn (listRegs list) .usr fun vs t =>
        (s.afterLoad t am false rn (listRegs list) .usr vs).advance := by
  show execLdm2 c am false rn (list.setWidth 15) s = _
  rw [execLdm2, whenCond_pass hc, setWidth_list h15, multipleAllowed_of hrn hlist]
  rfl

theorem exec_ldm3 (hc : condPassed c s.cpsr = true) (hrn : rn ≠ 15#4) (hlist : list ≠ 0)
    (hwb : wb = true → rn ∉ listRegs list) (h15 : list.getLsbD 15 = true) :
    exec (.ldm3 c am wb rn (list.setWidth 15)) s =
      if (s.spsr.get s.mode).isNone then .refused .noSpsr
      else s.loadMultiple am rn (listRegs list) s.mode fun vs t =>
        (s.afterLoad t am wb rn (listRegs list) s.mode vs).exceptionReturn (vs.getLastD 0) := by
  show execLdm3 c am wb rn (list.setWidth 15) s = _
  rw [execLdm3, whenCond_pass hc, append_list h15, multipleAllowed_of hrn hlist, wb_and_contains hwb]
  rfl

end

/-- Settles O46. -/
theorem loadMultipleResults : Obligations.LoadMultipleResults := by
  intro s t c am wb rn list vs hrun hrn hlist hwb regs start hr hread loaded
  obtain ⟨hc, hpc⟩ := hrun
  have hs : SameButTlb s t := (readWords_keeps ..).ok hread
  have hlen := readWords_length hread
  have h1 := (exec_ldm1 (am := am) hc hrn hlist hwb).trans (State.loadMultiple_ok hr hread)
  have hloaded {x : State} (hregs : x.regs = (s.afterLoad t am wb rn regs s.mode vs).regs) (hmode : x.mode = s.mode)
      (hrest : x.mem = t.mem ∧ x.spsr = t.spsr ∧ x.excl = t.excl) : loaded s.mode x :=
    loaded_of hs hrn (nodup_listRegs list) hlen (fun h => ⟨hwb h, rfl⟩) hregs hmode hrest
  have hrest {m : Mode} {w : Bool} : (s.afterLoad t am w rn regs m vs).mem = t.mem
      ∧ (s.afterLoad t am w rn regs m vs).spsr = t.spsr ∧ (s.afterLoad t am w rn regs m vs).excl = t.excl := by
    rw [State.afterLoad_eq]
    exact ⟨rfl, rfl, rfl⟩
  have h3 (h15 : list.getLsbD 15 = true) (q : Psr) (hq : s.spsr.get s.mode = some q) :
      exec (.ldm3 c am wb rn (list.setWidth 15)) s =
        (s.afterLoad t am wb rn regs s.mode vs).restore q (vs.getLastD 0) := by
    rw [exec_ldm3 hc hrn hlist hwb h15, hq, Option.isNone_some, if_neg Bool.false_ne_true,
      State.loadMultiple_ok hr hread]
    exact exceptionReturn_some (by rw [State.afterLoad_spsr hs, State.afterLoad_mode hs, hq]) _
  refine ⟨fun h15 => ?_, fun h15 h0 => ?_, fun h15 h0 => ?_, fun h15 h0 => ?_, fun h15 q hq => ?_,
    fun h15 hw husr hsys => ?_, fun h15 hw hmode => ?_, fun h15 q hq hret => ?_, fun h15 hnone => ?_⟩
  · rw [if_neg (by rw [h15]; decide), State.advance_next (by rwa [State.afterLoad_pc hs]), State.afterLoad_pc hs] at h1
    exact ⟨_, h1, hloaded rfl (State.afterLoad_mode hs) hrest, rfl, State.afterLoad_cpsr hs, .afterLoad hs _⟩
  · rw [if_pos h15, State.branchExchange_next h0] at h1
    exact ⟨_, h1, hloaded rfl (State.afterLoad_mode hs) hrest, rfl, State.afterLoad_cpsr hs, .afterLoad hs _⟩
  · rw [if_pos h15, State.branchExchange_thumb h0] at h1
    exact h1
  · rw [if_pos h15, State.branchExchange_unaligned h0] at h1
    exact h1
  · exact restore_refuses (h3 h15 q hq)
  · subst hw
    have h2 := exec_ldm2 (am := am) hc hrn hlist h15
    rw [spsr_isNone_false husr hsys, if_neg Bool.false_ne_true, State.loadMultiple_ok hr hread,
      State.advance_next (by rwa [State.afterLoad_pc hs]), State.afterLoad_pc hs] at h2
    exact ⟨_, h2, loaded_of hs hrn (nodup_listRegs list) hlen nofun rfl (State.afterLoad_mode hs) hrest, rfl,
      State.afterLoad_cpsr hs, .afterLoad hs _⟩
  · subst hw
    rw [exec_ldm2 hc hrn hlist h15, if_pos (spsr_isNone.2 hmode)]
  · exact ⟨_, (h3 h15 q hq).trans (State.restore_next hret _), rfl, rfl, hloaded rfl rfl hrest⟩
  · rw [exec_ldm3 hc hrn hlist hwb h15, hnone, Option.isNone_none, if_pos rfl]

/-! ### What an aborted load leaves -/

theorem State.forgetRegs_get_ne (regs : List PhysReg) (s : State) {p : PhysReg} (hp : p ∉ regs) :
    (s.forgetRegs regs).regs.get p = s.regs.get p := by
  induction regs generalizing s with
  | nil => rfl
  | cons q qs ih =>
    obtain ⟨hne, hqs⟩ := not_or.1 (mt List.mem_cons.2 hp)
    exact (ih _ hqs).trans (Regs.get_set_ne _ _ hne)

theorem State.forgetRegs_get (regs : List PhysReg) (s : State) {p : PhysReg} (hp : p ∈ regs) :
    ∃ n, (s.forgetRegs regs).regs.get p = Config.anyWord n := by
  induction regs generalizing s with
  | nil => exact absurd hp List.not_mem_nil
  | cons q qs ih =>
    by_cases hqs : p ∈ qs
    · exact ih _ hqs
    · obtain rfl : p = q := (List.mem_cons.1 hp).resolve_right hqs
      exact ⟨s.draws, (State.forgetRegs_get_ne qs _ hqs).trans (Regs.get_set ..)⟩

/-- A load that aborts leaves the registers `free` free, and takes its Data Abort. -/
def LoadAborts (i : Instr) (s : State) (a : AbortInfo) (free : List PhysReg) : Prop :=
  ∃ x, exec i s = .next (x.dataAbort a) ∧ SameRegs s x free ∧ (∀ p ∈ free, ∃ n, x.regs.get p = Config.anyWord n)
    ∧ x.mem = s.mem ∧ x.cpsr = s.cpsr ∧ SameSystem s x

theorem loadAborts_of {i : Instr} {s t : State} {a : AbortInfo} {free : List PhysReg} (hs : SameButTlb s t)
    (hx : exec i s = .next ((t.forgetRegs free).dataAbort a)) : LoadAborts i s a free := by
  refine ⟨t.forgetRegs free, hx, fun p hp => ?_, fun p hp => t.forgetRegs_get free hp, ?_⟩
  · rw [t.forgetRegs_get_ne free hp, hs.regs]
  · obtain ⟨r, n, he⟩ := State.forgetRegs_eq free t
    rw [he]
    exact ⟨hs.mem, hs.cpsr, hs.system⟩

theorem loadedRegs_eq {current m : Mode} {rn : Reg} {regs : List Reg} (h : regs ≠ []) :
    loadedRegs current m rn regs = if regs.length = 1 then []
      else ((regs.filter (· ≠ 15#4)).map (bankedReg m)).filter (· ≠ bankedReg current rn) := by
  have hl : regs.length ≤ 1 ↔ regs.length = 1 := by
    have := List.length_pos_iff.2 h
    omega
  simp only [loadedRegs, hl, bne, beq_eq_decide, decide_not]

theorem exec_rfe {s : State} {am : AddrMode4} {wb : Bool} {rn : Reg} (hmode : s.mode ≠ .usr) (hrn : rn ≠ 15#4)
    (hr : (multipleStart am (s.readReg rn) 2).toNat + 8 ≤ 2 ^ 32) : exec (.rfe am wb rn) s =
      (readWords s (multipleStart am (s.readReg rn) 2) s.user 2).finish
        (fun vs t => (t.writeback rn (multipleWb am wb (s.readReg rn) 2)).restore (Psr.ofWord (vs.getD 1 0))
          (vs.getD 0 0)) abortInstruction := by
  show execRfe am wb rn s = _
  rw [execRfe, (privileged_iff s).2 hmode]
  exact (withoutPC_ok (not_pc_mem hrn) _).trans (inAddressSpace_ok (n := 2) hr _)

/-- LDRD with an access that aborts. -/
theorem State.loadPair_abort {s t : State} {idx : IndexMode} {u : Bool} {rn rd : Reg} {offset : Word} {a : AbortInfo}
    (hp : pairAllowed idx rn rd = true)
    (h : checkPair s (indexAddress idx u (s.readReg rn) offset) .read = .abort a t
      ∨ ∃ t1, checkPair s (indexAddress idx u (s.readReg rn) offset) .read = .ok () t1
        ∧ readWords t1 (indexAddress idx u (s.readReg rn) offset) s.user 2 = .abort a t) :
    s.loadPair idx u rn offset rd =
      .next ((t.forgetRegs (([rd, rd + 1].filter fun r => r != rn).map (bankedReg s.mode))).dataAbort a) := by
  rw [State.loadPair, hp]
  obtain h | ⟨t1, h1, h⟩ := h
  · rw [h]
    rfl
  · simp only [h1, Res.ok_bind]
    obtain h0 | ⟨d0, t2, h0, h⟩ := Res.bind_abort h
    · rw [h0]
      rfl
    · rw [h0, Res.ok_bind]
      obtain h | ⟨vs, t3, -, h⟩ := Res.bind_abort h
      · obtain h | ⟨d1, t3, -, h⟩ := Res.bind_abort h
        · rw [h]
          rfl
        · cases h
      · cases h

/-- Settles O47. -/
theorem multipleLoadAborts : Obligations.MultipleLoadAborts := by
  intro s t c am wb u rn rd list idx offset a i hc aborts
  refine ⟨?_, ?_, ?_⟩
  · intro hrn hlist hwb regs start free hr hread
    have hs : SameButTlb s t := (readWords_keeps ..).abort hread
    have hfree (m : Mode) : loadedRegs s.mode m rn regs = free m := loadedRegs_eq (mt listRegs_eq_nil.1 hlist)
    have hl (m : Mode) (done : List Word → State → Out) :
        s.loadMultiple am rn regs m done = .next ((t.forgetRegs (free m)).dataAbort a) := by
      rw [← hfree]
      exact State.loadMultiple_abort hr hread
    refine ⟨loadAborts_of hs ((exec_ldm1 hc hrn hlist hwb).trans (hl _ _)), fun h15 hw husr hsys => ?_,
      fun h15 husr hsys => ?_⟩
    · subst hw
      have hx := exec_ldm2 (am := am) hc hrn hlist h15
      rw [spsr_isNone_false husr hsys, if_neg Bool.false_ne_true] at hx
      exact loadAborts_of hs (hx.trans (hl _ _))
    · have hx := exec_ldm3 (am := am) hc hrn hlist hwb h15
      rw [spsr_isNone_false husr hsys, if_neg Bool.false_ne_true] at hx
      exact loadAborts_of hs (hx.trans (hl _ _))
  · intro heven h14 hw h hrm va habort
    have hs : SameButTlb s t := by
      obtain hx | ⟨t1, h1, hx⟩ := habort
      · exact (checkPair_keeps ..).abort hx
      · exact SameButTlb.trans ((checkPair_keeps ..).ok h1) ((readWords_keeps ..).abort hx)
    have hx := (exec_ldrd hc hrm h).trans (State.loadPair_abort (pairAllowed_of heven h14 hw) habort)
    have hfree : ([rd, rd + 1].filter fun r => r != rn) = [rd, rd + 1].filter (· ≠ rn) := by
      simp only [bne, beq_eq_decide, decide_not]
    rw [hfree] at hx
    exact loadAborts_of hs hx
  · intro hmode hrn start hr hread
    have hx := exec_rfe (wb := wb) hmode hrn hr
    rw [hread] at hx
    exact ⟨hx, (readWords_keeps ..).abort hread⟩

end Sys2Proof.Machine

/-!
# Store multiple, SRS and RFE

All of them store with `State.storeWords` (`exec_stm1`, `exec_stm2`, `exec_srs`, `exec_strd`); what an aborted one leaves is
one statement, `StoreAborts`, about the words it leaves open.
-/
namespace Sys2Proof.Machine
open Sys2Proof

/-! ### The instructions -/

section
variable {s t : State} {c : Cond} {am : AddrMode4} {wb : Bool} {rn : Reg} {list : BitVec 16}

/-- The words that a store multiple stores from a mode's bank. -/
def State.storedValues (s : State) (m : Mode) (regs : List Reg) : List Word :=
  regs.map fun r => if r = 15#4 then s.pc + (if s.cfg.pcStoreOffset12 then 12 else 8) else s.readBank m r

theorem State.storedValues_length (s : State) (m : Mode) (regs : List Reg) :
    (s.storedValues m regs).length = regs.length := List.length_map ..

theorem State.map_storedReg (s : State) (regs : List Reg) : regs.map s.storedReg = s.storedValues s.mode regs := by
  refine List.map_congr_left fun r _ => ?_
  by_cases h : r = 15#4
  · rw [State.storedReg, if_pos h, if_pos h]
  · rw [State.storedReg, if_neg h, if_neg h, State.readReg, if_neg h]

theorem State.map_storedReg_usr (s : State) (regs : List Reg) :
    (regs.map fun r => if r = 15#4 then s.storedReg r else s.readBank .usr r) = s.storedValues .usr regs := by
  refine List.map_congr_left fun r _ => ?_
  by_cases h : r = 15#4
  · rw [State.storedReg, if_pos h, if_pos h, if_pos h]
  · rw [if_neg h, if_neg h]

theorem State.storeMultiple_eq {values : List Word} {n : Nat} (hn : values.length = n)
    (hr : (multipleStart am (s.readReg rn) n).toNat + 4 * n ≤ 2 ^ 32) :
    s.storeMultiple am rn wb values = s.storeWords (multipleStart am (s.readReg rn) n) s.user values fun t =>
      (if wb then t.writeReg rn (multipleWriteback am (s.readReg rn) n) else t).advance := by
  subst hn
  rw [State.storeMultiple, inAddressSpace_ok hr]
  cases wb <;> rfl

/-- A base that is written back is allowed where it is the lowest register of the list. -/
theorem wb_and_head {regs : List Reg} (hwb : wb = true → rn ∈ regs → regs.head? = some rn) :
    (wb && regs.contains rn && regs.head? != some rn) = false := by
  cases wb with
  | false => rfl
  | true =>
    by_cases hm : rn ∈ regs
    · rw [hwb rfl hm, bne_self_eq_false, Bool.and_false]
    · rw [Bool.eq_false_iff.2 (mt List.contains_iff_mem.1 hm), Bool.and_false, Bool.false_and]

theorem exec_stm1 (hc : condPassed c s.cpsr = true) (hrn : rn ≠ 15#4) (hlist : list ≠ 0)
    (hwb : wb = true → rn ∈ listRegs list → (listRegs list).head? = some rn)
    (hr : (multipleStart am (s.readReg rn) (listRegs list).length).toNat + 4 * (listRegs list).length ≤ 2 ^ 32) :
    exec (.stm1 c am wb rn list) s =
      s.storeWords (multipleStart am (s.readReg rn) (listRegs list).length) s.user
        (s.storedValues s.mode (listRegs list)) fun t =>
          (if wb then t.writeReg rn (multipleWriteback am (s.readReg rn) (listRegs list).length) else t).advance := by
  show execStm1 c am wb rn list s = _
  rw [execStm1, whenCond_pass hc, multipleAllowed_of hrn hlist, wb_and_head hwb, State.map_storedReg]
  exact State.storeMultiple_eq (s.storedValues_length ..) hr

theorem exec_stm2 (hc : condPassed c s.cpsr = true) (hrn : rn ≠ 15#4) (hlist : list ≠ 0)
    (hr : (multipleStart am (s.readReg rn) (listRegs list).length).toNat + 4 * (listRegs list).length ≤ 2 ^ 32) :
    exec (.stm2 c am false rn list) s =
      if (s.spsr.get s.mode).isNone then .refused .unpredictableInMode
      else s.storeWords (multipleStart am (s.readReg rn) (listRegs list).length) s.user
        (s.storedValues .usr (listRegs list)) fun t => t.advance := by
  show execStm2 c am false rn list s = _
  rw [execStm2, whenCond_pass hc, multipleAllowed_of hrn hlist, State.map_storedReg_usr,
    State.storeMultiple_eq (s.storedValues_length ..) hr]
  rfl

theorem exec_srs {m : Mode} {q : Psr} (hq : s.spsr.get s.mode = some q)
    (hr : (multipleStart am (s.readBank m 13#4) 2).toNat + 8 ≤ 2 ^ 32) : exec (.srs am wb m.bits) s =
      s.storeWords (multipleStart am (s.readBank m 13#4) 2) s.user [s.readReg 14#4, q.toWord] fun t =>
        (if wb then t.writeBank m 13#4 (multipleWriteback am (s.readBank m 13#4) 2) else t).advance := by
  show execSrs am wb m.bits s = _
  rw [execSrs, hq, Mode.ofBits_bits]
  exact inAddressSpace_ok (n := 2) hr _

theorem exec_srs_noSpsr {field : BitVec 5} (h : s.spsr.get s.mode = none) :
    exec (.srs am wb field) s = .refused .noSpsr := by
  show execSrs am wb field s = _
  rw [execSrs, h]

theorem exec_srs_illegalMode {field : BitVec 5} {q : Psr} (hq : s.spsr.get s.mode = some q)
    (h : Mode.ofBits field = none) : exec (.srs am wb field) s = .refused .illegalMode := by
  show execSrs am wb field s = _
  rw [execSrs, hq, h]

end

/-- Settles O49. -/
theorem storeMultipleResults : Obligations.StoreMultipleResults := by
  intro s t c am wb rn list hrun hrn hlist hwb regs start values stored hr
  obtain ⟨hc, hpc⟩ := hrun
  refine ⟨fun hw => ?_, fun hfalse husr hsys hw => ?_, fun hfalse hmode => ?_⟩
  · have hstored := writeWords_onlyStored hw
    have hx := (exec_stm1 hc hrn hlist hwb hr).trans (State.storeWords_ok hw _)
    refine ⟨ends_of_advance hx ?_ hpc, hstored⟩
    cases wb <;> exact hstored.pc
  · subst hfalse
    have hstored := writeWords_onlyStored hw
    have hx := exec_stm2 (am := am) hc hrn hlist hr
    rw [spsr_isNone_false husr hsys, if_neg Bool.false_ne_true] at hx
    exact ⟨ends_of_advance (hx.trans (State.storeWords_ok hw _)) hstored.pc hpc, hstored⟩
  · subst hfalse
    rw [exec_stm2 hc hrn hlist hr, if_pos (spsr_isNone.2 hmode)]

/-- Settles O50. -/
theorem returnStateResults : Obligations.ReturnStateResults := by
  intro s t am wb rn m field q pcWord psrWord hpc
  refine ⟨?_, exec_srs_noSpsr, exec_srs_illegalMode, ?_⟩
  · intro hq base start values hr hw
    have hstored := writeWords_onlyStored hw
    refine ⟨ends_of_advance ((exec_srs hq hr).trans (State.storeWords_ok hw _)) ?_ hpc, hstored⟩
    cases wb <;> exact hstored.pc
  · intro hmode hrn base start hr hread
    have hx := exec_rfe (wb := wb) hmode hrn hr
    rw [hread] at hx
    refine ⟨restore_refuses hx, fun hret => ⟨hx.trans ((State.restore_next hret _).trans ?_), (readWords_keeps ..).ok hread⟩⟩
    cases wb <;> rfl

/-! ### The words an aborted store leaves open -/

theorem OnlyStored.mono {s t : State} {pas qas : List Nat} {n : Nat} (h : OnlyStored s t pas n) (hsub : pas ⊆ qas) :
    OnlyStored s t qas n :=
  ⟨h.1, fun a ha => h.2 a fun pa hpa => ha pa (hsub hpa)⟩

theorem OnlyStored.trans {s t u : State} {pas : List Nat} {n : Nat} (h : OnlyStored s t pas n)
    (k : OnlyStored t u pas n) : OnlyStored s u pas n :=
  ⟨h.1.mem_trans k.1, fun a ha => (k.2 a ha).trans (h.2 a ha)⟩

theorem SameButTlb.onlyStored {s t : State} (h : SameButTlb s t) (pas : List Nat) (n : Nat) : OnlyStored s t pas n :=
  .of_same h (.refl t pas n)

theorem memWrite_eq {s t : State} {va v : Word} {user : Bool} {pa : BitVec 40} {size : AccessSize}
    (h : dataAddress s va size .write user = .ok pa t) : memWrite s va size v user = writeAt t pa.toNat va size v := by
  rw [memWrite, h]
  rfl

theorem memWrite_eq_abort {s t : State} {va v : Word} {user : Bool} {size : AccessSize} {a : AbortInfo}
    (h : dataAddress s va size .write user = .abort a t) : memWrite s va size v user = .abort a t := by
  rw [memWrite, h]
  rfl

section
variable {s t t' : State} {va v : Word} {vs : List Word} {user : Bool} {pa : BitVec 40} {a : AbortInfo}

/-- The open words of a transfer: its first word is stored, or its write aborts, or its address aborts. -/
theorem openWords_stored (ha : dataAddress s va .word .write user = .ok pa t')
    (hw : memWrite s va .word v user = .ok () t) :
    openWords s va user (v :: vs) = pa.toNat :: openWords t (va + 4) user vs := by
  rw [memWrite_eq ha] at hw
  simp only [openWords, ha, hw]

theorem openWords_writeAborts (ha : dataAddress s va .word .write user = .ok pa t')
    (hw : memWrite s va .word v user = .abort a t) :
    openWords s va user (v :: vs) = pa.toNat :: permittedWords t (va + 4) user vs.length := by
  rw [memWrite_eq ha] at hw
  simp only [openWords, ha, hw]

theorem openWords_addressAborts (ha : dataAddress s va .word .write user = .abort a t) :
    openWords s va user (v :: vs) = permittedWords t (va + 4) user vs.length := by
  simp only [openWords, ha]

theorem storeAddresses_stored (ha : dataAddress s va .word .write user = .ok pa t')
    (hw : memWrite s va .word v user = .ok () t) :
    storeAddresses s va user (v :: vs) = pa.toNat :: storeAddresses t (va + 4) user vs := by
  simp only [storeAddresses, ha, hw]

theorem storeAddresses_aborts (hw : memWrite s va .word v user = .abort a t) :
    storeAddresses s va user (v :: vs) = [] := by
  simp only [storeAddresses, hw]
  cases dataAddress s va .word .write user <;> rfl

end

/-- What the words of an aborted transfer are, by the word that aborts. -/
theorem writeWords_abort_cases {s t : State} {va v : Word} {vs : List Word} {user : Bool} {a : AbortInfo}
    (h : writeWords s va user (v :: vs) = .abort a t) :
    dataAddress s va .word .write user = .abort a t
      ∨ (∃ pa t', dataAddress s va .word .write user = .ok pa t' ∧ memWrite s va .word v user = .abort a t)
      ∨ ∃ pa t' u, dataAddress s va .word .write user = .ok pa t' ∧ memWrite s va .word v user = .ok () u
        ∧ writeWords u (va + 4) user vs = .abort a t := by
  obtain h | ⟨⟨⟩, u, h1, h2⟩ := Res.bind_abort h
  · obtain ha | ⟨pa, t', ha, hw⟩ := Res.bind_abort h
    · exact .inl ha
    · exact .inr (.inl ⟨pa, t', ha, h⟩)
  · obtain ⟨pa, t', ha⟩ := memWrite_address h1
    exact .inr (.inr ⟨pa, t', u, ha, h1, h2⟩)

section
variable {s t : State} {user : Bool} {a : AbortInfo}

/-- The words stored before the abort are the first of the open ones. -/
theorem storeAddresses_prefix {va : Word} {values : List Word} (h : writeWords s va user values = .abort a t) :
    storeAddresses s va user values <+: openWords s va user values := by
  induction values generalizing s va with
  | nil => exact List.nil_prefix
  | cons v vs ih =>
    obtain ha | ⟨pa, t', ha, hw⟩ | ⟨pa, t', u, ha, hw, h⟩ := writeWords_abort_cases h
    · rw [storeAddresses_aborts (memWrite_eq_abort ha)]
      exact List.nil_prefix
    · rw [storeAddresses_aborts hw]
      exact List.nil_prefix
    · rw [storeAddresses_stored ha hw, openWords_stored ha hw]
      exact (List.prefix_cons_inj _).2 (ih h)

/-- An aborted transfer has stored its first words and nothing else. -/
theorem writeWords_abort_onlyStored {va : Word} {values : List Word} (h : writeWords s va user values = .abort a t) :
    OnlyStored s t (storeAddresses s va user values) 4 := by
  induction values generalizing s va with
  | nil => cases h
  | cons v vs ih =>
    obtain ha | ⟨pa, t', ha, hw⟩ | ⟨pa, t', u, ha, hw, h⟩ := writeWords_abort_cases h
    · exact SameButTlb.onlyStored ((dataAddress_keeps ..).abort ha) _ _
    · exact (memWrite_abort hw).onlyStored _ _
    · rw [storeAddresses_stored ha hw]
      exact (memWrite_onlyStored hw ha).cons (ih h)

/-- The transfer of the first `k` words completes in `x`, or has aborted in `t` already. -/
def Reached (s t : State) (va : Word) (user : Bool) (a : AbortInfo) (values : List Word) (k : Nat) (x : State) : Prop :=
  writeWords s va user (values.take k) = .ok () x ∨ (writeWords s va user (values.take k) = .abort a t ∧ x = t)

theorem reached_zero {va : Word} {values : List Word} {x : State} : Reached s t va user a values 0 x ↔ x = s := by
  constructor
  · rintro (h | ⟨h, -⟩)
    · cases h; rfl
    · cases h
  · rintro rfl
    exact .inl rfl

/-- After the first word is stored, the rest decides. -/
theorem reached_succ_stored {va v : Word} {vs : List Word} {u x : State} {k : Nat}
    (hw : memWrite s va .word v user = .ok () u) :
    Reached s t va user a (v :: vs) (k + 1) x ↔ Reached u t (va + 4) user a vs k x := by
  rw [Reached, List.take_succ_cons, writeWords, hw]
  rfl

/-- After the first word aborts, every later one is reached in the state of the abort. -/
theorem reached_succ_aborted {va v : Word} {vs : List Word} {x : State} {k : Nat}
    (hw : memWrite s va .word v user = .abort a t) : Reached s t va user a (v :: vs) (k + 1) x ↔ x = t := by
  rw [Reached, List.take_succ_cons, writeWords, hw]
  constructor
  · rintro (h | ⟨-, rfl⟩)
    · cases h
    · rfl
  · rintro rfl
    exact .inr ⟨rfl, rfl⟩

/-- Word `k` of the transfer passes its own check at the physical address `pa`. -/
def Open (s t : State) (va : Word) (user : Bool) (a : AbortInfo) (values : List Word) (pa : Nat) (k : Nat) : Prop :=
  ∃ (x y : State) (b : BitVec 40), k < values.length ∧ b.toNat = pa ∧ Reached s t va user a values k x
    ∧ dataAddress x (va + BitVec.ofNat 32 (4 * k)) .word .write user = .ok b y

theorem open_zero {va v : Word} {vs : List Word} {pa : Nat} : Open s t va user a (v :: vs) pa 0 ↔
    ∃ b y, b.toNat = pa ∧ dataAddress s va .word .write user = .ok b y := by
  have hva : va + BitVec.ofNat 32 (4 * 0) = va := BitVec.add_zero va
  constructor
  · rintro ⟨x, y, b, -, hb, hx, h⟩
    rw [reached_zero.1 hx, hva] at h
    exact ⟨b, y, hb, h⟩
  · rintro ⟨b, y, hb, h⟩
    exact ⟨s, y, b, Nat.succ_pos _, hb, reached_zero.2 rfl, by rwa [hva]⟩

theorem open_succ_stored {va v : Word} {vs : List Word} {u : State} {pa k : Nat}
    (hw : memWrite s va .word v user = .ok () u) :
    Open s t va user a (v :: vs) pa (k + 1) ↔ Open u t (va + 4) user a vs pa k := by
  simp only [Open, reached_succ_stored hw, word_further, List.length_cons, Nat.add_lt_add_iff_right]

theorem open_succ_aborted {va v : Word} {vs : List Word} {pa : Nat} (hw : memWrite s va .word v user = .abort a t) :
    (∃ k, Open s t va user a (v :: vs) pa (k + 1)) ↔ pa ∈ permittedWords t (va + 4) user vs.length := by
  rw [mem_permittedWords]
  simp only [Open, reached_succ_aborted hw, word_further, List.length_cons, Nat.add_lt_add_iff_right]
  constructor
  · rintro ⟨k, x, y, b, hk, hb, rfl, h⟩
    exact ⟨k, b, y, hk, hb, h⟩
  · rintro ⟨k, b, y, hk, hb, h⟩
    exact ⟨k, t, y, b, hk, hb, rfl, h⟩

theorem exists_open_cons {va v : Word} {vs : List Word} {pa : Nat} :
    (∃ k, Open s t va user a (v :: vs) pa k)
      ↔ Open s t va user a (v :: vs) pa 0 ∨ ∃ k, Open s t va user a (v :: vs) pa (k + 1) := by
  constructor
  · rintro ⟨k, h⟩
    cases k with
    | zero => exact .inl h
    | succ k => exact .inr ⟨k, h⟩
  · rintro (h | ⟨k, h⟩)
    · exact ⟨0, h⟩
    · exact ⟨k + 1, h⟩

/-- The open words are those whose own check passes. -/
theorem mem_openWords {va : Word} {values : List Word} {pa : Nat} (h : writeWords s va user values = .abort a t) :
    pa ∈ openWords s va user values ↔ ∃ k, Open s t va user a values pa k := by
  induction values generalizing s va with
  | nil => cases h
  | cons v vs ih =>
    rw [exists_open_cons, open_zero]
    obtain ha | ⟨b, t', ha, hw⟩ | ⟨b, t', u, ha, hw, h⟩ := writeWords_abort_cases h
    · rw [open_succ_aborted (memWrite_eq_abort ha), openWords_addressAborts ha, ha]
      simp
    · rw [open_succ_aborted hw, openWords_writeAborts ha hw, List.mem_cons, ha]
      simp [eq_comm]
    · simp only [open_succ_stored hw]
      rw [openWords_stored ha hw, List.mem_cons, ih h, ha]
      simp [eq_comm]

end

/-! ### The words take free values -/

/-- The physical address of an entry is its block with the low bits of the virtual address. -/
theorem entryAddress_toNat (e : TlbEntry) (mva : Word) : (entryAddress e mva).toNat =
    e.pa.toNat / 2 ^ blockLog e.size * 2 ^ blockLog e.size + mva.toNat % 2 ^ blockLog e.size := by
  have hn : blockLog e.size ≤ 32 := by cases e.size <;> decide
  have hpa := e.pa.isLt
  unfold entryAddress
  generalize blockLog e.size = n at *
  have hlow : mva.toNat * 2 ^ (40 - n) % 2 ^ 40 / 2 ^ (40 - n) = mva.toNat % 2 ^ n := by
    have h40 : (2 : Nat) ^ 40 = 2 ^ n * 2 ^ (40 - n) := by rw [← Nat.pow_add, Nat.add_sub_cancel' (by omega)]
    rw [h40, Nat.mul_mod_mul_right, Nat.mul_div_cancel _ (Nat.two_pow_pos _)]
  have hhigh : e.pa.toNat / 2 ^ n * 2 ^ n < 2 ^ 40 := Nat.lt_of_le_of_lt (Nat.div_mul_le_self ..) hpa
  simp only [BitVec.toNat_or, BitVec.toNat_shiftLeft, BitVec.toNat_ushiftRight, setWidth_40_toNat,
    Nat.shiftLeft_eq, Nat.shiftRight_eq_div_pow, hlow, Nat.mod_eq_of_lt hhigh]
  rw [← Nat.shiftLeft_eq, Nat.shiftLeft_add_eq_or_of_lt (Nat.mod_lt _ (Nat.two_pow_pos n))]

theorem translate_ok {s t : State} {ctl mva : Word} {k : AccessKind} {user : Bool} {pa : BitVec 40}
    (h : translate s ctl mva k user = .ok pa t) : ∃ e, pa = entryAddress e mva := by
  unfold translate at h
  split at h
  · cases h
  · obtain ⟨e, s1, -, h⟩ := Res.bind_ok h
    obtain ⟨_, s2, -, h⟩ := Res.bind_ok h
    split at h
    · cases h
    · cases h
      exact ⟨e, rfl⟩

/-- A word is accessed at a word-aligned physical address. -/
theorem dataAddress_word_aligned {s t : State} {va : Word} {k : AccessKind} {user : Bool} {pa : BitVec 40}
    (h : dataAddress s va .word k user = .ok pa t) : pa.toNat % 4 = 0 := by
  unfold dataAddress at h
  split at h
  · cases h
  · simp only at h
    split at h
    · split at h <;> cases h
    · next ha =>
      have hva : va.toNat % 4 = 0 := by
        have h2 : va.extractLsb' 0 2 = 0#2 := by simpa [aligned] using ha
        simpa using congrArg BitVec.toNat h2
      split at h
      · obtain ⟨e, rfl⟩ := translate_ok h
        rw [entryAddress_toNat]
        cases e.size <;> simp only [blockLog] <;> omega
      · cases h
        rwa [setWidth_40_toNat]

theorem mem_openWords_aligned {s t : State} {va : Word} {user : Bool} {values : List Word} {a : AbortInfo} {pa : Nat}
    (h : writeWords s va user values = .abort a t) (hpa : pa ∈ openWords s va user values) : pa % 4 = 0 := by
  obtain ⟨k, x, y, b, -, rfl, -, hb⟩ := (mem_openWords h).1 hpa
  exact dataAddress_word_aligned hb

theorem Memory.readBytes_congr {m m' : Memory} {n a : Nat} (h : ∀ k, k < n → m.read (a + k) = m'.read (a + k)) :
    m.readBytes a n = m'.readBytes a n := by
  induction n generalizing a with
  | zero => rfl
  | succ n ih =>
    have h0 : m.read a = m'.read a := h 0 (Nat.succ_pos n)
    have hrest : m.readBytes (a + 1) n = m'.readBytes (a + 1) n := ih fun k hk => by
      have := h (k + 1) (Nat.succ_lt_succ hk)
      rwa [Nat.add_assoc, Nat.add_comm 1 k]
    rw [Memory.readBytes, Memory.readBytes, h0, hrest]

/-- Each of the words forgotten, where there is memory, holds a free value: aligned words do not overlap. -/
theorem State.forgetWords_readBytes (pas : List Nat) (s : State) (hwf : s.mem.wf = true)
    (ha : ∀ pa ∈ pas, pa % 4 = 0) {pa : Nat} (hpa : pa ∈ pas) (hb : backed s.cfg pa 4 = true) :
    ∃ n, (s.forgetWords pas).mem.readBytes pa 4 = split s.cpsr.e .word (Config.anyWord n) := by
  induction pas generalizing s with
  | nil => exact absurd hpa List.not_mem_nil
  | cons q qs ih =>
    have hqs : ∀ p ∈ qs, p % 4 = 0 := fun p hp => ha p (List.mem_cons_of_mem _ hp)
    rw [State.forgetWords, List.foldl_cons]
    by_cases hmem : pa ∈ qs
    · split
      · exact ih (s.forgetAt q .word) (Memory.writeBytes_wf _ _ _ hwf) hqs hmem hb
      · exact ih s hwf hqs hmem hb
    · obtain rfl : pa = q := (List.mem_cons.1 hpa).resolve_right hmem
      have hlater := (State.forgetWords_onlyStored (s.forgetAt pa .word) qs).2
      have hpa4 := ha pa (List.mem_cons_self ..)
      refine ⟨s.draws, ?_⟩
      rw [if_pos hb]
      calc (State.forgetWords (s.forgetAt pa .word) qs).mem.readBytes pa 4
          = (s.forgetAt pa .word).mem.readBytes pa 4 := Memory.readBytes_congr fun k hk => hlater _ fun p hp => by
            have hne : p ≠ pa := fun e => hmem (e ▸ hp)
            have := hqs p hp
            omega
        _ = _ := by
            have hlen : (split s.cpsr.e .word (Config.anyWord s.draws)).length = 4 := split_length ..
            have := Memory.readBytes_writeBytes (split s.cpsr.e .word (Config.anyWord s.draws)) pa hwf
            rw [hlen] at this
            exact this

/-- What a store of several words that aborts does. -/
def StoreAborts (i : Instr) (s t : State) (a : AbortInfo) (start : Word) (values : List Word) : Prop :=
  let pas := openWords s start s.user values
  (∃ x, exec i s = .next (x.dataAbort a) ∧ OnlyStored s x pas 4
    ∧ (s.mem.wf = true → ∀ pa ∈ pas, backed s.cfg pa 4 = true →
      ∃ n, x.mem.readBytes pa 4 = split s.cpsr.e .word (Config.anyWord n)))
    ∧ storeAddresses s start s.user values <+: pas
    ∧ ∀ pa, pa ∈ pas ↔ ∃ (x y : State) (k : Nat) (b : BitVec 40), k < values.length ∧ b.toNat = pa
      ∧ Reached s t start s.user a values k x
      ∧ dataAddress x (start + BitVec.ofNat 32 (4 * k)) .word .write s.user = .ok b y

theorem storeAborts_of {i : Instr} {s t : State} {a : AbortInfo} {start : Word} {values : List Word}
    {done : State → Out} (hx : exec i s = s.storeWords start s.user values done)
    (h : writeWords s start s.user values = .abort a t) : StoreAborts i s t a start values := by
  have hstored := (writeWords_abort_onlyStored h).mono (storeAddresses_prefix h).subset
  have hcfg : t.cfg = s.cfg := hstored.1.cfg
  have hcpsr : t.cpsr = s.cpsr := hstored.1.cpsr
  refine ⟨⟨_, hx.trans (State.storeWords_abort h done), hstored.trans (State.forgetWords_onlyStored t _),
    fun hwf pa hpa hb => ?_⟩, storeAddresses_prefix h, fun pa => (mem_openWords h).trans ?_⟩
  · have ht : t.mem.wf = true := ((writeWords_accessed ..).abort h).1.memory hwf
    rw [← hcpsr]
    exact State.forgetWords_readBytes _ t ht (fun p hp => mem_openWords_aligned h hp) hpa (by rwa [hcfg])
  · constructor
    · rintro ⟨k, x, y, b, hopen⟩
      exact ⟨x, y, k, b, hopen⟩
    · rintro ⟨x, y, k, b, hopen⟩
      exact ⟨k, x, y, b, hopen⟩

/-- STRD, when its address is allowed. -/
theorem State.storePair_eq {s : State} {idx : IndexMode} {u : Bool} {rn rd : Reg} {offset : Word}
    (hp : pairAllowed idx rn rd = true)
    (hcheck : checkPair s (indexAddress idx u (s.readReg rn) offset) .write = .ok () s) :
    s.storePair idx u rn offset rd =
      s.storeWords (indexAddress idx u (s.readReg rn) offset) s.user [s.readReg rd, s.readReg (rd + 1)] fun t =>
        (t.writeback rn (indexWriteback idx u (s.readReg rn) offset)).advance := by
  rw [State.storePair, hp]
  simp only [hcheck]
  rfl

theorem State.storePair_abort {s t : State} {idx : IndexMode} {u : Bool} {rn rd : Reg} {offset : Word} {a : AbortInfo}
    (hp : pairAllowed idx rn rd = true)
    (hcheck : checkPair s (indexAddress idx u (s.readReg rn) offset) .write = .abort a t) :
    s.storePair idx u rn offset rd = .next (t.dataAbort a) := by
  rw [State.storePair, hp]
  simp only [hcheck]
  rfl

/-- Settles O48. -/
theorem multipleStoreAborts : Obligations.MultipleStoreAborts := by
  intro s t c am wb u rn rd list idx offset a i m q hc aborts
  refine ⟨?_, ?_, ?_⟩
  · intro hrn hlist hwb regs start values hr
    refine ⟨storeAborts_of (exec_stm1 hc hrn hlist hwb hr), fun hw husr hsys => ?_⟩
    subst hw
    have hx := exec_stm2 (am := am) hc hrn hlist hr
    rw [spsr_isNone_false husr hsys, if_neg Bool.false_ne_true] at hx
    exact storeAborts_of hx
  · intro heven h14 hw h va
    have hp := pairAllowed_of heven h14 hw
    refine ⟨fun ha hr => ?_, fun hcheck => ?_⟩
    · exact storeAborts_of ((exec_strd hc h).trans (State.storePair_eq hp (checkPair_aligned ha hr _)))
    · exact ⟨(exec_strd hc h).trans (State.storePair_abort hp hcheck), (checkPair_keeps ..).abort hcheck⟩
  · intro hq start hr
    exact storeAborts_of (exec_srs hq hr)

end Sys2Proof.Machine

/-!
# Exceptions, the records of aborts, and the instructions that raise exceptions
-/
namespace Sys2Proof.Machine
open Sys2Proof

/-- Settles O51. -/
theorem exceptionEntry : Obligations.ExceptionEntry := by
  intro s k link t
  refine ⟨by cases k <;> rfl, Regs.get_set .., by cases k <;> rfl, ?_, rfl, fun p hp => ?_,
    fun m hm => Spsrs.get_set_ne _ _ hm, rfl⟩
  · cases k <;> rfl
  · exact Regs.get_set_ne _ _ (fun e => hp (List.mem_singleton.2 e))

/-! ### Instructions -/

theorem exec_coprocessor {s : State} {cp : BitVec 4} (h : s.cfg.coprocessors.contains cp.toNat = false) :
    s.coprocessor cp = .next (s.takeException .undefined (s.pc + 4)) := by
  rw [State.coprocessor, h]
  rfl

theorem coprocessorTransfer_absent {s : State} {cp : BitVec 4} (h : s.cfg.coprocessors.contains cp.toNat = false)
    (op1 : BitVec 3) (body : Out) :
    s.coprocessorTransfer cp op1 body = .next (s.takeException .undefined (s.pc + 4)) := by
  rw [State.coprocessorTransfer, h]
  rfl

theorem exec_undefinedWord {s : State} {w : Word} {c : Cond} (hc : condPassed c s.cpsr = true)
    (h : Cond.ofBits (w.extractLsb' 28 4) = none ∨ Cond.ofBits (w.extractLsb' 28 4) = some c) :
    exec (.undefinedWord w) s = .next (s.takeException .undefined (s.pc + 4)) := by
  show execUndefinedWord w s = _
  obtain h | h := h <;> rw [execUndefinedWord, h]
  · rfl
  · exact whenCond_pass hc _

theorem exec_unpredictableWord {s : State} {w : Word} {c : Cond} (hc : condPassed c s.cpsr = true)
    (h : Cond.ofBits (w.extractLsb' 28 4) = none ∨ Cond.ofBits (w.extractLsb' 28 4) = some c) :
    exec (.unpredictableWord w) s = .refused .unpredictableEncoding := by
  show execUnpredictableWord w s = _
  obtain h | h := h <;> rw [execUnpredictableWord, h]
  exact whenCond_pass hc _

/-- BKPT records its status, and the IFAR, where there is one, takes a free value. -/
theorem State.breakpoint_eq (s : State) : ∃ t : State, s.breakpoint = t.takeException .prefetchAbort (s.pc + 4)
    ∧ t = { s with ifsr := 0b00010#32, ifar := t.ifar, draws := t.draws }
    ∧ (s.cfg.hasIfar = false → t.ifar = s.ifar) := by
  unfold State.breakpoint
  simp only
  split
  · next h => exact ⟨_, rfl, rfl, fun hf => absurd (hf.symm.trans h) Bool.false_ne_true⟩
  · exact ⟨_, rfl, rfl, fun _ => rfl⟩

/-- Settles O52. -/
theorem exceptionInstructions : Obligations.ExceptionInstructions := by
  intro s c n n16 w p u l wb rn rd a b d cp op op1 op2 off hc
  refine ⟨whenCond_pass hc _, ?_,
    fun h => ⟨exec_undefinedWord hc h, exec_unpredictableWord hc h⟩, fun h i hi => ?_⟩
  · obtain ⟨t, ht, hrest⟩ := s.breakpoint_eq
    exact ⟨t, congrArg Host.Outcome.next ht, hrest⟩
  · have hx := exec_coprocessor h
    simp only [List.mem_cons, List.not_mem_nil, or_false] at hi
    obtain rfl | rfl | rfl | rfl | rfl | rfl | rfl | rfl | rfl | rfl | rfl | rfl | rfl | rfl := hi
    · exact (whenCond_pass hc _).trans hx
    · exact hx
    · exact (whenCond_pass hc _).trans hx
    · exact hx
    · exact (whenCond_pass hc _).trans hx
    · exact hx
    · exact (whenCond_pass hc _).trans hx
    · exact hx
    · exact (whenCond_pass hc _).trans hx
    · exact hx
    · exact (whenCond_pass hc _).trans (coprocessorTransfer_absent h _ _)
    · exact hx
    · exact (whenCond_pass hc _).trans (coprocessorTransfer_absent h _ _)
    · exact hx

/-! ### What an abort records -/

/-- The fields of a recorded DFSR, each at its place, and zero elsewhere. -/
theorem dfsrValue_fields (w : Bool) (fs : BitVec 5) (d : BitVec 4) :
    (dfsrValue w fs d).extractLsb' 4 4 = d ∧ (dfsrValue w fs d).getLsbD 11 = w
      ∧ (dfsrValue w fs d).getLsbD 10 = fs.getLsbD 4 ∧ (dfsrValue w fs d).extractLsb' 0 4 = fs.extractLsb' 0 4
      ∧ (dfsrValue w fs d).extractLsb' 12 20 = 0 ∧ (dfsrValue w fs d).extractLsb' 8 2 = 0 := by
  revert w fs d
  decide

theorem ifsrValue_fields (fs : BitVec 5) : (ifsrValue fs).getLsbD 10 = fs.getLsbD 4
    ∧ (ifsrValue fs).extractLsb' 0 4 = fs.extractLsb' 0 4 := by
  revert fs
  decide

/-- The status of an imprecise abort, whatever its free domain and WR. -/
theorem dfsrValue_imprecise (w : Bool) (d : BitVec 4) : dfsrValue w 0b10110#5 d &&& 0xFFFFF70F#32 = 0x00000406#32
    ∧ dfsrValue w 0b11000#5 d &&& 0xFFFFF70F#32 = 0x00000408#32 := by
  revert w d
  decide

/-- An imprecise abort records its status and is one fewer pending. -/
theorem State.impreciseAbort_records (s : State) : ∃ x : State, s.impreciseAbort = x.takeException .dataAbort (s.pc + 8)
    ∧ x = { s with
        dfsr := x.dfsr, draws := x.draws, pendingImprecise := s.pendingImprecise - 1
        pendingParity := if s.pendingParity < s.pendingImprecise then s.pendingParity else s.pendingParity - 1 }
    ∧ x.dfsr &&& 0xFFFFF70F#32 = if s.pendingParity < s.pendingImprecise then 0x00000406#32 else 0x00000408#32 := by
  refine ⟨_, s.impreciseAbort_eq, ?_⟩
  by_cases h : s.pendingParity < s.pendingImprecise
  · rw [decide_eq_false (Nat.not_le.2 h), if_pos h, if_pos h]
    exact ⟨rfl, (dfsrValue_imprecise _ _).1⟩
  · rw [decide_eq_true (Nat.not_lt.1 h), if_neg h, if_neg h]
    exact ⟨rfl, (dfsrValue_imprecise _ _).2⟩

theorem takeException_link (s : State) (k : ExceptionKind) (link : Word) :
    (s.takeException k link).readBank k.mode 14#4 = link := Regs.get_set ..

/-- Settles O53. -/
theorem abortRecords : Obligations.AbortRecords := by
  intro s a t p
  obtain ⟨d, f, n, ht, hd, hf⟩ := s.dataAbort_eq a
  have ht : t = _ := ht
  have hp : p = _ := s.prefetchAbort_eq a
  obtain ⟨hdomain, hwrite, hfs, hlow, hhigh, hmid⟩ := dfsrValue_fields a.write a.fs d
  obtain ⟨ifs, ilow⟩ := ifsrValue_fields a.fs
  rw [ht, hp]
  exact ⟨fun d' h => hdomain.trans (hd d' h), hwrite, hfs, hlow, hhigh, hmid, hf, rfl, rfl,
    takeException_link _ .dataAbort _, rfl, rfl, rfl, ifs, ilow, rfl, rfl, rfl, takeException_link _ .prefetchAbort _,
    rfl, s.impreciseAbort_records⟩

/-! ### MCR and MRC -/

theorem cp15Read_keeps (s : State) (crn crm : BitVec 4) (op2 : BitVec 3) :
    (cp15Read s crn crm op2).Keeps (SameButTlb s) := by
  have hopen (stored openBits : Word) : (s.readOpen stored openBits).Keeps (SameButTlb s) := draw_same s
  have hlock : (readLockdown s op2).Keeps (SameButTlb s) := by
    unfold readLockdown
    split
    · trivial
    · exact hopen ..
  unfold cp15Read
  split
  case h_3 | h_4 | h_5 | h_8 | h_9 => exact hopen ..
  case h_12 =>
    split
    · exact .refl s
    · trivial
  case h_14 | h_15 => exact hlock
  case h_7 | h_13 | h_18 => trivial
  all_goals exact .refl s

section
variable {s : State} {op1 : BitVec 3} {body : Out}

theorem coprocessorTransfer_user (hcp : s.cfg.coprocessors.contains 15 = true) (h : s.mode = .usr) :
    s.coprocessorTransfer 15#4 op1 body = .next (s.takeException .undefined (s.pc + 4)) := by
  have hcp : s.cfg.coprocessors.contains (15#4).toNat = true := hcp
  have hp : s.privileged = false := by
    rw [Bool.eq_false_iff, ne_eq, privileged_iff]
    exact fun hn => hn h
  rw [State.coprocessorTransfer, hcp, hp]
  rfl

theorem coprocessorTransfer_privileged (hcp : s.cfg.coprocessors.contains 15 = true) (h : s.mode ≠ .usr) :
    s.coprocessorTransfer 15#4 0#3 body = body := by
  have hcp : s.cfg.coprocessors.contains (15#4).toNat = true := hcp
  rw [State.coprocessorTransfer, hcp, (privileged_iff s).2 h]
  rfl

theorem exec_mcr {c : Cond} {crn crm : BitVec 4} {rd : Reg} {op2 : BitVec 3} (hc : condPassed c s.cpsr = true)
    (hcp : s.cfg.coprocessors.contains 15 = true) (h : s.mode ≠ .usr) :
    exec (.mcr c 0#3 crn rd 15#4 op2 crm) s = withoutPC [rd] ((cp15Write s crn crm op2 (s.readReg rd)).finish
      (fun _ t => t.advance) (fun i t => .next (t.dataAbort i))) :=
  (whenCond_pass hc _).trans (coprocessorTransfer_privileged hcp h)

theorem exec_mrc {c : Cond} {crn crm : BitVec 4} {rd : Reg} {op2 : BitVec 3} (hc : condPassed c s.cpsr = true)
    (hcp : s.cfg.coprocessors.contains 15 = true) (h : s.mode ≠ .usr) :
    exec (.mrc c 0#3 crn rd 15#4 op2 crm) s = (cp15Read s crn crm op2).finish
      (fun v t =>
        if rd = 15#4 then ({ t with cpsr := t.cpsr.setTransferred v }).advance else (t.writeReg rd v).advance)
      (fun i t => .next (t.dataAbort i)) :=
  (whenCond_pass hc _).trans (coprocessorTransfer_privileged hcp h)

end

/-- Settles O54. -/
theorem systemTransfers : Obligations.SystemTransfers := by
  intro s t c crn crm rd op1 op2 v hrun hcp
  obtain ⟨hc, hpc⟩ := hrun
  refine ⟨fun hm => ⟨(whenCond_pass hc _).trans (coprocessorTransfer_user hcp hm),
    (whenCond_pass hc _).trans (coprocessorTransfer_user hcp hm)⟩, fun hm => ?_⟩
  refine ⟨fun hrd hw => ?_, (exec_mcr hc hcp hm).trans (withoutPC_refused (List.mem_singleton.2 rfl) _), fun hr => ?_,
    fun hrd => ?_, exec_mrc hc hcp hm⟩
  · have hx := (exec_mcr (crn := crn) (op2 := op2) (crm := crm) hc hcp hm).trans (withoutPC_ok (not_pc_mem hrd) _)
    rw [hw] at hx
    exact ends_of_advance hx ((cp15Write_systemWrite ..).ok hw).pc hpc
  · have hs : SameButTlb s t := (cp15Read_keeps ..).ok hr
    have hx (rd : Reg) := exec_mrc (crn := crn) (rd := rd) (op2 := op2) (crm := crm) hc hcp hm
    simp only [hr] at hx
    refine ⟨fun hrd => ?_, ?_⟩
    · exact ends_of_advance ((hx rd).trans (if_neg hrd)) hs.pc hpc
    · rw [← hs.cpsr]
      exact ends_of_advance (hx 15#4) hs.pc hpc
  · exact (exec_mcr hc hcp hm).trans (withoutPC_ok (not_pc_mem hrd) _)

end Sys2Proof.Machine

/-!
# The CP15 registers

A read gives the current value, with free values in the bits that are UNPREDICTABLE (`readOpen_masked`); a write is checked
against the bits that should be zero. What the TLB operations remove is a filter on the slots (`State.filterTlbs_tlb`).
-/
namespace Sys2Proof.Machine
open Sys2Proof

/-- A read with free bits: the others are those of the stored value. -/
theorem readOpen_masked (s : State) (stored openBits : Word) :
    ∃ x, s.readOpen stored openBits = .ok x s.draw.2 ∧ x &&& ~~~openBits = stored &&& ~~~openBits := by
  refine ⟨_, rfl, ?_⟩
  ext k hk
  simp only [BitVec.getElem_and, BitVec.getElem_or, BitVec.getElem_not]
  cases openBits[k] <;> simp

theorem writeChecked_ok {v zero : Word} (h : v &&& zero = 0) (t : State) : writeChecked v zero t = .ok () t :=
  if_neg (by rw [h]; decide)

theorem writeChecked_refused {v zero : Word} (h : v &&& zero ≠ 0) (t : State) :
    writeChecked v zero t = .refused .cp15ShouldBeZero :=
  if_pos (bne_iff_ne.2 h)

theorem and_ones (v : Word) : v &&& 0xFFFFFFFF#32 = v := BitVec.and_allOnes

/-- The bits of the control register that cannot be set: FI, bit 22 and VE. -/
theorem controlOutside_iff (v : Word) :
    v &&& 0x01600000#32 = 0 ↔ (v.getLsbD 24 || v.getLsbD 22 || v.getLsbD 21) = false := by
  have hmask : (0x01600000#32 : Word) = BitVec.twoPow 32 24 ||| BitVec.twoPow 32 22 ||| BitVec.twoPow 32 21 := by decide
  rw [hmask, BitVec.and_or_distrib_left, BitVec.and_or_distrib_left]
  constructor
  · intro h
    have hbit (k : Nat) := congrArg (fun x : Word => x.getLsbD k) h
    have h24 := hbit 24
    have h22 := hbit 22
    have h21 := hbit 21
    simp at h24 h22 h21
    simp [h24, h22, h21]
  · intro h
    simp only [Bool.or_eq_false_iff] at h
    obtain ⟨⟨h24, h22⟩, h21⟩ := h
    rw [BitVec.and_twoPow, BitVec.and_twoPow, BitVec.and_twoPow, h24, h22, h21]
    decide

/-- A value that the TTBCR may take is its N. -/
theorem tableN_of_small {v : Word} (h : v &&& 0xFFFFFFF8#32 = 0) : tableN v = v.toNat := by
  have hsplit : v = v &&& 7#32 := by
    have hall : (7#32 : Word) ||| 0xFFFFFFF8#32 = 0xFFFFFFFF#32 := by decide
    calc v = v &&& (7#32 ||| 0xFFFFFFF8#32) := by rw [hall, and_ones]
      _ = v &&& 7#32 := by rw [BitVec.and_or_distrib_left, h]; exact BitVec.or_zero
  have hlt : v.toNat < 8 := by
    rw [hsplit, BitVec.toNat_and]
    exact Nat.lt_succ_of_le Nat.and_le_right
  rw [tableN, BitVec.extractLsb'_toNat, Nat.shiftRight_zero]
  exact Nat.mod_eq_of_lt hlt

/-- A use takes a value of the window or the current one. -/
theorem useSynced_mem (s : State) (r : Synced) : (s.useSynced r).1 ∈ r.current :: r.window := by
  unfold State.useSynced
  cases r.window with
  | nil => exact List.mem_singleton.2 rfl
  | cons w ws =>
    cases s.picks with
    | nil => exact List.mem_cons_self ..
    | cons k ks =>
      show (r.current :: w :: ws).getD k r.current ∈ _
      rw [List.getD_eq_getElem?_getD]
      cases hk : (r.current :: w :: ws)[k]? with
      | none => exact List.mem_cons_self ..
      | some x => exact List.mem_of_getElem? hk

/-- Every one of them is the choice of some pick. -/
theorem useSynced_pick (s : State) (r : Synced) {x : Word} (hx : x ∈ r.current :: r.window) :
    ∃ k, ({ s with picks := [k] }.useSynced r).1 = x := by
  obtain ⟨k, hk⟩ := List.mem_iff_getElem?.1 hx
  refine ⟨k, ?_⟩
  unfold State.useSynced
  cases hw : r.window with
  | nil =>
    rw [hw] at hx
    exact (List.mem_singleton.1 hx).symm
  | cons w ws =>
    rw [hw] at hk
    show (r.current :: w :: ws).getD k r.current = x
    rw [List.getD_eq_getElem?_getD, hk]
    rfl

/-- Settles O55. -/
theorem systemRegisters : Obligations.SystemRegisters := by
  intro s v r write read written readOpen low
  refine ⟨fun h => if_neg (by rw [(controlOutside_iff v).1 h]; decide),
    fun h => if_pos (Bool.not_eq_false _ ▸ mt (controlOutside_iff v).2 h),
    fun h => writeChecked_ok h _, fun h => writeChecked_refused h _, fun h => writeChecked_ok h _,
    fun h => writeChecked_refused h _, fun h => ?_, fun h => writeChecked_refused h _, rfl, rfl,
    fun h => if_neg (by rw [h]; decide), fun h => if_pos (bne_iff_ne.2 h), rfl, readOpen_masked .., readOpen_masked ..,
    readOpen_masked .., rfl, rfl, rfl, useSynced_closed, useSynced_mem s r, fun x hx => useSynced_pick s r hx,
    rfl, rfl, rfl, fun h e he => ?_⟩
  · refine (writeChecked_ok h _).trans ?_
    rw [State.writeTtbcr, tableN_of_small h]
    rfl
  · have hr (t : State) := writeChecked_refused (v := v) (zero := 0xFFFFFFFF#32) (by rwa [and_ones]) t
    simp only [List.mem_cons, List.not_mem_nil, or_false] at he
    obtain rfl | rfl | rfl := he
    · exact hr _
    · exact hr _
    · exact hr _

/-! ### The lockdown registers -/

theorem Nat.two_pow_sub_testBit {hi lo : Nat} (h : lo ≤ hi) (k : Nat) :
    (2 ^ hi - 2 ^ lo).testBit k = (decide (lo ≤ k) && decide (k < hi)) := by
  have hsub : 2 ^ hi - 2 ^ lo = 2 ^ lo * (2 ^ (hi - lo) - 1) := by
    rw [Nat.mul_sub, ← Nat.pow_add, Nat.add_sub_cancel' h, Nat.mul_one]
  rw [hsub, Nat.testBit_two_pow_mul, Nat.testBit_two_pow_sub_one]
  by_cases hk : lo ≤ k
  · have : k - lo < hi - lo ↔ k < hi := by omega
    simp [hk, this]
  · simp [hk]

theorem bitRange_getLsbD {hi lo : Nat} (h : lo ≤ hi) (hhi : hi ≤ 32) (k : Nat) :
    (bitRange hi lo).getLsbD k = (decide (lo ≤ k) && decide (k < hi)) := by
  rw [bitRange, BitVec.getLsbD_ofNat, Nat.two_pow_sub_testBit h]
  by_cases hk : k < hi
  · simp [hk, Nat.lt_of_lt_of_le hk hhi]
  · simp [hk]

/-- A read with free bits keeps every other bit. -/
theorem getLsbD_of_masked {x stored openBits : Word} (h : x &&& ~~~openBits = stored &&& ~~~openBits) {k : Nat}
    (hk : k < 32) (ho : openBits.getLsbD k = false) : x.getLsbD k = stored.getLsbD k := by
  have := congrArg (fun w : Word => w.getLsbD k) h
  rw [BitVec.getLsbD_eq_getElem hk] at ho
  simpa [hk, ho] using this

/-- The bits above a range of free ones. -/
theorem div_of_masked {x stored : Word} {hi lo : Nat} (hlo : lo ≤ hi) (hhi : hi ≤ 32)
    (h : x &&& ~~~bitRange hi lo = stored &&& ~~~bitRange hi lo) : x.toNat / 2 ^ hi = stored.toNat / 2 ^ hi := by
  refine Nat.eq_of_testBit_eq fun k => ?_
  rw [Nat.testBit_div_two_pow, Nat.testBit_div_two_pow]
  by_cases hk : k + hi < 32
  · exact getLsbD_of_masked h hk (by rw [bitRange_getLsbD hlo hhi]; simp)
  · rw [Nat.testBit_lt_two_pow (Nat.lt_of_lt_of_le x.isLt (Nat.pow_le_pow_right (by decide) (Nat.not_lt.1 hk))),
      Nat.testBit_lt_two_pow (Nat.lt_of_lt_of_le stored.isLt (Nat.pow_le_pow_right (by decide) (Nat.not_lt.1 hk)))]

/-- The word of a lockdown register holds its base, its victim and P at their places. -/
theorem lockdown_word {w base victim : Nat} {p : Bool} (hw : 2 * w < 32) (hb : base < 2 ^ w) (hv : victim < 2 ^ w) :
    let stored := BitVec.ofNat 32 (base % 2 ^ w * 2 ^ (32 - w) + victim % 2 ^ w * 2 ^ (32 - 2 * w) + p.toNat)
    stored.toNat / 2 ^ (32 - 2 * w) = base * 2 ^ w + victim ∧ stored.getLsbD 0 = p := by
  intro stored
  obtain ⟨k, hk⟩ : ∃ k, 32 - 2 * w = k + 1 := ⟨31 - 2 * w, by omega⟩
  have hpow : 2 ^ (32 - w) = 2 ^ w * 2 ^ (32 - 2 * w) := by rw [← Nat.pow_add]; congr 1; omega
  have h32 : 2 ^ 32 = 2 ^ w * 2 ^ w * 2 ^ (32 - 2 * w) := by rw [← Nat.pow_add, ← Nat.pow_add]; congr 1; omega
  have hsum : base % 2 ^ w * 2 ^ (32 - w) + victim % 2 ^ w * 2 ^ (32 - 2 * w) + p.toNat
      = (base * 2 ^ w + victim) * 2 ^ (32 - 2 * w) + p.toNat := by
    rw [Nat.mod_eq_of_lt hb, Nat.mod_eq_of_lt hv, hpow]
    ring
  have hp : p.toNat < 2 ^ (32 - 2 * w) := by
    have : 2 ^ (32 - 2 * w) = 2 * 2 ^ k := by rw [hk, Nat.pow_succ, Nat.mul_comm]
    have := Nat.two_pow_pos k
    have := p.toNat_lt
    omega
  have hfield : base * 2 ^ w + victim < 2 ^ w * 2 ^ w := by
    calc base * 2 ^ w + victim < base * 2 ^ w + 2 ^ w := Nat.add_lt_add_left hv _
      _ = (base + 1) * 2 ^ w := by ring
      _ ≤ 2 ^ w * 2 ^ w := Nat.mul_le_mul_right _ hb
  have hlt : (base * 2 ^ w + victim) * 2 ^ (32 - 2 * w) + p.toNat < 2 ^ 32 := by
    calc _ < (base * 2 ^ w + victim) * 2 ^ (32 - 2 * w) + 2 ^ (32 - 2 * w) := Nat.add_lt_add_left hp _
      _ = (base * 2 ^ w + victim + 1) * 2 ^ (32 - 2 * w) := by ring
      _ ≤ 2 ^ w * 2 ^ w * 2 ^ (32 - 2 * w) := Nat.mul_le_mul_right _ hfield
      _ = 2 ^ 32 := h32.symm
  have hstored : stored.toNat = (base * 2 ^ w + victim) * 2 ^ (32 - 2 * w) + p.toNat := by
    rw [BitVec.toNat_ofNat, hsum, Nat.mod_eq_of_lt hlt]
  refine ⟨?_, ?_⟩
  · rw [hstored, Nat.add_comm, Nat.add_mul_div_right _ _ (Nat.two_pow_pos _), Nat.div_eq_of_lt hp, Nat.zero_add]
  · rw [BitVec.getLsbD, hstored, hk, Nat.pow_succ, Nat.testBit_zero, ← Nat.mul_assoc]
    cases p <;> simp [Nat.add_mod]

theorem lockdownSide_none {c : Params} {side : Bool}
    (h : lockable c side = 0 ∨ (c.tlbUnified = true ∧ side = true)) :
    lockdownSide c (if side then 1#3 else 0#3) = none := by
  unfold lockdownSide
  cases side with
  | false =>
    have h : lockable c false = 0 := h.resolve_right fun hu => Bool.false_ne_true hu.2
    simp [h]
  | true =>
    obtain h | ⟨hu, -⟩ := h
    · cases hu : c.tlbUnified <;> simp [h]
    · simp [hu]

theorem lockdownSide_some {c : Params} {side : Bool} (hl : 0 < lockable c side)
    (hu : c.tlbUnified = true → side = false) : lockdownSide c (if side then 1#3 else 0#3) = some side := by
  have hne : lockable c side ≠ 0 := Nat.ne_of_gt hl
  unfold lockdownSide
  cases side with
  | false => simp [hne]
  | true =>
    have : c.tlbUnified = false := by
      rw [Bool.eq_false_iff]
      exact fun h => absurd (hu h) (by decide)
    simp [hne, this]

theorem cp15Write_lockdown (s : State) (side : Bool) (v : Word) :
    cp15Write s 10#4 0#4 (if side then 1#3 else 0#3) v = writeLockdown s (if side then 1#3 else 0#3) v := by
  cases side <;> rfl

theorem cp15Read_lockdown (s : State) (side : Bool) :
    cp15Read s 10#4 0#4 (if side then 1#3 else 0#3) = readLockdown s (if side then 1#3 else 0#3) := by
  cases side <;> rfl

/-- A read of a lockdown register gives back its fields. -/
theorem readLockdown_some {s : State} {op2 : BitVec 3} {side : Bool} (h : lockdownSide s.cfg op2 = some side)
    (hb : (s.tlb side).Bounded s.cfg (lockable s.cfg side)) (hw : 2 * lockWidth s.cfg.tlbEntries < 32) :
    ∃ x, readLockdown s op2 = .ok x s.draw.2
      ∧ x.toNat / 2 ^ (32 - lockWidth s.cfg.tlbEntries) = (s.tlb side).base
      ∧ x.toNat / 2 ^ (32 - 2 * lockWidth s.cfg.tlbEntries) % 2 ^ lockWidth s.cfg.tlbEntries = (s.tlb side).victim
      ∧ x.getLsbD 0 = (s.tlb side).p := by
  obtain ⟨-, -, hbase, hvictim, hnone, hfixed, -⟩ := hb
  have hlock : (s.tlb side).lockBase s.cfg side = (s.tlb side).base := by
    unfold Tlb.lockBase
    split
    · next hz =>
      obtain hz | hz := Bool.or_eq_true_iff.1 hz
      · exact (hfixed hz).symm
      · exact (hnone (beq_iff_eq.1 hz)).1.symm
    · rfl
  have hbase := Nat.lt_of_lt_of_le hbase (lockWidth_bound s.cfg.tlbEntries)
  generalize hwdef : lockWidth s.cfg.tlbEntries = w at *
  obtain ⟨hfields, hp⟩ := lockdown_word (p := (s.tlb side).p) hw hbase hvictim
  obtain ⟨x, hx, hmask⟩ := readOpen_masked s (BitVec.ofNat 32 ((s.tlb side).base % 2 ^ w * 2 ^ (32 - w)
    + (s.tlb side).victim % 2 ^ w * 2 ^ (32 - 2 * w) + (s.tlb side).p.toNat)) (bitRange (32 - 2 * w) 1)
  have hdiv := (div_of_masked (by omega) (Nat.sub_le ..) hmask).trans hfields
  refine ⟨x, ?_, ?_, ?_, ?_⟩
  · rw [readLockdown, h]
    simp only [hwdef, hlock]
    exact hx
  · have hpow : 2 ^ (32 - w) = 2 ^ (32 - 2 * w) * 2 ^ w := by rw [← Nat.pow_add]; congr 1; omega
    rw [hpow, ← Nat.div_div_eq_div_mul, hdiv, Nat.add_comm, Nat.add_mul_div_right _ _ (Nat.two_pow_pos w),
      Nat.div_eq_of_lt hvictim, Nat.zero_add]
  · rw [hdiv, Nat.add_comm, Nat.add_mul_mod_self_right, Nat.mod_eq_of_lt hvictim]
  · refine (getLsbD_of_masked hmask (by decide) ?_).trans hp
    rw [bitRange_getLsbD (by omega) (Nat.sub_le ..)]
    rfl

/-- The fields of the TLB type register. -/
theorem tlbType_fields {c : Params} (hd : c.dlockN < 256) (hi : c.ilockN < 256) :
    (tlbType c).toNat / 2 ^ 16 = (if c.tlbUnified then 0 else c.ilockN) ∧ (tlbType c).toNat / 2 ^ 8 % 2 ^ 8 = c.dlockN
      ∧ (tlbType c).toNat % 2 ^ 8 = if c.tlbUnified then 0 else 1 := by
  rw [tlbType, BitVec.toNat_ofNat]
  cases c.tlbUnified
  · simp only [Bool.false_eq_true, if_false]
    omega
  · simp only [if_true]
    omega

/-- Settles O56. -/
theorem faultAndLockdownRegisters : Obligations.FaultAndLockdownRegisters := by
  intro s v side write read readOpen op2 entries w locks b c old
  have hlocks : lockable s.cfg side = locks := rfl
  have htlb : s.tlb side = old := rfl
  refine ⟨fun h => writeChecked_ok h _, fun h => writeChecked_refused h _, fun h => writeChecked_ok h _,
    fun h => writeChecked_refused h _, readOpen_masked .., readOpen_masked .., rfl, rfl, rfl, rfl,
    fun h => ⟨if_pos h, if_pos h⟩, fun h => ⟨if_neg (by rw [h]; decide), if_neg (by rw [h]; decide)⟩,
    ⟨_, rfl, fun hd hi => tlbType_fields hd hi⟩, fun h => ?_, fun hl hu => ⟨fun hbound => ?_, fun h1 h2 h3 h4 => ?_, ?_⟩⟩
  · have hside := lockdownSide_none h
    refine ⟨(cp15Write_lockdown s side v).trans ?_, (cp15Read_lockdown s side).trans ?_⟩
    · rw [writeLockdown, hside]
    · rw [readLockdown, hside]
  · refine (cp15Write_lockdown s side v).trans ?_
    rw [writeLockdown, lockdownSide_some hl hu]
    refine if_pos ?_
    simp only [Bool.or_eq_true, decide_eq_true_eq, min_le_iff]
    obtain h | h | h | h := hbound
    · exact .inl (.inl h)
    · exact .inr (.inl h)
    · exact .inl (.inr h)
    · exact .inr (.inr h)
  · refine ⟨_, (cp15Write_lockdown s side v).trans ?_, rfl⟩
    rw [writeLockdown, lockdownSide_some hl hu]
    refine (if_neg ?_).trans ?_
    · simp only [Bool.or_eq_true, decide_eq_true_eq, min_le_iff, not_or, not_le]
      exact ⟨⟨h1, h3⟩, h2, h4⟩
    · rfl
  · intro hb hw
    obtain ⟨x, hx, hrest⟩ := readLockdown_some (lockdownSide_some hl hu) hb hw
    exact ⟨x, (cp15Read_lockdown s side).trans hx, hrest⟩

/-! ### The TLB operations -/

/-- The TLBs that a CRm names. -/
theorem mem_tlbTargets {c : Params} {crm : BitVec 4} (h : crm ∈ [5#4, 6#4, 7#4]) (side : Bool) :
    side ∈ tlbTargets c crm ↔ if c.tlbUnified then side = false else crm = 7#4 ∨ (side = true ↔ crm = 5#4) := by
  unfold tlbTargets
  cases c.tlbUnified with
  | true => simp
  | false =>
    simp only [List.mem_cons, List.not_mem_nil, or_false] at h
    obtain rfl | rfl | rfl := h <;> cases side <;> simp

/-- Filtering both TLBs, one or the other. -/
theorem State.filterTlbs_eq (s : State) (crm : BitVec 4) (keep : TlbEntry → Bool) : s.filterTlbs crm keep =
    { s with
      tlbD := if false ∈ tlbTargets s.cfg crm then s.tlbD.filter keep else s.tlbD
      tlbI := if true ∈ tlbTargets s.cfg crm then s.tlbI.filter keep else s.tlbI } := by
  unfold State.filterTlbs tlbTargets
  split
  · rfl
  · split
    · rfl
    · split <;> rfl

/-- Filtering keeps an entry in its slot or removes it. -/
theorem getElem?_map_filter (slots : List (Option TlbEntry)) (keep : TlbEntry → Bool) (i : Nat) (e : TlbEntry) :
    (slots.map fun x => x.filter keep)[i]? = some (some e) ↔ slots[i]? = some (some e) ∧ keep e = true := by
  rw [List.getElem?_map]
  cases slots[i]? with
  | none => simp
  | some x =>
    rw [Option.map_some, Option.some_inj, Option.some_inj, Option.filter_eq_some_iff]

theorem State.filterTlbs_tlb (s : State) (crm : BitVec 4) (keep : TlbEntry → Bool) (side : Bool) :
    (s.filterTlbs crm keep).tlb side =
      if side ∈ tlbTargets s.cfg crm then (s.tlb side).filter keep else s.tlb side := by
  rw [State.filterTlbs_eq]
  cases side <;> rfl

/-- Of the slots `old`, exactly the entries that stay are left, each in its slot. -/
def Thinned (old new : List (Option TlbEntry)) (stays : TlbEntry → Prop) : Prop :=
  new.length = old.length ∧ ∀ (i : Nat) (e : TlbEntry), new[i]? = some (some e) ↔ old[i]? = some (some e) ∧ stays e

theorem thinned_filter (slots : List (Option TlbEntry)) {keep : TlbEntry → Bool} {stays : TlbEntry → Prop}
    (h : ∀ e, keep e = true ↔ stays e) : Thinned slots (slots.map fun x => x.filter keep) stays :=
  ⟨List.length_map .., fun i e => by rw [getElem?_map_filter, h]⟩

theorem cp15Write_tlbOp {s : State} {crm : BitVec 4} (h : crm ∈ [5#4, 6#4, 7#4]) (op2 : BitVec 3) (v : Word) :
    cp15Write s 8#4 crm op2 v = writeTlbOp s crm op2 v := by
  simp only [List.mem_cons, List.not_mem_nil, or_false] at h
  obtain rfl | rfl | rfl := h <;> rfl

section
variable {s : State} {crm : BitVec 4} {v : Word}

theorem writeTlbOp_all : writeTlbOp s crm 0#3 0 = .ok () (s.filterTlbs crm fun e => e.locked) := rfl

theorem writeTlbOp_entry (hxp : ctlXP s.sctlr.current = true) (hv : v.extractLsb' 8 4 = 0#4) :
    writeTlbOp s crm 1#3 v =
      .ok () (s.filterTlbs crm fun e => !entryMatches e (v &&& 0xFFFFF000#32) (v.setWidth 8)) :=
  (if_neg (by rw [hxp]; decide)).trans (if_neg (by rw [hv]; decide))

theorem writeTlbOp_asid (hv : v.extractLsb' 8 24 = 0#24) : writeTlbOp s crm 2#3 v =
    .ok () (s.filterTlbs crm fun e => e.global || e.asid != v.setWidth 8) :=
  if_neg (by rw [hv]; decide)

end

theorem not_entryMatches_iff (e : TlbEntry) (mva : Word) (asid : BitVec 8) : (!entryMatches e mva asid) = true ↔
    ¬(entryCovers e mva = true ∧ (e.global = true ∨ e.asid = asid)) := by
  rw [entryMatches, Bool.not_eq_true', Bool.eq_false_iff, ne_eq, Bool.and_eq_true, Bool.or_eq_true, beq_iff_eq]

/-- Settles O57. -/
theorem tlbInvalidation : Obligations.TlbInvalidation := by
  intro s v crm side hcrm named tlb thinned keeps
  have hkeeps {op2 : BitVec 3} {v : Word} {keep : TlbEntry → Bool} {stays : TlbEntry → Prop}
      (hw : writeTlbOp s crm op2 v = .ok () (s.filterTlbs crm keep)) (h : ∀ e, keep e = true ↔ stays e) :
      keeps op2 v stays := by
    have hside : (s.filterTlbs crm keep).tlb side =
        if side ∈ tlbTargets s.cfg crm then (s.tlb side).filter keep else s.tlb side := s.filterTlbs_tlb crm keep side
    refine ⟨_, (cp15Write_tlbOp hcrm op2 v).trans hw, ?_, fun hn => ?_, fun hn => ?_⟩
    · rw [State.filterTlbs_eq]
    · rw [if_pos ((mem_tlbTargets hcrm side).2 hn)] at hside
      have hside : tlb (s.filterTlbs crm keep) = (tlb s).filter keep := hside
      rw [hside]
      exact ⟨rfl, thinned_filter _ h, thinned_filter _ h⟩
    · rwa [if_neg (mt (mem_tlbTargets hcrm side).1 hn)] at hside
  exact ⟨hkeeps writeTlbOp_all fun e => Iff.rfl,
    fun hxp hv => hkeeps (writeTlbOp_entry hxp hv) fun e => not_entryMatches_iff e _ _,
    fun hv => hkeeps (writeTlbOp_asid hv) fun e => by rw [Bool.or_eq_true_iff, bne_iff_ne]⟩

end Sys2Proof.Machine

/-!
# The access check, the TLB and translation
-/
namespace Sys2Proof.Machine
open Sys2Proof

/-! ### The access check -/

theorem domainAccess_eq (dacr : Word) (domain : BitVec 4) :
    domainAccess dacr domain = (dacr >>> (2 * domain.toNat)).setWidth 2 := by
  refine BitVec.eq_of_toNat_eq ?_
  rw [domainAccess, BitVec.extractLsb'_toNat, BitVec.toNat_setWidth, BitVec.toNat_ushiftRight]

section
variable {s : State} {e : TlbEntry} {k : AccessKind} {user : Bool} {mva : Word}

/-- The domain decides first. -/
theorem checkAccess_noAccess (h : domainAccess (s.useSynced s.dacr).1 e.domain = 0#2) : checkAccess s e k user mva =
    .abort ⟨if e.level = .firstLevel then 0b01001#5 else 0b01011#5, some e.domain, mva, k == .write, true⟩
      (s.useSynced s.dacr).2 := by
  simp only [checkAccess, h]
  cases e.level <;> rfl

theorem checkAccess_reserved (h : domainAccess (s.useSynced s.dacr).1 e.domain = 2#2) :
    checkAccess s e k user mva = .refused .reservedDomainAccess := by
  simp only [checkAccess, h]
  rfl

theorem checkAccess_manager (h : domainAccess (s.useSynced s.dacr).1 e.domain = 3#2) :
    checkAccess s e k user mva = .ok () (s.useSynced s.dacr).2 := by
  simp only [checkAccess, h]
  rfl

/-- In a client domain the permission table and execute-never decide. -/
theorem checkAccess_client_none (h : domainAccess (s.useSynced s.dacr).1 e.domain = 1#2)
    (hp : permitted e user k = none) : checkAccess s e k user mva = .refused .reservedPermission := by
  simp only [checkAccess, h, hp]
  rfl

theorem checkAccess_client_some {p : Bool} (h : domainAccess (s.useSynced s.dacr).1 e.domain = 1#2)
    (hp : permitted e user k = some p) : checkAccess s e k user mva =
      if !p || (k == .fetch && e.xn) then
        .abort ⟨if e.level = .firstLevel then 0b01101#5 else 0b01111#5, some e.domain, mva, k == .write, true⟩
          (s.useSynced s.dacr).2
      else .ok () (s.useSynced s.dacr).2 := by
  simp only [checkAccess, h, hp]
  cases e.level <;> rfl

end

/-- Settles O58. -/
theorem accessCheck : Obligations.AccessCheck := by
  intro s e k user mva t d fault read row
  have hd (x : BitVec 2) (h : d = x) : domainAccess (s.useSynced s.dacr).1 e.domain = x :=
    (domainAccess_eq _ _).trans h
  refine ⟨fun h => checkAccess_noAccess (hd _ h), fun h => checkAccess_reserved (hd _ h),
    fun h => checkAccess_manager (hd _ h), fun h hp => checkAccess_client_none (hd _ h) hp,
    fun h hp hxn => ?_, fun h hp => ?_, ?_⟩
  · rw [checkAccess_client_some (hd _ h) hp]
    refine if_neg ?_
    cases k with
    | fetch => simp [hxn rfl]
    | read | write => exact Bool.false_ne_true
  · obtain hp | ⟨hp, rfl, hxn⟩ := hp
    · exact (checkAccess_client_some (hd _ h) hp).trans (if_pos rfl)
    · exact (checkAccess_client_some (hd _ h) hp).trans (if_pos (by simp [hxn]))
  · refine ⟨?_, fun x y => ⟨?_, ?_, ?_⟩, ?_, ?_, ?_, ?_, ?_, ?_, ?_, fun ap => ⟨?_, ?_, ?_⟩⟩ <;>
      intro hs hr hx ha <;> simp [permitted, hs, hr, hx, ha, read]

/-! ### Replacement -/

theorem nextVictim_none {base victim entries : Nat} (hv : victim < entries) :
    nextVictim base victim entries none = if victim + 1 = entries then base else victim + 1 := by
  unfold nextVictim
  by_cases h : victim + 1 = entries
  · simp [h]
  · have : ¬entries ≤ victim + 1 := by omega
    simp [h, this]

theorem nextVictim_some {base victim entries choice : Nat} :
    nextVictim base victim entries (some choice) =
      if base ≤ victim ∧ base ≤ choice ∧ choice < entries then choice else nextVictim base victim entries none := by
  unfold nextVictim
  simp [Bool.and_eq_true, and_assoc]

theorem nextVictim_bounds {base victim entries : Nat} (hb : base < entries) (hv : victim < entries)
    (h : base ≤ victim) (o : Option Nat) :
    base ≤ nextVictim base victim entries o ∧ nextVictim base victim entries o < entries := by
  have hnone : base ≤ nextVictim base victim entries none ∧ nextVictim base victim entries none < entries := by
    rw [nextVictim_none hv]
    split <;> omega
  cases o with
  | none => exact hnone
  | some choice =>
    rw [nextVictim_some]
    split
    · next hc => exact hc.2
    · exact hnone

theorem Tlb.forget_slots (t : Tlb) (base : Nat) (drop : List Nat) (i : Nat) : (t.forget base drop).slots[i]? =
    (t.slots[i]?).map fun x => x.filter fun e => !(drop.contains i && !e.locked && decide (base ≤ i)) := by
  unfold Tlb.forget
  rw [List.getElem?_mapIdx]
  congr 1
  funext x
  cases x with
  | none => rfl
  | some e =>
    rw [Option.filter_some]
    show (if (drop.contains i && !e.locked && decide (base ≤ i)) = true then none else some e) = _
    generalize (drop.contains i && !e.locked && decide (base ≤ i)) = b
    cases b <;> rfl

/-- What is forgotten: the entry of a slot that is dropped, at or above the base, when it is not locked. -/
theorem Tlb.forget_gone {t : Tlb} {base i : Nat} {drop : List Nat} (hi : i ∈ drop) (hb : base ≤ i)
    (hl : ∀ e, t.slots[i]? = some (some e) → e.locked = false) (e : TlbEntry) :
    (t.forget base drop).slots[i]? ≠ some (some e) := by
  rw [Tlb.forget_slots]
  cases h : t.slots[i]? with
  | none => nofun
  | some x =>
    rw [Option.map_some, ne_eq, Option.some_inj, Option.filter_eq_some_iff]
    rintro ⟨rfl, hk⟩
    simp [hi, hb, hl e h] at hk

theorem Tlb.forget_kept {t : Tlb} {base i : Nat} {drop : List Nat}
    (h : ¬(i ∈ drop ∧ base ≤ i ∧ ∀ e, t.slots[i]? = some (some e) → e.locked = false)) :
    (t.forget base drop).slots[i]? = t.slots[i]? := by
  rw [Tlb.forget_slots]
  cases hs : t.slots[i]? with
  | none => rfl
  | some x =>
    cases x with
    | none => rfl
    | some e =>
      have hkeep : (!(drop.contains i && !e.locked && decide (base ≤ i))) = true := by
        rw [Bool.not_eq_true']
        by_contra hgone
        rw [Bool.not_eq_false, Bool.and_eq_true, Bool.and_eq_true, List.contains_iff_mem, decide_eq_true_eq,
          Bool.not_eq_true'] at hgone
        obtain ⟨⟨hi, hl⟩, hb⟩ := hgone
        refine h ⟨hi, hb, fun e' he' => ?_⟩
        rw [hs] at he'
        cases he'
        exact hl
      rw [Option.map_some, Option.filter_some, hkeep, if_pos rfl]

theorem Tlb.forget_nil (t : Tlb) (base : Nat) : t.forget base [] = t := by
  have h : (t.forget base []).slots = t.slots := List.ext_getElem? fun i => t.forget_kept (by simp)
  calc t.forget base [] = { t with slots := (t.forget base []).slots } := rfl
    _ = t := by rw [h]

theorem Tlb.lockBase_lockable {t : Tlb} {c : Params} {side : Bool} (h : lockable c side ≠ 0) :
    t.lockBase c side = if c.lockBaseFixedZero then 0 else t.base := by
  rw [Tlb.lockBase, beq_false_of_ne h, Bool.or_false]

theorem Tlb.locks_lockable {t : Tlb} {c : Params} {side : Bool} (h : lockable c side ≠ 0) : t.locks c side = t.p := by
  rw [Tlb.locks, bne_iff_ne.2 h, Bool.and_true]

theorem Tlb.insert_lockable {t : Tlb} {c : Params} {side : Bool} (e : TlbEntry) (choice : Option Nat)
    (h : lockable c side ≠ 0) : t.insert c side e choice =
      if c.lockBaseFixedZero && t.p then
        { t with
          lockSlots := t.lockSlots.set t.victim (some { e with locked := true })
          victim := nextVictim 0 t.victim (dedicatedSlots c t.lockSlots.length) choice }
      else
        { t with
          slots := t.slots.set t.victim (some { e with locked := t.p })
          victim := nextVictim (if c.lockBaseFixedZero then 0 else t.base) t.victim c.tlbEntries choice } := by
  unfold Tlb.insert
  simp only [Tlb.locks_lockable h, Tlb.lockBase_lockable h]
  split
  · next hp => rw [(Bool.and_eq_true_iff.1 hp).2]
  · rfl

theorem Tlb.insert_unlockable {t : Tlb} {c : Params} {side : Bool} (e : TlbEntry) (choice : Option Nat)
    (h : lockable c side = 0) : t.insert c side e choice = { t with
      slots := t.slots.set t.victim (some { e with locked := false })
      victim := nextVictim 0 t.victim c.tlbEntries choice } := by
  have hl : t.locks c side = false := by simp [Tlb.locks, h]
  have hb : t.lockBase c side = 0 := by simp [Tlb.lockBase, h]
  unfold Tlb.insert
  simp only [hl, hb, Bool.and_false, Bool.false_eq_true, if_false]

/-! ### Lookup and translation -/

theorem ushiftRight_beq_iff (a b : Word) (n : Nat) : (a >>> n == b >>> n) = true ↔
    a.toNat / 2 ^ n = b.toNat / 2 ^ n := by
  rw [beq_iff_eq, ← BitVec.toNat_inj, BitVec.toNat_ushiftRight, BitVec.toNat_ushiftRight, Nat.shiftRight_eq_div_pow,
    Nat.shiftRight_eq_div_pow]

theorem popReplacement_nil {s : State} (h : s.replacements = []) : s.popReplacement = (⟨[], none⟩, s) := by
  rw [State.popReplacement, h]

theorem setTlb_tlb (s : State) (side : Bool) : s.setTlb side (s.tlb side) = s := by cases side <;> rfl

/-- The entries of the TLB an access uses that match it. -/
def State.matching (s : State) (va : Word) (k : AccessKind) : List TlbEntry :=
  (s.tlb (usesInstructionTlb s.cfg k)).entries.filter fun e => entryMatches e va (s.contextId.current.setWidth 8)

section
variable {s : State} {va : Word} {k : AccessKind}

theorem lookup_one {e : TlbEntry} (hc : s.contextId.window = []) (hr : s.replacements = [])
    (h : s.matching va k = [e]) : lookup s va k = .ok e s := by
  unfold State.matching at h
  simp only [lookup, useSynced_closed hc, popReplacement_nil hr, Tlb.forget_nil, setTlb_tlb, h]

theorem lookup_none (hc : s.contextId.window = []) (hr : s.replacements = []) (h : s.matching va k = []) :
    lookup s va k = (walk s va k).bind fun e t => .ok e (t.setTlb (usesInstructionTlb s.cfg k)
      ((t.tlb (usesInstructionTlb s.cfg k)).insert t.cfg (usesInstructionTlb s.cfg k) e none)) := by
  unfold State.matching at h
  simp only [lookup, useSynced_closed hc, popReplacement_nil hr, Tlb.forget_nil, setTlb_tlb, h]

theorem lookup_two (hc : s.contextId.window = []) (hr : s.replacements = []) (h : 2 ≤ (s.matching va k).length) :
    lookup s va k = .refused .multipleTlbMatch := by
  obtain ⟨x, y, rest, he⟩ : ∃ x y rest, s.matching va k = x :: y :: rest := by
    match s.matching va k, h with
    | x :: y :: rest, _ => exact ⟨x, y, rest, rfl⟩
  unfold State.matching at he
  simp only [lookup, useSynced_closed hc, popReplacement_nil hr, Tlb.forget_nil, he]

end

/-- The rows of the table of memory types that are reserved or implementation defined. -/
theorem attributesReserved_iff (e : TlbEntry) : attributesReserved e = true ↔ e.tex = 3#3
    ∨ (e.tex, e.c, e.b) ∈ [(1#3, false, true), (1#3, true, false), (2#3, false, true), (2#3, true, false),
      (2#3, true, true)] := by
  unfold attributesReserved
  generalize e.tex = x, e.c = c, e.b = b
  revert x c b
  decide

section
variable {s t u : State} {ctl va : Word} {k : AccessKind} {user : Bool} {e : TlbEntry}

theorem translate_subpages (h : ctlXP ctl = false) : translate s ctl va k user = .refused .subpagesEnabled := by
  rw [translate, h]
  rfl

theorem translate_eq (h : ctlXP ctl = true) : translate s ctl va k user = (lookup s va k).bind fun e s =>
    (checkAccess s e k user va).bind fun _ s =>
      if attributesReserved e then .refused .reservedAttributes else .ok (entryAddress e va) s := by
  rw [translate, h]
  rfl

theorem translate_checked (h : ctlXP ctl = true) (hl : lookup s va k = .ok e t)
    (hc : checkAccess t e k user va = .ok () u) : translate s ctl va k user =
      if attributesReserved e then .refused .reservedAttributes else .ok (entryAddress e va) u := by
  rw [translate_eq h, hl, Res.ok_bind, hc, Res.ok_bind]

end

theorem dataAddress_translated {s : State} {va : Word} {size : AccessSize} (hw : s.sctlr.window = [])
    (hm : ctlM s.sctlr.current = true) (ha : aligned size va = true) (hr : va.toNat + size.bytes ≤ 2 ^ 32)
    (k : AccessKind) (user : Bool) : dataAddress s va size k user = translate s s.sctlr.current va k user := by
  rw [dataAddress, if_neg (Nat.not_lt.2 hr)]
  simp only [useSynced_closed hw, ha, hm]
  rfl

theorem fetchAddress_translated {s : State} (hw : s.sctlr.window = []) (hm : ctlM s.sctlr.current = true) :
    fetchAddress s = translate s s.sctlr.current s.pc .fetch s.user := by
  simp only [fetchAddress, useSynced_closed hw, hm]
  rfl

/-- Settles O59. -/
theorem tlbLookup : Obligations.TlbLookup := by
  refine ⟨?_, ?_, fun t c side e choice h => t.insert_lockable e choice h,
    fun t c side e choice h => t.insert_unlockable e choice h, ?_, ?_, ?_⟩
  · intro base victim entries choice hb hv turn
    have hturn := nextVictim_none (base := base) hv
    refine ⟨hturn, fun h => ?_, fun h h1 h2 => ?_, nextVictim_bounds hb hv⟩
    · rw [nextVictim_some, if_neg fun hc => absurd hc.1 (Nat.not_le.2 h)]
      exact hturn
    · rw [nextVictim_some, if_pos ⟨h, h1, h2⟩]
  · intro t base i drop gone
    exact ⟨fun ⟨hi, hb, hl⟩ => t.forget_gone hi hb hl, t.forget_kept, rfl⟩
  · intro e va n
    have hn : blockLog e.size = n := by
      dsimp only [n]
      cases e.size <;> rfl
    refine ⟨hn, ?_⟩
    rw [entryCovers, hn]
    exact ushiftRight_beq_iff _ _ _
  · intro s va size k user hw hm
    exact ⟨fun ha hr => dataAddress_translated hw hm ha hr k user, fetchAddress_translated hw hm⟩
  · intro s t u va k user ctl e a hc hr side found
    refine ⟨lookup_one hc hr, fun h hw => ?_, fun h hw => ?_, lookup_two hc hr, translate_subpages, fun hxp hl => ?_,
      fun hxp hl => ⟨fun hch => ?_, fun hch => ?_⟩⟩
    · have hcfg : t.cfg = s.cfg := SameButTlb.cfg ((walk_keeps ..).ok hw)
      rw [lookup_none hc hr h, hw, Res.ok_bind, hcfg]
      rfl
    · rw [lookup_none hc hr h, hw]
      rfl
    · rw [translate_eq hxp, hl]
      rfl
    · rw [translate_eq hxp, hl, Res.ok_bind, hch]
      rfl
    · have hx := translate_checked hxp hl hch
      intro reserved
      refine ⟨fun hres => ?_, fun hres => ?_⟩
      · rw [hx, if_pos ((attributesReserved_iff e).2 hres)]
      · rw [if_neg (mt (attributesReserved_iff e).1 hres)] at hx
        exact ⟨_, hx, entryAddress_toNat e va⟩

end Sys2Proof.Machine

/-!
# The table walk

`Walks` names the base register that a walk uses; `Walks.walk_eq` is the walk from there to the first-level descriptor,
and the lemmas about `walkFirst` and `walkSecond` say what each form of descriptor gives.
-/
namespace Sys2Proof.Machine
open Sys2Proof

/-! ### Blocks of a word -/

theorem shift_back_toNat (v : Word) (n : Nat) : ((v >>> n) <<< n).toNat = v.toNat / 2 ^ n * 2 ^ n := by
  rw [BitVec.toNat_shiftLeft, BitVec.toNat_ushiftRight, Nat.shiftRight_eq_div_pow, Nat.shiftLeft_eq]
  exact Nat.mod_eq_of_lt (Nat.lt_of_le_of_lt (Nat.div_mul_le_self ..) v.isLt)

theorem and_high (v : Word) (n : Nat) : v &&& (BitVec.allOnes 32 <<< n) = (v >>> n) <<< n := by
  ext k hk
  simp only [BitVec.getElem_and, BitVec.getElem_shiftLeft, BitVec.getElem_allOnes]
  by_cases h : k < n
  · simp [h]
  · have : n + (k - n) = k := by omega
    simp [h, this, BitVec.getLsbD_eq_getElem hk]

/-- A block and an offset below it. -/
theorem block_or_toNat (a b : Word) {m : Nat} (hb : b.toNat < 2 ^ m) :
    (((a >>> m) <<< m) ||| b).toNat = a.toNat / 2 ^ m * 2 ^ m + b.toNat := by
  rw [BitVec.toNat_or, shift_back_toNat, ← Nat.shiftLeft_eq, Nat.shiftLeft_add_eq_or_of_lt hb]

theorem block_setWidth (d : Word) (n : Nat) :
    ((d >>> n) <<< n).setWidth 40 = BitVec.ofNat 40 (d.toNat / 2 ^ n * 2 ^ n) := by
  refine BitVec.eq_of_toNat_eq ?_
  rw [BitVec.toNat_setWidth, BitVec.toNat_ofNat, shift_back_toNat]

theorem toNat_append_eq_add {a b : Nat} (x : BitVec a) (y : BitVec b) :
    (x ++ y).toNat = x.toNat * 2 ^ b + y.toNat := by
  rw [BitVec.toNat_append, ← Nat.shiftLeft_add_eq_or_of_lt y.isLt, Nat.shiftLeft_eq]

/-! ### Which base register -/

theorem tableN_lt (v : Word) : tableN v < 8 := (v.extractLsb' 0 3).isLt

theorem usesTtbr0_iff (n : Nat) (va : Word) : usesTtbr0 n va = true ↔ n = 0 ∨ va.toNat < 2 ^ (32 - n) := by
  have hshift : va >>> (32 - n) = 0 ↔ va.toNat < 2 ^ (32 - n) := by
    rw [← BitVec.toNat_inj, BitVec.toNat_ushiftRight, Nat.shiftRight_eq_div_pow]
    exact Nat.div_eq_zero_iff_lt (Nat.two_pow_pos _)
  rw [usesTtbr0, Bool.or_eq_true, beq_iff_eq, beq_iff_eq, hshift]

/-- With no write waiting, the walk uses the value `ttbr` of TTBR0, if `low`, or of TTBR1. -/
structure Walks (s : State) (va ttbr : Word) (low : Bool) : Prop where
  sctlr : s.sctlr.window = []
  ttbcr : s.ttbcr.window = []
  select : usesTtbr0 (tableN s.ttbcr.current) va = low
  base : (if low then s.ttbr0 else s.ttbr1) = ⟨ttbr, []⟩

theorem Walks.walk_eq {s : State} {va ttbr : Word} {low : Bool} (h : Walks s va ttbr low) (k : AccessKind) :
    walk s va k =
      if ttbrReserved ttbr then .refused .tableBaseReserved
      else if low && s.ttbr0Insignificant ttbr (tableN s.ttbcr.current) then .refused .tableBaseInsignificant
      else
        (walkRead s (firstLevelAddress ttbr (if low then tableN s.ttbcr.current else 0) va).toNat
          (ctlEE s.sctlr.current) (walkAbort 0b01100#5 none va k)).bind fun d t =>
            walkFirst (t.useSynced t.contextId).2 s.sctlr.current (t.useSynced t.contextId).1 d va k := by
  obtain ⟨hs, ht, hl, hb⟩ := h
  simp only [walk, useSynced_closed hs, useSynced_closed ht, hl, hb, useSynced_closed (r := ⟨ttbr, []⟩) rfl]

theorem Walks.of_low {s : State} {va : Word} (hs : s.sctlr.window = []) (ht : s.ttbcr.window = [])
    (h0 : s.ttbr0.window = []) (h : usesTtbr0 (tableN s.ttbcr.current) va = true) :
    Walks s va s.ttbr0.current true :=
  ⟨hs, ht, h, by rw [if_pos rfl, ← h0]⟩

theorem Walks.of_high {s : State} {va : Word} (hs : s.sctlr.window = []) (ht : s.ttbcr.window = [])
    (h1 : s.ttbr1.window = []) (h : usesTtbr0 (tableN s.ttbcr.current) va = false) :
    Walks s va s.ttbr1.current false :=
  ⟨hs, ht, h, by rw [if_neg Bool.false_ne_true, ← h1]⟩

theorem ttbrReserved_iff (ttbr : Word) : ttbrReserved ttbr = true ↔ ttbr.extractLsb' 3 2 = 1#2 ∨ ttbr.getLsbD 2 = true := by
  rw [ttbrReserved, Bool.or_eq_true, beq_iff_eq]

/-- The index of the descriptor is below the base of its table. -/
theorem table_index_lt {va : Word} {n : Nat} (hn : n < 8) (h : n = 0 ∨ va.toNat < 2 ^ (32 - n)) :
    va.toNat / 2 ^ 20 * 4 < 2 ^ (14 - n) := by
  have hva : va.toNat < 2 ^ 20 * 2 ^ (12 - n) := by
    rw [← Nat.pow_add]
    obtain rfl | h := h
    · exact va.isLt
    · rwa [show 20 + (12 - n) = 32 - n by omega]
  have hpow : 2 ^ (14 - n) = 2 ^ (12 - n) * 4 := by
    rw [show 14 - n = 12 - n + 2 by omega, Nat.pow_add]
  rw [hpow]
  exact Nat.mul_lt_mul_of_pos_right (Nat.div_lt_of_lt_mul hva) (by decide)

theorem firstLevelAddress_toNat {ttbr va : Word} {x : Nat} (h : va.toNat / 2 ^ 20 * 4 < 2 ^ (14 - x)) :
    (firstLevelAddress ttbr x va).toNat = ttbr.toNat / 2 ^ (14 - x) * 2 ^ (14 - x) + va.toNat / 2 ^ 20 * 4 := by
  have hindex : ((va >>> 20) <<< 2).toNat = va.toNat / 2 ^ 20 * 4 := by
    rw [BitVec.toNat_shiftLeft, BitVec.toNat_ushiftRight, Nat.shiftRight_eq_div_pow, Nat.shiftLeft_eq]
    have := va.isLt
    omega
  rw [firstLevelAddress, block_or_toNat _ _ (by rwa [hindex]), hindex]

theorem Walks.address {s : State} {va ttbr : Word} {low : Bool} (h : Walks s va ttbr low) {x : Nat}
    (hx : x = if low then tableN s.ttbcr.current else 0) :
    (firstLevelAddress ttbr x va).toNat = ttbr.toNat / 2 ^ (14 - x) * 2 ^ (14 - x) + va.toNat / 2 ^ 20 * 4 := by
  refine firstLevelAddress_toNat ?_
  subst hx
  cases low with
  | false => exact table_index_lt (n := 0) (by decide) (.inl rfl)
  | true => exact table_index_lt (tableN_lt _) ((usesTtbr0_iff _ va).1 h.select)

theorem walkRead_served {s : State} {pa : Nat} {big : Bool} (hb : backed s.cfg pa 4 = true) (hr : s.responses = [])
    (i : AbortInfo) : walkRead s pa big i = .ok (assemble big (s.mem.readBytes pa 4)) s :=
  walkRead_answered (answered_nil ⟨hb, hr, rfl⟩) nofun

/-! ### The first-level descriptor -/

theorem getLsbD_of_low {d : Word} {x : BitVec 2} (h : d.extractLsb' 0 2 = x) :
    d.getLsbD 1 = x.getLsbD 1 ∧ d.getLsbD 0 = x.getLsbD 0 := by
  subst h
  simp

section
variable {s : State} {ctl contextId d va : Word} {k : AccessKind}

theorem walkFirst_fault (h : d.extractLsb' 0 2 = 0#2 ∨ d.extractLsb' 0 2 = 3#2) :
    walkFirst s ctl contextId d va k = .abort (walkAbort 0b00101#5 none va k) s := by
  obtain h | h := h
  · obtain ⟨h1, h0⟩ : d.getLsbD 1 = false ∧ d.getLsbD 0 = false := getLsbD_of_low h
    simp only [walkFirst, h1, h0]
  · obtain ⟨h1, h0⟩ : d.getLsbD 1 = true ∧ d.getLsbD 0 = true := getLsbD_of_low h
    simp only [walkFirst, h1, h0]

theorem walkFirst_block (h : d.extractLsb' 0 2 = 2#2) : walkFirst s ctl contextId d va k =
    if d.getLsbD 9 || d.getLsbD 19 then .refused .descriptorReserved
    else if !d.getLsbD 18 then .ok (sectionEntry (entryBase ctl contextId) d va) s
    else if !s.cfg.supersections then .refused .supersectionUnsupported
    else if (d.extractLsb' 5 4 ++ d.extractLsb' 20 4).toNat < 2 ^ s.cfg.paExtraBits then
      .ok (supersectionEntry (entryBase ctl contextId) d va) s
    else .refused .supersectionUnsupported := by
  obtain ⟨h1, h0⟩ : d.getLsbD 1 = true ∧ d.getLsbD 0 = false := getLsbD_of_low h
  simp only [walkFirst, h1, h0]

theorem walkFirst_section (h : d.extractLsb' 0 2 = 2#2) (h9 : d.getLsbD 9 = false) (h19 : d.getLsbD 19 = false)
    (h18 : d.getLsbD 18 = false) :
    walkFirst s ctl contextId d va k = .ok (sectionEntry (entryBase ctl contextId) d va) s := by
  rw [walkFirst_block h, h9, h19, h18]
  rfl

theorem extra_toNat (d : Word) : (d.extractLsb' 5 4 ++ d.extractLsb' 20 4).toNat =
    (d.extractLsb' 5 4).toNat * 2 ^ 4 + (d.extractLsb' 20 4).toNat := toNat_append_eq_add _ _

theorem walkFirst_supersection (h : d.extractLsb' 0 2 = 2#2) (h9 : d.getLsbD 9 = false) (h19 : d.getLsbD 19 = false)
    (h18 : d.getLsbD 18 = true) (hs : s.cfg.supersections = true)
    (he : (d.extractLsb' 5 4).toNat * 2 ^ 4 + (d.extractLsb' 20 4).toNat < 2 ^ s.cfg.paExtraBits) :
    walkFirst s ctl contextId d va k = .ok (supersectionEntry (entryBase ctl contextId) d va) s := by
  rw [walkFirst_block h, h9, h19, h18, hs, extra_toNat]
  exact if_pos he

theorem walkFirst_unsupported (h : d.extractLsb' 0 2 = 2#2) (h9 : d.getLsbD 9 = false) (h19 : d.getLsbD 19 = false)
    (h18 : d.getLsbD 18 = true) (hs : s.cfg.supersections = false
      ∨ 2 ^ s.cfg.paExtraBits ≤ (d.extractLsb' 5 4).toNat * 2 ^ 4 + (d.extractLsb' 20 4).toNat) :
    walkFirst s ctl contextId d va k = .refused .supersectionUnsupported := by
  rw [walkFirst_block h, h9, h19, h18, extra_toNat]
  obtain hs | hs := hs
  · rw [hs]
    rfl
  · cases s.cfg.supersections with
    | false => rfl
    | true => exact if_neg (Nat.not_lt.2 hs)

theorem walkFirst_table (h : d.extractLsb' 0 2 = 1#2) : walkFirst s ctl contextId d va k =
    if d.getLsbD 9 || d.extractLsb' 2 3 != 0 then .refused .descriptorReserved
    else walkSecond s ctl contextId d va k := by
  obtain ⟨h1, h0⟩ : d.getLsbD 1 = false ∧ d.getLsbD 0 = true := getLsbD_of_low h
  simp only [walkFirst, h1, h0]

/-- The address of the second-level descriptor. -/
theorem secondLevelAddress_toNat (d va : Word) :
    ((d &&& 0xFFFFFC00#32) ||| ((va.extractLsb' 12 8).setWidth 32 <<< 2)).toNat =
      d.toNat / 2 ^ 10 * 2 ^ 10 + va.toNat / 2 ^ 12 % 2 ^ 8 * 4 := by
  have hindex : ((va.extractLsb' 12 8).setWidth 32 <<< 2).toNat = va.toNat / 2 ^ 12 % 2 ^ 8 * 4 := by
    rw [BitVec.toNat_shiftLeft, BitVec.toNat_setWidth, BitVec.extractLsb'_toNat, Nat.shiftRight_eq_div_pow,
      Nat.shiftLeft_eq]
    omega
  have hmask : (0xFFFFFC00#32 : Word) = BitVec.allOnes 32 <<< 10 := by decide
  rw [hmask, and_high, block_or_toNat _ _ (by rw [hindex]; omega), hindex]

theorem walkSecond_served {d2 : Word} {address : Nat}
    (ha : address = d.toNat / 2 ^ 10 * 2 ^ 10 + va.toNat / 2 ^ 12 % 2 ^ 8 * 4) (hb : backed s.cfg address 4 = true)
    (hr : s.responses = []) (hd : assemble (ctlEE ctl) (s.mem.readBytes address 4) = d2) :
    walkSecond s ctl contextId d va k =
      if d2.getLsbD 1 then .ok (smallPageEntry (entryBase ctl contextId) d d2 va) s
      else if d2.getLsbD 0 then
        if d2.extractLsb' 6 3 != 0 then .refused .descriptorReserved
        else .ok (largePageEntry (entryBase ctl contextId) d d2 va) s
      else .abort (walkAbort 0b00111#5 (some (d.extractLsb' 5 4)) va k) s := by
  rw [← secondLevelAddress_toNat] at ha
  subst ha hd
  simp only [walkSecond, walkRead_served hb hr, Res.ok_bind]

end

/-! ### The entries -/

/-- The entry of a section or supersection descriptor `d`. -/
def blockEntry (s : State) (va d : Word) (size : BlockSize) (domain : BitVec 4) (pa : Nat) : TlbEntry :=
  { mva := (va >>> blockLog size) <<< blockLog size, size := size, pa := BitVec.ofNat 40 pa
    global := !d.getLsbD 17, asid := s.contextId.current.setWidth 8, domain := domain, apx := d.getLsbD 15
    ap := d.extractLsb' 10 2, sBit := ctlS s.sctlr.current, rBit := ctlR s.sctlr.current, xn := d.getLsbD 4
    tex := d.extractLsb' 12 3, c := d.getLsbD 3, b := d.getLsbD 2, shared := d.getLsbD 16
    level := .firstLevel, locked := false }

/-- The entry of a page descriptor `d2` under the table descriptor `d`. -/
def pageEntry (s : State) (va d d2 : Word) (size : BlockSize) (xn : Bool) (tex : BitVec 3) : TlbEntry :=
  { mva := (va >>> blockLog size) <<< blockLog size, size := size
    pa := BitVec.ofNat 40 (d2.toNat / 2 ^ blockLog size * 2 ^ blockLog size), global := !d2.getLsbD 11
    asid := s.contextId.current.setWidth 8, domain := d.extractLsb' 5 4, apx := d2.getLsbD 9
    ap := d2.extractLsb' 4 2, sBit := ctlS s.sctlr.current, rBit := ctlR s.sctlr.current, xn := xn
    tex := tex, c := d2.getLsbD 3, b := d2.getLsbD 2, shared := d2.getLsbD 10
    level := .secondLevel, locked := false }

section
variable (s : State) (va d d2 : Word)

theorem sectionEntry_eq : sectionEntry (entryBase s.sctlr.current s.contextId.current) d va =
    blockEntry s va d .section1MB (d.extractLsb' 5 4) (d.toNat / 2 ^ 20 * 2 ^ 20) := by
  have hmask : (0xFFF00000#32 : Word) = BitVec.allOnes 32 <<< 20 := by decide
  rw [sectionEntry, hmask, and_high, and_high, block_setWidth]
  rfl

theorem supersection_pa : d.extractLsb' 5 4 ++ d.extractLsb' 20 4 ++ d.extractLsb' 24 8 ++ 0#24 =
    BitVec.ofNat 40 (((d.extractLsb' 5 4).toNat * 2 ^ 4 + (d.extractLsb' 20 4).toNat) * 2 ^ 32
      + d.toNat / 2 ^ 24 * 2 ^ 24) := by
  refine BitVec.eq_of_toNat_eq ?_
  have h5 := (d.extractLsb' 5 4).isLt
  have h20 := (d.extractLsb' 20 4).isLt
  have h24 : (d.extractLsb' 24 8).toNat = d.toNat / 2 ^ 24 := by
    rw [BitVec.extractLsb'_toNat, Nat.shiftRight_eq_div_pow]
    have := d.isLt
    omega
  have hd := d.isLt
  rw [toNat_append_eq_add, toNat_append_eq_add, toNat_append_eq_add, h24, BitVec.toNat_ofNat, BitVec.toNat_ofNat]
  omega

theorem supersectionEntry_eq : supersectionEntry (entryBase s.sctlr.current s.contextId.current) d va =
    blockEntry s va d .supersection16MB 0#4 (((d.extractLsb' 5 4).toNat * 2 ^ 4 + (d.extractLsb' 20 4).toNat) * 2 ^ 32
      + d.toNat / 2 ^ 24 * 2 ^ 24) := by
  have hmask : (0xFF000000#32 : Word) = BitVec.allOnes 32 <<< 24 := by decide
  rw [supersectionEntry, hmask, and_high, supersection_pa]
  rfl

theorem largePageEntry_eq : largePageEntry (entryBase s.sctlr.current s.contextId.current) d d2 va =
    pageEntry s va d d2 .largePage (d2.getLsbD 15) (d2.extractLsb' 12 3) := by
  have hmask : (0xFFFF0000#32 : Word) = BitVec.allOnes 32 <<< 16 := by decide
  rw [largePageEntry, hmask, and_high, and_high, block_setWidth]
  rfl

theorem smallPageEntry_eq : smallPageEntry (entryBase s.sctlr.current s.contextId.current) d d2 va =
    pageEntry s va d d2 .smallPage (d2.getLsbD 0) (d2.extractLsb' 6 3) := by
  have hmask : (0xFFFFF000#32 : Word) = BitVec.allOnes 32 <<< 12 := by decide
  rw [smallPageEntry, hmask, and_high, and_high, block_setWidth]
  rfl

end

/-! ### A walk that memory serves -/

section
variable {s : State} {va ttbr : Word} {low : Bool} {k : AccessKind}

theorem Walks.reserved (h : Walks s va ttbr low) (hb : ttbr.extractLsb' 3 2 = 1#2 ∨ ttbr.getLsbD 2 = true) :
    walk s va k = .refused .tableBaseReserved := by
  rw [h.walk_eq, if_pos ((ttbrReserved_iff ttbr).2 hb)]

theorem Walks.insignificant (h : Walks s va ttbr low) (hb : ¬(ttbr.extractLsb' 3 2 = 1#2 ∨ ttbr.getLsbD 2 = true))
    (hi : low = true ∧ s.ttbr0Insignificant ttbr (tableN s.ttbcr.current) = true) :
    walk s va k = .refused .tableBaseInsignificant := by
  rw [h.walk_eq, if_neg (mt (ttbrReserved_iff ttbr).1 hb), if_pos (Bool.and_eq_true_iff.2 hi)]

/-- Where no refusal stops it, the walk reads the first-level descriptor. -/
theorem Walks.reads (h : Walks s va ttbr low) (hb : ¬(ttbr.extractLsb' 3 2 = 1#2 ∨ ttbr.getLsbD 2 = true))
    (hi : ¬(low = true ∧ s.ttbr0Insignificant ttbr (tableN s.ttbcr.current) = true)) :
    walk s va k = (walkRead s (firstLevelAddress ttbr (if low then tableN s.ttbcr.current else 0) va).toNat
      (ctlEE s.sctlr.current) (walkAbort 0b01100#5 none va k)).bind fun d t =>
        walkFirst (t.useSynced t.contextId).2 s.sctlr.current (t.useSynced t.contextId).1 d va k := by
  rw [h.walk_eq, if_neg (mt (ttbrReserved_iff ttbr).1 hb), if_neg (mt Bool.and_eq_true_iff.1 hi)]

theorem Walks.served (h : Walks s va ttbr low) (hb : ¬(ttbr.extractLsb' 3 2 = 1#2 ∨ ttbr.getLsbD 2 = true))
    (hi : ¬(low = true ∧ s.ttbr0Insignificant ttbr (tableN s.ttbcr.current) = true)) (hc : s.contextId.window = [])
    (hr : s.responses = []) {address x : Nat} {d : Word} (hx : x = if low then tableN s.ttbcr.current else 0)
    (ha : address = ttbr.toNat / 2 ^ (14 - x) * 2 ^ (14 - x) + va.toNat / 2 ^ 20 * 4)
    (hback : backed s.cfg address 4 = true) (hd : assemble (ctlEE s.sctlr.current) (s.mem.readBytes address 4) = d) :
    walk s va k = walkFirst s s.sctlr.current s.contextId.current d va k := by
  rw [← h.address hx] at ha
  subst ha hd
  rw [h.reads hb hi, ← hx, walkRead_served hback hr, Res.ok_bind, useSynced_closed hc]

end

theorem or_true_of {a b : Bool} (h : a = true ∨ b = true) : (a || b) = true := Bool.or_eq_true_iff.2 h

section
variable {s : State} {va d d2 : Word} {k : AccessKind}

/-- Under a table descriptor, the second-level descriptor `d2` decides. -/
theorem walkFirst_second {address : Nat} (h : d.extractLsb' 0 2 = 1#2) (h9 : d.getLsbD 9 = false)
    (h23 : d.extractLsb' 2 3 = 0#3) (ha : address = d.toNat / 2 ^ 10 * 2 ^ 10 + va.toNat / 2 ^ 12 % 2 ^ 8 * 4)
    (hb : backed s.cfg address 4 = true) (hr : s.responses = [])
    (hd : assemble (ctlEE s.sctlr.current) (s.mem.readBytes address 4) = d2) :
    walkFirst s s.sctlr.current s.contextId.current d va k =
      if d2.getLsbD 1 then .ok (pageEntry s va d d2 .smallPage (d2.getLsbD 0) (d2.extractLsb' 6 3)) s
      else if d2.getLsbD 0 then
        if d2.extractLsb' 6 3 != 0 then .refused .descriptorReserved
        else .ok (pageEntry s va d d2 .largePage (d2.getLsbD 15) (d2.extractLsb' 12 3)) s
      else .abort (walkAbort 0b00111#5 (some (d.extractLsb' 5 4)) va k) s := by
  rw [walkFirst_table h, h9, h23, ← smallPageEntry_eq, ← largePageEntry_eq]
  exact walkSecond_served ha hb hr hd

end

/-- Nothing after the choice of the base register is refused for its insignificant bits. -/
theorem walkFirst_not_insignificant (s : State) (ctl contextId d va : Word) (k : AccessKind) :
    walkFirst s ctl contextId d va k ≠ .refused .tableBaseInsignificant := by
  have hsecond : walkSecond s ctl contextId d va k ≠ .refused .tableBaseInsignificant := by
    simp only [walkSecond, walkRead]
    repeat' split
    all_goals simp only [Res.bind]
    all_goals repeat' split
    all_goals nofun
  unfold walkFirst
  repeat' split
  all_goals first | exact hsecond | nofun

theorem Walks.insignificant_iff {s : State} {va ttbr : Word} {k : AccessKind} (h : Walks s va ttbr true)
    (hb : ¬(ttbr.extractLsb' 3 2 = 1#2 ∨ ttbr.getLsbD 2 = true)) : walk s va k = .refused .tableBaseInsignificant
      ↔ s.ttbr0Insignificant ttbr (tableN s.ttbcr.current) = true := by
  refine ⟨fun hw => ?_, fun hi => h.insignificant hb ⟨rfl, hi⟩⟩
  by_contra hi
  rw [h.reads hb fun hi' => hi hi'.2] at hw
  unfold walkRead at hw
  simp only at hw
  repeat' split at hw
  all_goals first | cases hw | exact walkFirst_not_insignificant _ _ _ _ _ _ hw

/-! ### TTBR0 after a write of the TTBCR -/

theorem writeChecked_eq_ok {v zero : Word} {t u : State} (h : writeChecked v zero t = .ok () u) :
    v &&& zero = 0 ∧ t = u := by
  by_cases hz : v &&& zero = 0
  · rw [writeChecked_ok hz] at h
    cases h
    exact ⟨hz, rfl⟩
  · rw [writeChecked_refused hz] at h
    cases h

/-- A value that MCR wrote to TTBR0 has IMP clear. -/
theorem getLsbD_of_ttbrZero {v : Word} {low : Nat} (h : v &&& ttbrZero low = 0) : v.getLsbD 2 = false := by
  have h2 : (v &&& ttbrZero low).getLsbD 2 = (0 : Word).getLsbD 2 := by rw [h]
  have hbit : (ttbrZero low).getLsbD 2 = true := by
    rw [ttbrZero, BitVec.getLsbD_or]
    exact Bool.or_eq_true_iff.2 (.inr rfl)
  rw [BitVec.getLsbD_and, hbit, Bool.and_true] at h2
  exact h2

/-- The corner case: with a write of TTBR0, then one of the TTBCR, then a synchronisation point, the bits below the base
count. -/
theorem ttbr0Insignificant_corner (s : State) (v w : Word) :
    ((s.writeTtbr0 v).writeTtbcr w).closeWindows.ttbr0Insignificant v (tableN w) = true
      ↔ v &&& bitRange (14 - tableN w) 5 ≠ 0 := by
  rw [ttbr0Insignificant_iff]
  exact ⟨And.left, fun h => ⟨h, _, List.mem_cons_self .., rfl,
    (List.mem_insert_self : tableN w ∈ List.insert (tableN w) [])⟩⟩

/-! ### A section end to end -/

theorem extract_zero_of_and {v : Word} (h : v &&& 0x00003FFF#32 = 0) :
    v.toNat % 2 ^ 14 = 0 ∧ v.extractLsb' 3 2 = 0#2 ∧ v.getLsbD 2 = false ∧ v &&& bitRange 14 5 = 0 := by
  have hmod : v.toNat % 2 ^ 14 = 0 := by
    rw [← Nat.and_two_pow_sub_one_eq_mod]
    exact congrArg BitVec.toNat h
  have hand (m : Word) (hm : 0x00003FFF#32 &&& m = m) : v &&& m = 0 := by
    rw [← hm, ← BitVec.and_assoc, h]
    exact BitVec.zero_and
  refine ⟨hmod, ?_, ?_, hand _ (by decide)⟩
  · refine BitVec.eq_of_toNat_eq ?_
    rw [BitVec.extractLsb'_toNat, Nat.shiftRight_eq_div_pow]
    show _ = 0
    omega
  · rw [BitVec.getLsbD, Nat.testBit_eq_decide_div_mod_eq]
    refine decide_eq_false ?_
    omega

/-- The walk of a section with N = 0. -/
theorem walk_section {s : State} {va d : Word} {k : AccessKind} (hs : s.sctlr.window = []) (h0 : s.ttbr0.window = [])
    (ht : s.ttbcr.window = []) (hc : s.contextId.window = []) (hr : s.responses = []) (htb : s.ttbcr.current = 0)
    (hz : s.ttbr0.current &&& 0x00003FFF#32 = 0)
    (hback : backed s.cfg (s.ttbr0.current + (va >>> 20) * 4).toNat 4 = true)
    (hd : assemble (ctlEE s.sctlr.current) (s.mem.readBytes (s.ttbr0.current + (va >>> 20) * 4).toNat 4) = d)
    (hmask : d &&& 0x000C0203#32 = 2#32) : walk s va k =
      .ok (blockEntry s va d .section1MB (d.extractLsb' 5 4) (d.toNat / 2 ^ 20 * 2 ^ 20)) s := by
  have hn : tableN s.ttbcr.current = 0 := by rw [htb]; rfl
  have hwalks := Walks.of_low hs ht h0 ((usesTtbr0_iff _ va).2 (.inl hn))
  obtain ⟨hmod, hrgn, himp, hbelow⟩ := extract_zero_of_and hz
  have ha : (s.ttbr0.current + (va >>> 20) * 4).toNat =
      s.ttbr0.current.toNat / 2 ^ (14 - 0) * 2 ^ (14 - 0) + va.toNat / 2 ^ 20 * 4 := by
    have hva := va.isLt
    have htt := s.ttbr0.current.isLt
    rw [BitVec.toNat_add, BitVec.toNat_mul, BitVec.toNat_ushiftRight, Nat.shiftRight_eq_div_pow]
    show (_ + va.toNat / 2 ^ 20 * 4 % 2 ^ 32) % 2 ^ 32 = _
    omega
  have hw := hwalks.served (k := k) (fun hb => hb.elim (fun h => by rw [hrgn] at h; cases h)
      fun h => Bool.false_ne_true (himp.symm.trans h))
    (fun hi => ((ttbr0Insignificant_iff _ _ _).1 hi.2).1 (by rw [hn]; exact hbelow)) hc hr hn.symm ha hback hd
  have hbit (j : Nat) : d.getLsbD j = true ∧ (0x000C0203#32 : Word).getLsbD j = true ↔ (2#32 : Word).getLsbD j = true := by
    rw [← Bool.and_eq_true, ← BitVec.getLsbD_and, hmask]
  have hclear (j : Nat) (hj : (0x000C0203#32 : Word).getLsbD j = true) (h2 : (2#32 : Word).getLsbD j = false) :
      d.getLsbD j = false := by
    by_contra h
    exact Bool.false_ne_true (h2.symm.trans ((hbit j).1 ⟨by rwa [Bool.not_eq_false] at h, hj⟩))
  have hlow : d.extractLsb' 0 2 = 2#2 := by
    have hand : (d &&& 0x000C0203#32).extractLsb' 0 2 = d.extractLsb' 0 2 := by
      refine BitVec.eq_of_getLsbD_eq fun j hj => ?_
      rw [BitVec.getLsbD_extractLsb', BitVec.getLsbD_extractLsb', BitVec.getLsbD_and]
      interval_cases j <;> simp
    rw [← hand, hmask]
    rfl
  rw [hw, walkFirst_section hlow (hclear 9 rfl rfl) (hclear 19 rfl rfl) (hclear 18 rfl rfl), sectionEntry_eq]

theorem blockEntry_attributes {s : State} {va d : Word} {size : BlockSize} {domain : BitVec 4} {pa : Nat}
    (h : d.extractLsb' 12 3 = 0#3) : ¬attributesReserved (blockEntry s va d size domain pa) = true := by
  have htex : (blockEntry s va d size domain pa).tex = 0#3 := h
  rw [attributesReserved_iff, htex]
  simp

/-- A translation that misses, in a domain the program manages, uses the entry of its walk. -/
theorem translate_miss {s : State} {ctl va : Word} {k : AccessKind} {user : Bool} {e : TlbEntry}
    (hxp : ctlXP ctl = true) (hc : s.contextId.window = []) (hrep : s.replacements = []) (hnone : s.matching va k = [])
    (hw : walk s va k = .ok e s) (hda : s.dacr.window = []) (hdom : domainAccess s.dacr.current e.domain = 3#2)
    (hattr : ¬attributesReserved e = true) : ∃ t, translate s ctl va k user = .ok (entryAddress e va) t := by
  have hl := lookup_none hc hrep hnone
  rw [hw, Res.ok_bind] at hl
  have hx := translate_checked hxp hl (checkAccess_manager (k := k) (user := user) (mva := va)
    (by rw [State.setTlb_dacr, useSynced_closed hda]; exact hdom))
  rw [if_neg hattr] at hx
  exact ⟨_, hx⟩

theorem section_address (s : State) (va d : Word) (domain : BitVec 4) :
    entryAddress (blockEntry s va d .section1MB domain (d.toNat / 2 ^ 20 * 2 ^ 20)) va =
      ((d &&& 0xFFF00000#32) ||| (va &&& 0x000FFFFF#32)).setWidth 40 := by
  have hmask : (0xFFF00000#32 : Word) = BitVec.allOnes 32 <<< 20 := by decide
  have hlow : (va &&& 0x000FFFFF#32).toNat = va.toNat % 2 ^ 20 := Nat.and_two_pow_sub_one_eq_mod va.toNat 20
  have hd := d.isLt
  refine BitVec.eq_of_toNat_eq ?_
  rw [entryAddress_toNat, hmask, and_high, setWidth_40_toNat, block_or_toNat _ _ (by rw [hlow]; omega), hlow]
  show (BitVec.ofNat 40 (d.toNat / 2 ^ 20 * 2 ^ 20)).toNat / 2 ^ 20 * 2 ^ 20 + va.toNat % 2 ^ 20 = _
  rw [BitVec.toNat_ofNat]
  omega

/-- Settles O60. -/
theorem tableWalk : Obligations.TableWalk := by
  refine ⟨?_, ?_, ?_⟩
  · intro s va d d2 k hs h0 h1 ht hc hr n first ttbr x hbase bad insignificant address ee abort block page
    obtain ⟨low, hwalks, hlow, hx⟩ : ∃ low, Walks s va ttbr low ∧ (low = true ↔ first)
        ∧ x = if low then tableN s.ttbcr.current else 0 := by
      obtain ⟨hf, rfl, rfl⟩ | ⟨hf, rfl, rfl⟩ := hbase
      · exact ⟨true, .of_low hs ht h0 ((usesTtbr0_iff _ _).2 hf), iff_of_true rfl hf, rfl⟩
      · exact ⟨false, .of_high hs ht h1 (Bool.eq_false_iff.2 (mt (usesTtbr0_iff _ _).1 hf)),
          iff_of_false Bool.false_ne_true hf, rfl⟩
    have hinsig : (low = true ∧ s.ttbr0Insignificant ttbr (tableN s.ttbcr.current) = true) ↔ insignificant := by
      rw [hlow, ttbr0Insignificant_iff]
      rfl
    refine ⟨hwalks.reserved, fun hb hi => hwalks.insignificant hb (hinsig.2 hi), fun hb hi hback hd => ?_⟩
    have hw : walk s va k = walkFirst s s.sctlr.current s.contextId.current d va k :=
      hwalks.served hb (mt hinsig.1 hi) hc hr hx rfl hback hd
    refine ⟨fun h => hw.trans (walkFirst_fault h), fun h2 => ⟨fun hres => ?_, fun h9 h19 => ⟨fun h18 => ?_, fun h18 => ?_⟩⟩,
      fun h1 => ?_⟩
    · rw [hw, walkFirst_block h2, if_pos (or_true_of hres)]
    · rw [hw, walkFirst_section h2 h9 h19 h18, sectionEntry_eq]
      rfl
    · refine ⟨fun hsup he => ?_, fun hu => hw.trans (walkFirst_unsupported h2 h9 h19 h18 hu)⟩
      rw [hw, walkFirst_supersection h2 h9 h19 h18 hsup he, supersectionEntry_eq]
      rfl
    · intro second
      refine ⟨fun hres => ?_, fun h9 h23 hback2 hd2 => ?_⟩
      · rw [hw, walkFirst_table h1]
        exact if_pos (or_true_of (hres.imp id bne_iff_ne.2))
      · have hsecond := hw.trans (walkFirst_second h1 h9 h23 rfl hback2 hr hd2)
        refine ⟨fun h => ?_, fun h h6 => ?_, fun h h6 => ?_, fun h => ?_⟩
        · obtain ⟨b1, b0⟩ : d2.getLsbD 1 = false ∧ d2.getLsbD 0 = false := getLsbD_of_low h
          rw [b1, b0] at hsecond
          exact hsecond
        · obtain ⟨b1, b0⟩ : d2.getLsbD 1 = false ∧ d2.getLsbD 0 = true := getLsbD_of_low h
          rw [b1, b0] at hsecond
          exact hsecond.trans (if_pos (bne_iff_ne.2 h6))
        · obtain ⟨b1, b0⟩ : d2.getLsbD 1 = false ∧ d2.getLsbD 0 = true := getLsbD_of_low h
          rw [b1, b0, h6] at hsecond
          exact hsecond
        · rw [h] at hsecond
          exact hsecond
  · intro s s1 s2 s3 v w va k hv hw hflush hrgn hva
    obtain ⟨hz, rfl⟩ := writeChecked_eq_ok hv
    obtain ⟨hsmall, rfl⟩ := writeChecked_eq_ok hw
    obtain ⟨-, rfl⟩ := writeChecked_eq_ok hflush
    have hn : tableN w = w.toNat := tableN_of_small hsmall
    have hlow : usesTtbr0 (tableN w) va = true := by
      rw [usesTtbr0_iff, hn]
      exact hva.imp (fun h => by rw [h]; rfl) id
    have hwalks : Walks ((s.writeTtbr0 v).writeTtbcr w).closeWindows va v true := .of_low rfl rfl rfl hlow
    have himp (h2 : v.getLsbD 2 = true) : False := Bool.false_ne_true ((getLsbD_of_ttbrZero hz).symm.trans h2)
    rw [← hn]
    exact (hwalks.insignificant_iff fun hb => hb.elim hrgn himp).trans (ttbr0Insignificant_corner s v w)
  · intro s va d k user hs h0 ht hc hda hrep hr huni hempty hxp htb hz address hback hd hmask htex hdom
    have hw := walk_section hs h0 ht hc hr htb hz hback hd hmask (va := va) (k := k)
    have hside : usesInstructionTlb s.cfg k = false := by rw [usesInstructionTlb, huni, Bool.not_true, Bool.and_false]
    have hnone : s.matching va k = [] := by
      rw [State.matching, hside]
      show s.tlbD.entries.filter _ = []
      rw [hempty, List.filter_nil]
    obtain ⟨t, hx⟩ := translate_miss (user := user) hxp hc hrep hnone hw hda hdom (blockEntry_attributes htex)
    rw [section_address] at hx
    exact ⟨t, hx⟩

end Sys2Proof.Machine
